-- ==== Sys2Proof/Word.lean ====
section
/-! DEFINITION. The words the manual handles as bits (bytes of the design link and the chains,
ordinals counted modulo 65,536) and the index types of lines and channels. -/

namespace Sys2Proof

/-- A byte on the design link or on a hook chain (10 R177, R198). -/
abbrev Byte := BitVec 8

/-- A 16-bit word: a check value, a design row, the pattern epoch (10 R178, 02 R35). -/
abbrev Word16 := BitVec 16

/-- The sequence number of a pick, counted modulo 65,536 (00 section 4.2). -/
abbrev Ordinal := BitVec 16

/-- A driver channel DC0 to DC19 (08 section head). -/
abbrev DriverIdx := Fin 20

/-- A feeder line FS1 to FS12; index 0 stands for FS1 (07 R125). -/
abbrev FeederIdx := Fin 12

/-- A hook chain 0 to 3 (04 section 4.1). -/
abbrev ChainIdx := Fin 4

end Sys2Proof
end

