-- ==== Sys2Proof/Syntax.lean ====
section
/-! DEFINITION. The commands the block takes: one constructor for each row of spec/opcode_table.json, in its
order. The rows carry no operands in the table; the operands here are what the rule of the row needs from outside
the part (log 3). A command that the table describes as a frame taken from the receive buffer has no operand: the
frame's payload stands in the buffer (10 R181). -/

namespace Sys2Proof

/-- The level of a line. -/
inductive Level where
  | low
  | high
  deriving DecidableEq, Repr

/-- The two quadrature lines of the encoder (05 R86). -/
inductive EncLine where
  | encA
  | encB
  deriving DecidableEq, Repr

/-- The three encoder inputs (05 R86). -/
inductive EncInput where
  | encA
  | encB
  | encZ
  deriving DecidableEq, Repr

/-- The inputs of the Weft Monitor (07 R125). -/
inductive Sensor where
  | arv
  | feeder (line : FeederIdx)
  deriving DecidableEq, Repr

/-- Which of the causes waiting the Run Controller takes as a command ends (09 R173: of two events that fall together
either may be taken first; log 6). -/
inductive CausesTaken where
  /-- Every cause waiting, the one handed first before the others. -/
  | every
  /-- The causes at these places of the list of those still waiting, in turn; the others wait on. -/
  | only (places : List Nat)
  deriving DecidableEq, Repr

/-- A command of the table. -/
inductive Instr where
  /-- RESETn goes low, or power is applied (R199, R201). -/
  | hardReset
  /-- RESETn goes high (R200). -/
  | resetRelease
  /-- A start byte without a framing error arrives in HUNT (R177, R180). -/
  | frameStart
  /-- The last check byte of a frame arrives, with the level of its stop bit (R178). -/
  | frameReceived (byte : Byte) (stopBit : Level)
  /-- More than 1 ms has passed between two bytes of a frame (R177). -/
  | byteGapTimeout
  /-- The last byte of the frame being sent has left on DLTX (R184). The transmitter chooses its next frame as this
  command ends, or `wait` commands later: the fill of the answer slot and the choice may fall together (log 11). -/
  | transmitFrameEnd (wait : Nat := 0)
  /-- The head frame, a PICK frame, is taken (R10). -/
  | pickFrame
  /-- The head frame, a TABLE frame for MACHINE, is taken (R30). -/
  | tableMachine
  /-- The head frame, a TABLE frame for SECTIONS, is taken (R31). -/
  | tableSections
  /-- The head frame, a TABLE frame for EFFECTS, is taken (R32). -/
  | tableEffects
  /-- The head frame, a TABLE frame for WEAVES, is taken (R33). -/
  | tableWeaves
  /-- The head frame, a TABLE frame for PROFILES, is taken (R37). -/
  | tableProfiles
  /-- The head frame, a TABLE frame for WEFTS, is taken (R39). -/
  | tableWefts
  /-- The head frame, a TABLE frame for DRIVERS, is taken (R40). -/
  | tableDrivers
  /-- The head frame, a TABLE frame for no known table, is taken (R28). -/
  | tableUnknown
  /-- The head frame, the command ARM, is taken (R162). -/
  | arm
  /-- The head frame, the command DISARM, is taken (R163). -/
  | disarm
  /-- The head frame, the command START, is taken (R164); `taken` are the causes RUN takes after it (R173). -/
  | start (taken : CausesTaken := .every)
  /-- The head frame, the command STOP, is taken (R166); `taken` are the causes RUN takes after it (R173). -/
  | stop (taken : CausesTaken := .every)
  /-- The head frame, the command CLEAR, is taken (R172). -/
  | clear
  /-- The head frame, the command FLUSH, is taken (R21). -/
  | flush
  /-- The head frame, the command HOME, is taken (R91). -/
  | home
  /-- The head frame, the command SOFT_RESET, is taken (R188). -/
  | softReset
  /-- The head frame, QUERY RUN, is taken (R174). -/
  | queryRun
  /-- The head frame, QUERY SLOTS, is taken (R24). -/
  | querySlots
  /-- The head frame, QUERY TRACKER, is taken (R103). -/
  | queryTracker
  /-- The head frame, QUERY MODULES(chain), is taken (R84). -/
  | queryModules
  /-- The head frame, QUERY DRIVERS, is taken (R156). -/
  | queryDrivers
  /-- The head frame, QUERY COUNTERS, is taken (R187). -/
  | queryCounters
  /-- The head frame, a QUERY with an unknown selector, is taken (R186). -/
  | queryUnknown
  /-- The head frame, the command OFFSTATE_TEST(dc), is taken (R154). -/
  | offstateTest
  /-- The head frame, the command CLEAR_MODULE_FLAGS, is taken (R82). -/
  | clearModuleFlags
  /-- The head frame, a COMMAND frame that names no command or has a wrong length, is taken (R185). -/
  | unknownCommand
  /-- An encoder input acquires its starting level (R87). -/
  | encoderLevelAcquired (input : EncInput) (level : Level)
  /-- The accepted level of one quadrature line changes (R88). `elapsed` is the count the revolution timer makes,
  in microseconds, from the encoder step before to this one (R99). `order` says in which order the blocks take the
  step's crossings and RUN takes the causes handed meanwhile (R97: "with no order between them"): see
  `Machine.runOrder`. -/
  | encoderStep (line : EncLine) (elapsed : Nat) (order : List Nat) (taken : CausesTaken := .every)
  /-- Both accepted levels of the quadrature pair change together (R89). -/
  | illegalTransition (taken : CausesTaken := .every)
  /-- The accepted level of ENCZ rises (R92, R93). -/
  | indexPulse (taken : CausesTaken := .every)
  /-- The standstill timer runs out (R101). -/
  | standstill
  /-- A sensor input acquires its starting level (R125). -/
  | sensorLevelAcquired (sensor : Sensor) (level : Level) (taken : CausesTaken := .every)
  /-- The accepted level of ARV rises (R128). -/
  | arvRise
  /-- A feeder line changes from CLEAR to BREAK (R126). -/
  | feederBreak (line : FeederIdx) (taken : CausesTaken := .every)
  /-- A feeder line changes from BREAK to CLEAR (R126). -/
  | feederClear (line : FeederIdx)
  /-- The current of a channel in PEAK reaches the peak level (R143). -/
  | peakLevelReached (dc : DriverIdx)
  /-- The current of a channel in HOLD_ON reaches the hold level (R143). -/
  | holdLevelReached (dc : DriverIdx)
  /-- The current of a DIRECT channel reaches its hold level (R144). -/
  | directLoadReached (dc : DriverIdx)
  /-- The chop off-time of a channel ends (R143); `current` is the sensed current then, in mA. -/
  | chopOffTimeEnd (dc : DriverIdx) (current : Nat)
  /-- The blanking interval of a channel ends (R145); `current` is the sensed current then, in mA. -/
  | blankingEnd (dc : DriverIdx) (current : Nat)
  /-- The peak time limit of a channel runs out (R146). -/
  | peakTimeLimitEnd (dc : DriverIdx) (taken : CausesTaken := .every)
  /-- The current of a channel reaches the overcurrent level (R147). -/
  | overcurrentRise (dc : DriverIdx)
  /-- The current of a channel falls below the overcurrent level (R147). -/
  | overcurrentFall (dc : DriverIdx)
  /-- The deglitch time of a channel runs out (R147). -/
  | deglitchEnd (dc : DriverIdx) (taken : CausesTaken := .every)
  /-- 2 ms after the off-state test started (R155); `current` is the test current then, in mA. -/
  | testEnd (current : Nat)
  /-- The lift of the last hook of the expansion in progress has been computed (R58). -/
  | expansionComplete
  /-- The last segment of a chain's shift has been sent (R65). -/
  | segmentsSent (chain : ChainIdx)
  /-- A character arrives on a return line in an answer position (R66, R198). -/
  | moduleAnswer (chain : ChainIdx) (position : Nat) (byte : Byte) (stopBit : Level)
  /-- The answer window of a chain closes (R66). -/
  | endOfChecking (chain : ChainIdx) (taken : CausesTaken := .every)
  /-- A byte arrives on DLRX that neither begins nor ends a frame being received (R177). -/
  | dlrxByte (byte : Byte) (stopBit : Level)
  /-- The accepted level of ARV falls (R125). -/
  | arvFall
  /-- The accepted level of ENCZ falls (R86). -/
  | enczFall
  deriving DecidableEq, Repr

end Sys2Proof
end

