-- ==== Sys2Proof/Config.lean ====
section
/-! DEFINITION. The capacities the manual fixes, and the one value it leaves open. -/

namespace Sys2Proof

/-- Places of the pick queue (01 R7). -/
def Config.pqCapacity : Nat := 32

/-- Records PH and RL hold together at most (01 R9). -/
def Config.historyCapacity : Nat := 16

/-- Records of the event queue (10 R183). -/
def Config.eventCapacity : Nat := 32

/-- Places of the receive buffer (10 R180). -/
def Config.rxPlaces : Nat := 2

/-- The longest payload of a frame (10 R177). -/
def Config.maxPayload : Nat := 1040

/-- FREE VALUE (log 7). The lift of a hook for which the tables in force name no effect entry, no weave or no
code. ARM validation (02 R42) rules such tables out before an expansion, so the manual states no lift. Nothing
constrains it: a claim about an image holds whatever it is. The argument is the hook number. -/
opaque Config.unstatedLift : Nat → Bool

end Sys2Proof
end

