-- ==== Sys2Proof/Machine/State.lean ====
section
/-! DEFINITION. The state of the part as plain data, block by block as the manual names the blocks
(00 section 3), the two reasons a step can stop, and the state right after a hard reset. -/

namespace Sys2Proof.Machine

/-! ### Faults and refusals -/

/-- The faults of the machine. The manual gives the part no event that stops it (10 R185: a bad command is
answered; 09: a fault of the loom is a cause), so no command faults and there is no constructor. Safe. -/
inductive Fault where
  deriving DecidableEq, Repr

/-- The refusals of the machine. -/
inductive Refusal where
  /-- A command that has no meaning yet. Raised by an arm of exec alone; safe, it stops where the part goes on. -/
  | notModelled (mnemonic : String)
  deriving DecidableEq, Repr

/-! ### Pattern and live tables (02) -/

/-- Chain fault mode (02 R29, 04 R83). -/
inductive ChainFaultMode where
  | report
  | stopAfter (k : Nat)
  deriving DecidableEq, Repr

/-- Encoder fault mode (02 R29, 05 R89). -/
inductive EncoderFaultMode where
  | halt
  | stop
  deriving DecidableEq, Repr

/-- The machine record (02 R29). -/
structure MachineRecord where
  /-- M0 to M3. -/
  modules : Vector Nat 4
  /-- W, columns. -/
  width : Nat
  /-- N, counts per revolution. -/
  counts : Nat
  /-- O, index offset. -/
  offset : Nat
  /-- L, nominal latch angle in tenths of a degree. -/
  latchAngle : Nat
  /-- λ_H in microseconds. -/
  hookLatency : Nat
  /-- A, arming limit. -/
  armLimit : Nat
  /-- Standstill time in ms. -/
  standstillMs : Nat
  /-- F, samples. -/
  filter : Nat
  indexTolerance : Nat
  reverseTolerance : Nat
  /-- M, low-water mark. -/
  lowWater : Nat
  chainMode : ChainFaultMode
  encoderMode : EncoderFaultMode
  deriving DecidableEq, Repr

/-- Layout of a FIGURE section (02 R31, 03 R48). -/
inductive Layout where
  | straight
  | pointed
  deriving DecidableEq, Repr

/-- Direction of a FIGURE section (02 R31, 03 R49). -/
inductive ColumnDir where
  | ascending
  | descending
  deriving DecidableEq, Repr

/-- Kind of a harness section with its fields (02 R31). -/
inductive SectionKind where
  | lift
  | down
  | figure (origin span : Nat) (layout : Layout) (direction : ColumnDir)
  | selvedge (weave rowShift colShift : Nat)
  deriving DecidableEq, Repr

/-- A harness section record (02 R31). -/
structure HarnessSection where
  first : Nat
  count : Nat
  kind : SectionKind
  deriving DecidableEq, Repr

/-- An effect table entry (02 R32). -/
inductive Effect where
  | up
  | down
  | weave (weave rowShift colShift : Nat) (invert : Bool)
  deriving DecidableEq, Repr

/-- A weave record: `cells` holds H_w rows of W_w cells (02 R33). -/
structure Weave where
  height : Nat
  width : Nat
  cells : List (List Bool)
  deriving DecidableEq, Repr

/-- Switching of an action (02 R37). -/
inductive Switching where
  | on
  | off
  deriving DecidableEq, Repr

/-- Target of a profile action (02 R37). -/
inductive Target where
  | selector
  | channel (dc : DriverIdx)
  deriving DecidableEq, Repr

/-- An action of an insertion profile (02 R37). -/
structure ProfileAction where
  switching : Switching
  target : Target
  angle : Nat
  deriving DecidableEq, Repr

/-- An insertion profile (02 R37). -/
structure Profile where
  actions : List ProfileAction
  windowOpen : Nat
  windowClose : Nat
  deriving DecidableEq, Repr

/-- A weft channel record (02 R39). -/
structure WeftChannel where
  enabled : Bool
  selector : DriverIdx
  feeder : Option FeederIdx
  deriving DecidableEq, Repr

/-- Drive mode (02 R40). -/
inductive DriveMode where
  | off
  | direct
  | peakHold
  deriving DecidableEq, Repr

/-- Fault mode of a driver channel (02 R40, 08 R148). -/
inductive FaultMode where
  | latch
  | perPick
  | report
  | disabled
  deriving DecidableEq, Repr

/-- Scope of a driver fault (02 R40, 08 R149). -/
inductive FaultScope where
  | channel
  | group
  deriving DecidableEq, Repr

/-- Group of a driver channel (02 R40). -/
inductive DriverGroup where
  | a
  | b
  deriving DecidableEq, Repr

/-- A driver settings record (02 R40). Levels are codes of 0.25 A; times are in microseconds. -/
structure DriverSettings where
  mode : DriveMode
  peakLevel : Nat
  holdLevel : Nat
  overcurrentLevel : Nat
  peakTimeLimit : Nat
  chopOffTime : Nat
  blanking : Nat
  deglitch : Nat
  latency : Nat
  overcurrentMode : FaultMode
  openLoadMode : FaultMode
  scope : FaultScope
  group : DriverGroup
  deriving DecidableEq, Repr

/-- Table Memory (02 R27, R35). An absent record is `none`. Weft channel n stands at place n - 1. -/
structure Tbm where
  machine : Option MachineRecord
  sections : Vector (Option HarnessSection) 64
  effects : Vector (Option Effect) 16
  weaves : Vector (Option Weave) 32
  profiles : Vector (Option Profile) 8
  wefts : Vector (Option WeftChannel) 12
  drivers : Vector (Option DriverSettings) 20
  epoch : Word16
  deriving DecidableEq, Repr

/-! ### Pick Sequencer (01) -/

/-- State of a pick record (01 section 1.2). -/
inductive PickState where
  | pending
  | armed
  | inserted
  | faulted
  | unwoven
  deriving DecidableEq, Repr

/-- Fault cause of a pick record (01 R1). -/
inductive FaultCause where
  | missing
  | feeder
  | driver
  | channel
  | interrupted
  deriving DecidableEq, Repr

/-- A pick record (01 R1). -/
structure PickRecord where
  ordinal : Ordinal
  row : Word16
  weft : Fin 13
  profile : Fin 8
  effects : List (Fin 16)
  state : PickState
  weaveCount : Nat
  arrival : Option Nat
  revTime : Option Nat
  cause : Option FaultCause
  clipped : Bool
  deriving DecidableEq, Repr

/-- Pick Sequencer (01 R7, R25). `history` is oldest first, `replay` front first, `queue` head first. -/
structure Psq where
  history : List PickRecord
  current : Option PickRecord
  nextPick : Option PickRecord
  replay : List PickRecord
  queue : List PickRecord
  expected : Ordinal
  /-- D, the beyond-history depth. -/
  depth : Nat
  warningReady : Bool
  /-- Picks entered into PH (01 R16). -/
  picksEntered : Nat
  /-- Dwell revolutions (01 R17). -/
  dwells : Nat
  deriving DecidableEq, Repr

/-! ### Shed Builder (03) -/

/-- An image buffer (03 R53). FILLING also holds the inputs the expansion read when it started (03 R52, log 19). -/
inductive Buffer where
  | empty
  | filling (ordinal : Ordinal) (epoch : Word16) (row : Word16) (effects : List (Fin 16))
  | held (ordinal : Ordinal) (epoch : Word16) (image : List Bool)
  deriving DecidableEq, Repr

/-- Shed Builder (03 R53, R54). -/
structure Shb where
  buffer0 : Buffer
  buffer1 : Buffer
  target : Option Ordinal
  deriving DecidableEq, Repr

/-! ### Hook Chain Interface (04) -/

/-- A character received in an answer position (04 R66, 10 R198). -/
structure AnswerChar where
  position : Nat
  byte : Byte
  stopBit : Level
  deriving DecidableEq, Repr

/-- State of a chain with what is held with it (04 R65). -/
inductive ChainPhase where
  | idle
  | shifting (ordinal : Ordinal)
  | checking (ordinal : Ordinal) (answers : List AnswerChar)
  | ready (tag : Ordinal) (degraded : Bool)
  deriving DecidableEq, Repr

/-- A set of module flags (04 R63, R80). -/
structure ModuleFlags where
  supplyLow : Bool
  overtemp : Bool
  magnetOpen : Bool
  deriving DecidableEq, Repr

/-- Last answer of a module (04 R80). -/
inductive LastAnswer where
  | none
  | ack
  | nak
  | silent
  deriving DecidableEq, Repr

/-- An entry of the module status table (04 R80). -/
structure ModuleEntry where
  lastAnswer : LastAnswer
  lastFlags : ModuleFlags
  sticky : ModuleFlags
  consecutive : Nat
  total : Nat
  deriving DecidableEq, Repr

/-- A hook chain: its state, its LENGTH flag and the status entries of its modules (04 R65, R80). -/
structure Chain where
  phase : ChainPhase
  lengthFlag : Bool
  entries : List ModuleEntry
  deriving DecidableEq, Repr

/-- The shed tag (04 R69); NONE is `none`. -/
structure ShedTag where
  ordinal : Option Ordinal
  stale : Bool
  degraded : Bool
  deriving DecidableEq, Repr

/-- Hook Chain Interface (04). `required` is the required pick of shed keeping as last evaluated (04 R76). -/
structure Hci where
  chains : Vector Chain 4
  tag : ShedTag
  required : Option Ordinal
  deriving DecidableEq, Repr

/-- What the part drives on a chain's lines or on HLS (04 R63, 10 R198). A mark is a pause and one code byte. -/
inductive LineItem where
  | mark (chain : ChainIdx) (code : Byte)
  | segment (chain : ChainIdx) (bytes : List Byte)
  | strobe
  deriving DecidableEq, Repr

/-! ### Shaft Tracker (05) -/

/-- Homing state (05 R91). -/
inductive Homing where
  | unhomed
  | homing
  | homed
  deriving DecidableEq, Repr

/-- Direction of the last step (05 R90). -/
inductive Direction where
  | forward
  | backward
  deriving DecidableEq, Repr

/-- Motion state (05 R101). -/
inductive Motion where
  | moving
  | standstill
  deriving DecidableEq, Repr

/-- Shaft Tracker (05 state table, R104). An accepted level that is not acquired is `none`. -/
structure Stk where
  encA : Option Level
  encB : Option Level
  encZ : Option Level
  /-- p, the position count. -/
  position : Nat
  homing : Homing
  direction : Direction
  motion : Motion
  /-- The standstill timer, with the time in ms it was started with (R101). -/
  standstillTimer : Option Nat
  /-- T_rev in microseconds (R99). -/
  revTime : Option Nat
  /-- The revolution timer, in microseconds since it was started (R99). -/
  revTimer : Option Nat
  lastDeviation : Option Int
  largestDeviation : Option Int
  netTravel : Int
  /-- INDEX_MISSING has been raised since the last index pulse (R94: "raised once"). -/
  indexMissingRaised : Bool
  reverseCount : Nat
  illegalCount : Nat
  deriving DecidableEq, Repr

/-! ### Angle Scheduler (06) -/

/-- The event that made a snapshot (06 R106). -/
inductive SnapshotEntry where
  | forward
  | backward
  | start
  deriving DecidableEq, Repr

/-- An entry of the action list (06 R106). `viaSelector` keeps that the profile target was SELECTOR (07 R132). -/
structure ArmedAction where
  switching : Switching
  viaSelector : Bool
  channel : DriverIdx
  nominal : Nat
  latency : Nat
  advance : Nat
  effective : Nat
  fired : Bool
  deriving DecidableEq, Repr

/-- The driver settings of one reached channel as they stood at arming; `none` acts as mode OFF (06 R110). -/
structure SettingsCopy where
  channel : DriverIdx
  settings : Option DriverSettings
  deriving DecidableEq, Repr

/-- The armed part of a snapshot (06 R106). -/
structure ArmedPart where
  ordinal : Ordinal
  weft : WeftChannel
  actions : List ArmedAction
  copies : List SettingsCopy
  windowOpen : Nat
  openHanded : Bool
  windowClose : Nat
  closeHanded : Bool
  clipped : Bool
  deriving DecidableEq, Repr

/-- The revolution snapshot (06 R106). -/
structure Snapshot where
  entry : SnapshotEntry
  hookAdvance : Nat
  latchAngle : Nat
  armed : Option ArmedPart
  deriving DecidableEq, Repr

/-- Angle Scheduler (06 R106). -/
structure Asc where
  snapshot : Option Snapshot
  deriving DecidableEq, Repr

/-! ### Weft Monitor (07) -/

/-- Weft Monitor (07 state table, R138). A feeder line at high is BREAK, at low CLEAR (R125). `window` is CLOSED
as `none`, OPEN as the ordinal; `watch` is INACTIVE as `none`. -/
structure Wfm where
  arv : Option Level
  feeders : Vector (Option Level) 12
  window : Option Ordinal
  capture : Option Nat
  watch : Option FeederIdx
  spurious : Nat
  weftFaults : Nat
  deriving DecidableEq, Repr

/-! ### Driver Channels (08) -/

/-- Phase of a driver channel (08 R140). -/
inductive DrivePhase where
  | idle
  | peak
  | holdOn
  | holdOff
  | directOn
  | blocked
  | testing
  deriving DecidableEq, Repr

/-- Block kind other than none (08 R140). -/
inductive BlockKind where
  | perPick
  | latch
  deriving DecidableEq, Repr

/-- Result of the last off-state test (08 R140). -/
inductive TestResult where
  | none
  | loadPresent
  | open
  | shorted
  deriving DecidableEq, Repr

/-- Kind of a driver fault (08 R140). -/
inductive DriverFaultKind where
  | overcurrent
  | openLoad
  deriving DecidableEq, Repr

/-- The settings a driving channel works from (08 R140, R156). -/
structure InUse where
  settings : DriverSettings
  fromSnapshot : Bool
  deriving DecidableEq, Repr

/-- A driver channel (08 R140). A timer that is running holds the time in microseconds it was started with. -/
structure DriverChannel where
  phase : DrivePhase
  block : Option BlockKind
  inUse : Option InUse
  flagOvercurrent : Bool
  flagOpenLoad : Bool
  faultCount : Nat
  lastTest : TestResult
  peakTimer : Option Nat
  blankTimer : Option Nat
  offTimer : Option Nat
  deglitchTimer : Option Nat
  deriving DecidableEq, Repr

/-- The off-state test running: its channel and its short level (08 R154). -/
structure OffTest where
  channel : DriverIdx
  shortLevel : Nat
  deriving DecidableEq, Repr

/-- Driver Channels (08). -/
structure Drv where
  channels : Vector DriverChannel 20
  test : Option OffTest
  deriving DecidableEq, Repr

/-! ### Run Controller (09) -/

/-- Run state (09 section head). -/
inductive RunState where
  | offline
  | stopped
  | weaving
  | stopping
  | halted
  deriving DecidableEq, Repr

/-- A stop cause with its details (09 section 9.4, 10 R197). -/
inductive StopCause where
  | stopCommand
  | weftMissing (ordinal : Ordinal)
  | feederBreak (ordinal : Ordinal)
  | weftDriver (ordinal : Ordinal)
  | weftChannel (ordinal : Ordinal)
  | lateImage (ordinal : Ordinal)
  | starved
  | chainFault (chain : ChainIdx) (module : Nat)
  | encoderFault
  | indexMissing
  | reverseInRun
  deriving DecidableEq, Repr

/-- A halting cause with its details (09 section 9.5, 10 R197). -/
inductive HaltCause where
  | driverLatch (channel : DriverIdx)
  | encoderFault
  | indexMismatch
  deriving DecidableEq, Repr

/-- A cause handed to the Run Controller. -/
inductive Cause where
  | stop (c : StopCause)
  | halt (c : HaltCause)
  deriving DecidableEq, Repr

/-- Run Controller (09 section head). `handed` are the causes the blocks have handed and RUN has not yet taken, the one
handed first before the others (07 R127, R135, 09 R173; log 6). -/
structure Run where
  state : RunState
  permit : Bool
  firstStop : Option StopCause
  haltCause : Option HaltCause
  lastLater : Option Cause
  handed : List Cause
  deriving DecidableEq, Repr

/-! ### Design Link Port (10) -/

/-- Kind of a frame from the host (10 R191). -/
inductive FrameKind where
  | pick
  | table
  | command
  deriving DecidableEq, Repr

/-- A complete frame in the receive buffer (10 R180). -/
structure RxFrame where
  kind : FrameKind
  payload : List Byte
  deriving DecidableEq, Repr

/-- The receiver (10 R177, R180). RECEIVING holds the bytes after the start byte, in order; PASSING_OVER holds how
many have passed and the length field read so far. -/
inductive Receiver where
  | closed
  | hunt
  | receiving (bytes : List Byte)
  | passingOver (seen : Nat) (length : Nat)
  deriving DecidableEq, Repr

/-- Result of a command or table frame (10 R195). -/
inductive Result where
  | ok
  | state
  | range
  | table
  | notHomed
  | moving
  | busy
  | format
  | unknown
  deriving DecidableEq, Repr

/-- An answer (10 R182, R195): the kind answered, the code or table id echoed, the result and the data. -/
structure Answer where
  kind : FrameKind
  code : Byte
  result : Result
  data : List Byte
  deriving DecidableEq, Repr

/-- Cause of a PICK_REFUSED (01 R10). -/
inductive RefusalCause where
  | state
  | format
  | sequence
  | full
  deriving DecidableEq, Repr

/-- Kind of a link error (10 R179). -/
inductive LinkErrorKind where
  | framing
  | check
  | overrun
  deriving DecidableEq, Repr

/-- Why a weft channel could not be used (07 R137). -/
inductive ChannelReason where
  | channelAbsent
  | channelDisabled
  | profileAbsent
  deriving DecidableEq, Repr

/-- The part of a WEFT_FAULT that depends on its cause (07 R137). -/
inductive WeftDetail where
  | missing
  | channel (reason : ChannelReason)
  | feeder (line : FeederIdx)
  | driver (channels : List DriverIdx)
  deriving DecidableEq, Repr

/-- The four state names of a chain (04 R65). -/
inductive ChainStateName where
  | idle
  | shifting
  | checking
  | ready
  deriving DecidableEq, Repr

/-- A chain as LATE_IMAGE and QUERY MODULES report it: its state and its shifted or shifting ordinal (04 R75, R84). -/
structure ChainReport where
  state : ChainStateName
  ordinal : Option Ordinal
  deriving DecidableEq, Repr

/-- An event record (10 R184, R196), with the fields of its owning rule in the order listed there. -/
inductive Event where
  /-- R16. -/
  | pickDone (record : PickRecord)
  /-- R10. -/
  | pickRefused (cause : RefusalCause) (ordinal expected : Ordinal)
  /-- R22. -/
  | lowWater (heldAhead : Nat) (expected : Ordinal)
  /-- R174; `later` is the cause of a later-cause report, none for a change of state. -/
  | runState (state before : RunState) (firstStop : Option StopCause) (haltCause : Option HaltCause)
      (later : Option Cause)
  /-- R137. -/
  | weftFault (ordinal : Ordinal) (row : Word16) (weft : Fin 13) (angle : Nat) (arrival : Option Nat)
      (detail : WeftDetail)
  /-- R137. -/
  | feederAlarm (line : FeederIdx) (angle : Option Nat) (state : RunState) (current : Option (Ordinal × Fin 13))
  /-- R75, cause STARVED. -/
  | lateStarved (direction : Direction) (tag : ShedTag) (state : RunState)
  /-- R75, cause NOT_READY; the chains with modules in increasing chain number (log 22). -/
  | lateNotReady (direction : Direction) (target : Ordinal) (tag : ShedTag) (state : RunState)
      (chains : List ChainReport)
  /-- R81. -/
  | chainError (chain : ChainIdx) (ordinal : Ordinal) (first : Nat) (failing : Nat)
  /-- R82. -/
  | moduleAlarm (chain : ChainIdx) (module : Nat) (flags : ModuleFlags) (answer : LastAnswer)
  /-- R148. -/
  | driverFault (channel : DriverIdx) (kind : DriverFaultKind) (mode : FaultMode) (scope : FaultScope)
      (blocked : List DriverIdx) (phase : DrivePhase) (state : RunState) (current : Option Ordinal)
      (angle : Option Nat)
  /-- R103, ILLEGAL_TRANSITION: p, the new accepted pair, the homing state. -/
  | encoderIllegal (position : Nat) (encA encB : Option Level) (homingState : Homing)
  /-- R103, INDEX_MISMATCH: p, O, d. -/
  | indexMismatch (position offset : Nat) (deviation : Int)
  /-- R103, INDEX_MISSING: p and the net travel. -/
  | indexMissing (position : Nat) (netTravel : Int)
  /-- R18, R19. -/
  | backstep (current : Option (Ordinal × PickState)) (nextPick : Option Ordinal) (depth : Nat)
  /-- R92. -/
  | homed (offset previous : Nat) (direction : Direction)
  /-- R179. -/
  | linkError (kind : LinkErrorKind) (frameKind : Option Byte) (count : Nat)
  /-- R155. -/
  | testDone (channel : DriverIdx) (result : TestResult)
  deriving DecidableEq, Repr

/-- What the transmitter is sending (10 R184). -/
inductive TxKind where
  | answer
  | event
  deriving DecidableEq, Repr

/-- The frame being sent. `beforeReset` marks a frame that was being sent when a SOFT_RESET was taken (10 R188). -/
structure TxFrame where
  kind : TxKind
  bytes : List Byte
  beforeReset : Bool
  deriving DecidableEq, Repr

/-- Design Link Port (10). `held` are the complete frames of the receive buffer in the order of their completion;
the place being filled is the receiver's RECEIVING (log 9). The transmitter is IDLE as `none`. `choiceWait` is the
model's own: how many commands are still to end until an IDLE transmitter has chosen, 0 where no choice is held back
(10 R184, log 11). -/
structure Dlp where
  receiver : Receiver
  held : List RxFrame
  answer : Option Answer
  events : List Event
  lost : Bool
  linkErrors : Nat
  transmitter : Option TxFrame
  choiceWait : Nat
  deriving DecidableEq, Repr

/-! ### The whole part -/

/-- The state of the part. -/
structure State where
  /-- Commands waiting, first in, first out. -/
  pending : List Instr
  /-- The level of RESETn (11 R199). -/
  resetLine : Level
  /-- What the last command drove on the chains' lines and HLS, in order (04 R63). -/
  lineOut : List LineItem
  dlp : Dlp
  tbm : Tbm
  psq : Psq
  shb : Shb
  hci : Hci
  stk : Stk
  asc : Asc
  wfm : Wfm
  drv : Drv
  run : Run
  deriving DecidableEq, Repr

/-! ### Values after a hard reset -/

/-- No module flag set. -/
def ModuleFlags.clear : ModuleFlags := ⟨false, false, false⟩

/-- 04 R85: a fresh module status entry. -/
def ModuleEntry.fresh : ModuleEntry :=
  { lastAnswer := .none, lastFlags := .clear, sticky := .clear, consecutive := 0, total := 0 }

/-- 10 R189. -/
def Dlp.hardReset : Dlp :=
  { receiver := .closed, held := [], answer := none, events := [], lost := false, linkErrors := 0,
    transmitter := none, choiceWait := 0 }

/-- 02 R44. -/
def Tbm.hardReset : Tbm :=
  { machine := none, sections := Vector.replicate 64 none, effects := Vector.replicate 16 none,
    weaves := Vector.replicate 32 none, profiles := Vector.replicate 8 none, wefts := Vector.replicate 12 none,
    drivers := Vector.replicate 20 none, epoch := 0 }

/-- 01 R25. -/
def Psq.hardReset : Psq :=
  { history := [], current := none, nextPick := none, replay := [], queue := [], expected := 0, depth := 0,
    warningReady := false, picksEntered := 0, dwells := 0 }

/-- 03 R62. -/
def Shb.hardReset : Shb := { buffer0 := .empty, buffer1 := .empty, target := none }

/-- 04 R85. -/
def Hci.hardReset : Hci :=
  { chains := Vector.replicate 4 { phase := .idle, lengthFlag := false, entries := [] },
    tag := { ordinal := none, stale := false, degraded := false }, required := none }

/-- 05 R104. -/
def Stk.hardReset : Stk :=
  { encA := none, encB := none, encZ := none, position := 0, homing := .unhomed, direction := .forward,
    motion := .standstill, standstillTimer := none, revTime := none, revTimer := none, lastDeviation := none,
    largestDeviation := none, netTravel := 0, indexMissingRaised := false, reverseCount := 0, illegalCount := 0 }

/-- 06 R122. -/
def Asc.hardReset : Asc := { snapshot := none }

/-- 07 R138. -/
def Wfm.hardReset : Wfm :=
  { arv := none, feeders := Vector.replicate 12 none, window := none, capture := none, watch := none,
    spurious := 0, weftFaults := 0 }

/-- 08 R157, one channel. -/
def DriverChannel.fresh : DriverChannel :=
  { phase := .idle, block := none, inUse := none, flagOvercurrent := false, flagOpenLoad := false,
    faultCount := 0, lastTest := .none, peakTimer := none, blankTimer := none, offTimer := none,
    deglitchTimer := none }

/-- 08 R157. -/
def Drv.hardReset : Drv := { channels := Vector.replicate 20 .fresh, test := none }

/-- 09 R175. -/
def Run.hardReset : Run :=
  { state := .offline, permit := false, firstStop := none, haltCause := none, lastLater := none, handed := [] }

/-- The part right after a hard reset, RESETn still low (11 R199: at power-on the part behaves as with RESETn low
until RESETn is first seen high). RESET_RELEASE is the first thing that can happen (log 1). -/
def State.reset : State :=
  { pending := [], resetLine := .low, lineOut := [], dlp := .hardReset, tbm := .hardReset, psq := .hardReset,
    shb := .hardReset, hci := .hardReset, stk := .hardReset, asc := .hardReset, wfm := .hardReset,
    drv := .hardReset, run := .hardReset }

end Sys2Proof.Machine
end

