-- ==== Sys2Proof/Machine/Flags.lean ====
section
/-! DEFINITION. Saturating counts, flag sets and comparisons that the chapters share. -/

namespace Sys2Proof.Machine

/-- A counter that stops at its largest value (00 section 6: "saturating"). -/
def satInc (largest n : Nat) : Nat := if n < largest then n + 1 else n

/-- Largest value of a 32-bit counter (10 R187). -/
def max32 : Nat := 4294967295

/-- Largest value of a 16-bit counter (10 R179, 05 R89). -/
def max16 : Nat := 65535

/-- Largest T_rev (05 R99). -/
def maxRevTime : Nat := 16777215

/-- 05 R94: the net travel stays at -32,767 or 32,767 once it has reached it. -/
def clampTravel (x : Int) : Int := if x < -32767 then -32767 else if 32767 < x then 32767 else x

/-- 05 R93: r folded to the deviation d. -/
def foldDeviation (n r : Nat) : Int := if 2 * r ≤ n then (r : Int) else (r : Int) - (n : Int)

/-- 05 R93: the largest deviation becomes d when |d| is larger than the magnitude held, or when none is held. -/
def largerDeviation (held : Option Int) (d : Int) : Option Int :=
  match held with
  | none => some d
  | some h => if h.natAbs < d.natAbs then some d else some h

/-- 04 R80: the OR of two flag sets. -/
def ModuleFlags.union (a b : ModuleFlags) : ModuleFlags :=
  ⟨a.supplyLow || b.supplyLow, a.overtemp || b.overtemp, a.magnetOpen || b.magnetOpen⟩

/-- 04 R82: the flags of `new` that were clear in `old`. -/
def ModuleFlags.newlyRaised (old new : ModuleFlags) : ModuleFlags :=
  ⟨new.supplyLow && !old.supplyLow, new.overtemp && !old.overtemp, new.magnetOpen && !old.magnetOpen⟩

/-- Whether any flag is set. -/
def ModuleFlags.any (f : ModuleFlags) : Bool := f.supplyLow || f.overtemp || f.magnetOpen

/-- 08 R140: the mA of a level code; one code is 0.25 A. -/
def levelMilliamps (code : Nat) : Nat := 250 * code

/-- 08 section head: "the current reaches a level" means that it is at or above it. -/
def reaches (current code : Nat) : Bool := levelMilliamps code ≤ current

/-- 08 R140: the phases in which a channel is driving. -/
def DrivePhase.driving : DrivePhase → Bool
  | .peak => true
  | .holdOn => true
  | .holdOff => true
  | .directOn => true
  | .idle => false
  | .blocked => false
  | .testing => false

/-- 08 R140: the phases in which the output DCOn is on. -/
def DrivePhase.outputOn : DrivePhase → Bool
  | .peak => true
  | .holdOn => true
  | .directOn => true
  | .holdOff => false
  | .idle => false
  | .blocked => false
  | .testing => false

/-- Insert into a list sorted by `le`, after the entries it may follow. -/
def insertBy {α : Type} (le : α → α → Bool) (x : α) : List α → List α
  | [] => [x]
  | y :: ys => if le y x then y :: insertBy le x ys else x :: y :: ys

/-- Sort by `le`, entries that are equal staying in their order. -/
def sortBy {α : Type} (le : α → α → Bool) (l : List α) : List α :=
  l.foldl (fun acc x => insertBy le x acc) []

end Sys2Proof.Machine
end

