-- ==== Sys2Proof/Machine/Views.lean ====
section
/-! DEFINITION. What the blocks read from the state: angles and crossings (05), counts of the run (01), the shed
tag (04 R69), the shape of the head (03 R46). Nothing here changes the state. -/

namespace Sys2Proof.Machine

/-- The four chains in order. -/
def chainList : List ChainIdx := [0, 1, 2, 3]

/-- The twenty driver channels in order. -/
def driverList : List DriverIdx := List.finRange 20

/-! ### The head (03 R46) -/

/-- Mk: the modules of chain k. -/
def MachineRecord.modulesOf (m : MachineRecord) (k : ChainIdx) : Nat := m.modules[k]

/-- The modules of the chains before chain k. -/
def MachineRecord.modulesBefore (m : MachineRecord) (k : ChainIdx) : Nat :=
  ((chainList.take k.val).map m.modulesOf).sum

/-- H, the number of hooks. -/
def MachineRecord.hooks (m : MachineRecord) : Nat := 128 * (chainList.map m.modulesOf).sum

/-- Mk of the machine record in force; 0 with none. -/
def State.modulesOn (s : State) (k : ChainIdx) : Nat :=
  match s.tbm.machine with
  | none => 0
  | some m => m.modulesOf k

/-- M, the low-water mark in force; 0 with no machine record (01 section 1.9). -/
def State.lowWaterMark (s : State) : Nat :=
  match s.tbm.machine with
  | none => 0
  | some m => m.lowWater

/-- A, the arming limit profiles are checked against; 0 with no machine record (02 R38). -/
def State.armLimit (s : State) : Nat :=
  match s.tbm.machine with
  | none => 0
  | some m => m.armLimit

/-! ### Angles (05 R96 to R98) -/

/-- a(p). -/
def angleOf (n p : Nat) : Nat := p * 3600 / n

/-- a(N-1), the highest crossed angle. -/
def MachineRecord.highestAngle (m : MachineRecord) : Nat := angleOf m.counts (m.counts - 1)

/-- a(p) of the position count; it is the shaft angle while HOMED. -/
def State.countAngle (s : State) : Nat :=
  match s.tbm.machine with
  | none => 0
  | some m => angleOf m.counts s.stk.position

/-- The shaft angle, absent while the tracker is not HOMED. -/
def State.angle (s : State) : Option Nat :=
  if s.stk.homing = .homed ∧ s.tbm.machine.isSome then some s.countAngle else none

/-! ### The pick run (01) -/

/-- Held ahead: the records in RL and PQ together. -/
def State.heldAhead (s : State) : Nat := s.psq.replay.length + s.psq.queue.length

/-- The free space of PQ that every outgoing header carries (01 R7). -/
def State.pqFree (s : State) : Nat := Config.pqCapacity - s.psq.queue.length

/-- The records of the run in run order (01 R8). -/
def Psq.runRecords (p : Psq) : List PickRecord :=
  p.history ++ p.current.toList ++ p.nextPick.toList ++ p.replay ++ p.queue

/-- The ordinal of the record in CURRENT. -/
def State.currentOrdinal (s : State) : Option Ordinal := s.psq.current.map PickRecord.ordinal

/-- The ordinal of the record in NEXT. -/
def State.nextOrdinal (s : State) : Option Ordinal := s.psq.nextPick.map PickRecord.ordinal

/-- Whether the record in CURRENT is ARMED. -/
def State.currentArmed (s : State) : Bool :=
  match s.psq.current with
  | none => false
  | some r => r.state = .armed

/-- 04 R69: the tag names an ordinal when it carries it without the STALE marker. -/
def State.tagNames (s : State) (o : Ordinal) : Bool := s.hci.tag.ordinal = some o && !s.hci.tag.stale

/-! ### Chains (04 R65, R71) -/

/-- The chain is READY with that shifted tag. -/
def ChainPhase.readyWith (o : Ordinal) : ChainPhase → Bool
  | .ready t _ => t = o
  | _ => false

/-- The degraded flag of a READY chain; clear in every other state. -/
def ChainPhase.degradedFlag : ChainPhase → Bool
  | .ready _ d => d
  | _ => false

/-- The shifted or shifting ordinal. -/
def ChainPhase.ordinal? : ChainPhase → Option Ordinal
  | .idle => none
  | .shifting o => some o
  | .checking o _ => some o
  | .ready o _ => some o

/-- The name of a chain's state. -/
def ChainPhase.name : ChainPhase → ChainStateName
  | .idle => .idle
  | .shifting _ => .shifting
  | .checking _ _ => .checking
  | .ready _ _ => .ready

/-- The chains with modules, in order. -/
def State.usedChains (s : State) : List ChainIdx := chainList.filter fun k => s.modulesOn k != 0

/-- 04 R71: every chain with modules is READY with the ordinal. -/
def State.allReady (s : State) (o : Ordinal) : Bool :=
  s.usedChains.all fun k => (s.hci.chains[k]).phase.readyWith o

/-- 04 R69: the OR of the degraded flags of the chains with modules. -/
def State.anyDegraded (s : State) : Bool := s.usedChains.any fun k => (s.hci.chains[k]).phase.degradedFlag

/-! ### The snapshot (06) -/

/-- The armed part of the snapshot in force. -/
def State.armedPart (s : State) : Option ArmedPart :=
  match s.asc.snapshot with
  | none => none
  | some sn => sn.armed

end Sys2Proof.Machine
end

