-- ==== Sys2Proof/Machine/Expansion.lean ====
section
/-! DEFINITION. The arithmetic of shed expansion: from the design row and effect row of a pick and the pattern
tables to the list of lift values (03 R46 to R52). -/

namespace Sys2Proof.Machine

/-- The cell of a weave at a row and column already reduced to its size. -/
def Weave.cell? (w : Weave) (i j : Nat) : Option Bool :=
  match w.cells[i]? with
  | none => none
  | some r => r[j]?

/-- The lift of weave `w` at row number and column number, taken modulo its size (03 R50, R51). -/
def weaveLift (t : Tbm) (w row col : Nat) : Option Bool :=
  match t.weaves.toList.getD w none with
  | none => none
  | some wv => wv.cell? (row % wv.height) (col % wv.width)

/-- The column position k of offset o (03 R48). -/
def columnPosition (layout : Layout) (span o : Nat) : Nat :=
  match layout with
  | .straight => o % span
  | .pointed =>
    if span ≤ 1 then 0
    else
      let period := 2 * span - 2
      let q := o % period
      if q < span then q else period - q

/-- The design column c (03 R49). -/
def designColumn (direction : ColumnDir) (origin width k : Nat) : Nat :=
  match direction with
  | .ascending => (origin + k) % width
  | .descending => (((origin : Int) - (k : Int)) % (width : Int)).toNat

/-- The lift an effect gives at a design row and column (03 R50). -/
def effectLift (t : Tbm) (row col : Nat) : Effect → Option Bool
  | .up => some true
  | .down => some false
  | .weave w a b invert => (weaveLift t w (row + a) (col + b)).map (fun c => c != invert)

/-- The lift of a hook at design column `c` (03 R50). -/
def figureLift (t : Tbm) (row : Nat) (effects : List (Fin 16)) (c : Nat) : Option Bool :=
  match effects[c]? with
  | none => none
  | some code =>
    match t.effects[code] with
    | none => none
    | some e => effectLift t row c e

/-- The lift of a hook at offset `o` of a section of the given kind (03 R47 to R51). -/
def sectionLift (t : Tbm) (width row : Nat) (effects : List (Fin 16)) (o : Nat) : SectionKind → Option Bool
  | .lift => some true
  | .down => some false
  | .figure origin span layout direction =>
    figureLift t row effects (designColumn direction origin width (columnPosition layout span o))
  | .selvedge w a b => weaveLift t w (row + a) (o + b)

/-- Whether a section contains a hook (03 R47). -/
def HarnessSection.contains (x : HarnessSection) (h : Nat) : Bool := x.first ≤ h && h < x.first + x.count

/-- The present section that contains a hook (03 R47). -/
def Tbm.sectionAt (t : Tbm) (h : Nat) : Option HarnessSection :=
  (t.sections.toList.filterMap id).find? fun x => x.contains h

/-- The lift of hook `h` (03 R47); a hook in no section is down. -/
def hookLift (t : Tbm) (width row : Nat) (effects : List (Fin 16)) (h : Nat) : Bool :=
  match t.sectionAt h with
  | none => false
  | some x => (sectionLift t width row effects (h - x.first) x.kind).getD (Config.unstatedLift h)

/-- The image of a pick: its H lift values in hook order (03 R47); no hooks without a machine record. -/
def expandImage (t : Tbm) (row : Word16) (effects : List (Fin 16)) : List Bool :=
  match t.machine with
  | none => []
  | some m => (List.range m.hooks).map (hookLift t m.width row.toNat effects)

/-- The 128 lift values of module `j` of chain `k` in an image (03 R46). -/
def moduleLifts (m : MachineRecord) (image : List Bool) (k : ChainIdx) (j : Nat) : List Bool :=
  (image.drop (128 * (m.modulesBefore k + j))).take 128

end Sys2Proof.Machine
end

