-- ==== Sys2Proof/Machine/Bytes.lean ====
section
/-! DEFINITION. Byte order, check values and the basic encodings of the design link and the hook chains
(10 R177, R178, R190, R198). Multi-byte fields are sent with the most significant byte first. -/

namespace Sys2Proof.Machine

/-- Two bytes, high byte first (10 R177). -/
def be16 (hi lo : Byte) : Nat := hi.toNat * 256 + lo.toNat

/-- 1-byte number (10 R190). -/
def enc8 (n : Nat) : List Byte := [BitVec.ofNat 8 n]

/-- 2-byte number, angle or ordinal (10 R190). -/
def enc16 (n : Nat) : List Byte := [BitVec.ofNat 8 (n / 256), BitVec.ofNat 8 n]

/-- 4-byte number (10 R190). -/
def enc32 (n : Nat) : List Byte := enc16 (n / 65536) ++ enc16 n

/-- Signed quantity: 2 bytes, two's complement (10 R190). -/
def encInt (x : Int) : List Byte := enc16 (BitVec.ofInt 16 x).toNat

/-- An ordinal or another 16-bit word (10 R190). -/
def encWord (w : Word16) : List Byte := enc16 w.toNat

/-- Yes or no, set or clear (10 R190). -/
def encBool (b : Bool) : List Byte := enc8 b.toNat

/-- A field that may be absent: a presence byte, and the value when it is 1 (10 R190). -/
def encOpt {α : Type} (f : α → List Byte) : Option α → List Byte
  | none => enc8 0
  | some x => enc8 1 ++ f x

/-- A list of varying length: a 1-byte count, then the items (10 R190). -/
def encList {α : Type} (f : α → List Byte) (l : List α) : List Byte := enc8 l.length ++ l.flatMap f

/-- `n` steps of the 16-bit division by x¹⁶ + x¹² + x⁵ + 1 (10 R178). -/
def crc16Bits : Nat → Word16 → Word16
  | 0, c => c
  | n + 1, c => crc16Bits n (if c.msb then (c <<< 1) ^^^ 0x1021#16 else c <<< 1)

/-- The CRC-16 of a list of bytes: all ones first, most significant bit first, no final inversion (10 R178). -/
def crc16 (bytes : List Byte) : Word16 :=
  bytes.foldl (fun c b => crc16Bits 8 (c ^^^ ((BitVec.setWidth 16 b : Word16) <<< (8 : Nat)))) 0xFFFF#16

/-- `n` steps of the 8-bit division by x⁸ + x⁴ + x³ + x² + 1 (10 R198). -/
def crc8Bits : Nat → Byte → Byte
  | 0, c => c
  | n + 1, c => crc8Bits n (if c.msb then (c <<< 1) ^^^ 0x1D#8 else c <<< 1)

/-- The CRC-8 of a list of bytes (10 R198). -/
def crc8 (bytes : List Byte) : Byte :=
  bytes.foldl (fun c b => crc8Bits 8 (c ^^^ b : Byte)) 0xFF#8

/-- Eight lift values as a byte, the first in bit 7 (10 R198). -/
def packByte (bits : List Bool) : Byte :=
  BitVec.ofNat 8 ((List.range 8).foldl (fun acc i => 2 * acc + (bits.getD i false).toNat) 0)

/-- Byte `i` of a module's 128 lift values (10 R198). -/
def segmentByte (lifts : List Bool) (i : Nat) : Byte := packByte ((lifts.drop (8 * i)).take 8)

/-- A segment on the chain: 16 bytes of lift values, then their CRC-8 (10 R198). -/
def segmentBytes (lifts : List Bool) : List Byte :=
  let values := (List.range 16).map (segmentByte lifts)
  values ++ [crc8 values]

/-- The start byte of a frame (10 R191). -/
def startByte : Byte := 0xC5#8

end Sys2Proof.Machine
end

