-- ==== Sys2Proof/Machine/Operands.lean ====
section
/-! DEFINITION. The arguments that stand in the payload of a frame: which row of the table takes the frame
(10 R181, R185, R193, R195), the fields of a pick frame (10 R192) and of the table bodies (10 R193, R194), with the
checks of each and the field a RANGE answer names (02 R28). -/

namespace Sys2Proof.Machine

/-! ### Reading a payload -/

/-- Byte `i` of a payload as a number. -/
def byteAt (p : List Byte) (i : Nat) : Nat := (p.getD i 0).toNat

/-- The two bytes at `i`, high byte first. -/
def wordAt (p : List Byte) (i : Nat) : Nat := be16 (p.getD i 0) (p.getD (i + 1) 0)

/-! ### Which row of the table takes a frame -/

/-- The seven tables (02 R27). -/
inductive TableId where
  | machine
  | sections
  | effects
  | weaves
  | profiles
  | wefts
  | drivers
  deriving DecidableEq, Repr

/-- The table id byte (10 R193). -/
def TableId.code : TableId → Nat
  | .machine => 1
  | .sections => 2
  | .effects => 3
  | .weaves => 4
  | .profiles => 5
  | .wefts => 6
  | .drivers => 7

/-- The rows of the opcode table that take a frame from the receive buffer. -/
inductive FrameRow where
  | pick
  | table (id : TableId)
  | tableUnknown
  | arm
  | disarm
  | start
  | stop
  | clear
  | flush
  | home
  | softReset
  | queryRun
  | querySlots
  | queryTracker
  | queryModules
  | queryDrivers
  | queryCounters
  | queryUnknown
  | offstateTest
  | clearModuleFlags
  | unknownCommand
  deriving DecidableEq, Repr

/-- The row that takes a TABLE frame, by its table id (02 R28 check 1, 10 R193). -/
def tableRow : List Byte → FrameRow
  | [] => .tableUnknown
  | id :: _ =>
    match id.toNat with
    | 1 => .table .machine
    | 2 => .table .sections
    | 3 => .table .effects
    | 4 => .table .weaves
    | 5 => .table .profiles
    | 6 => .table .wefts
    | 7 => .table .drivers
    | _ => .tableUnknown

/-- A command code with arguments of `have` bytes where `want` are required (10 R185 check 3). -/
def exactArgs (row : FrameRow) (want : Nat) (args : List Byte) : FrameRow :=
  if args.length = want then row else .unknownCommand

/-- The row of a QUERY by its arguments (10 R185, R195). -/
def queryRow : List Byte → FrameRow
  | [sel] =>
    match sel.toNat with
    | 1 => .queryRun
    | 2 => .querySlots
    | 3 => .queryTracker
    | 4 => .unknownCommand
    | 5 => .queryDrivers
    | 6 => .queryCounters
    | _ => .queryUnknown
  | [sel, _] => if sel.toNat = 4 then .queryModules else .unknownCommand
  | _ => .unknownCommand

/-- The row that takes a COMMAND frame (10 R185, R195). -/
def commandRow : List Byte → FrameRow
  | [] => .unknownCommand
  | code :: args =>
    match code.toNat with
    | 1 => exactArgs .arm 0 args
    | 2 => exactArgs .disarm 0 args
    | 3 => exactArgs .start 0 args
    | 4 => exactArgs .stop 0 args
    | 5 => exactArgs .clear 0 args
    | 6 => exactArgs .flush 2 args
    | 7 => exactArgs .home 0 args
    | 8 => exactArgs .softReset 0 args
    | 9 => queryRow args
    | 10 => exactArgs .offstateTest 1 args
    | 11 => exactArgs .clearModuleFlags 0 args
    | _ => .unknownCommand

/-- The row that takes a frame (10 R181). -/
def rowOf (f : RxFrame) : FrameRow :=
  match f.kind with
  | .pick => .pick
  | .table => tableRow f.payload
  | .command => commandRow f.payload

/-- 10 R185: the result of a COMMAND frame that reaches no block: FORMAT without a code or with a known code,
UNKNOWN with another. -/
def unknownResult : List Byte → Result
  | [] => .format
  | code :: _ => if 1 ≤ code.toNat ∧ code.toNat ≤ 11 then .format else .unknown

/-! ### The pick frame (10 R192) -/

/-- The ordinal in a pick frame, 0 when the frame is too short to hold one (01 R10). -/
def pickOrdinal (p : List Byte) : Ordinal := if p.length < 2 then 0 else BitVec.ofNat 16 (wordAt p 0)

/-- 01 R11 for a design width `w`: the exact length, the weft channel and the profile. Each effect code is a half
byte and so within 0 to 15. -/
def pickWellFormed (w : Nat) (p : List Byte) : Bool :=
  p.length = 6 + (w + 1) / 2 && byteAt p 4 ≤ 12 && byteAt p 5 ≤ 7

/-- The effect code of column `j`: column 0 in the high half of byte 6 (10 R192). -/
def effectCode (p : List Byte) (j : Nat) : Fin 16 :=
  let b := byteAt p (6 + j / 2)
  if j % 2 = 0 then Fin.ofNat 16 (b / 16) else Fin.ofNat 16 b

/-- 01 R1: the record made of a pick frame, with the working fields at their values at acceptance. -/
def pickRecord (w : Nat) (p : List Byte) : PickRecord :=
  { ordinal := pickOrdinal p
    row := BitVec.ofNat 16 (wordAt p 2)
    weft := Fin.ofNat 13 (byteAt p 4)
    profile := Fin.ofNat 8 (byteAt p 5)
    effects := (List.range w).map (effectCode p)
    state := .pending, weaveCount := 0, arrival := none, revTime := none, cause := none, clipped := false }

/-! ### Table frames -/

/-- The record index as received, 0 when absent (10 R195). -/
def tableIndex (p : List Byte) : Nat := if p.length < 3 then 0 else wordAt p 1

/-- Byte `i` of the record body. -/
def bodyByte (p : List Byte) (i : Nat) : Nat := byteAt p (3 + i)

/-- The two bytes at `i` of the record body. -/
def bodyWord (p : List Byte) (i : Nat) : Nat := wordAt p (3 + i)

/-- Length of the record body, none when the index is not there. -/
def bodyLength (p : List Byte) : Option Nat := if p.length < 3 then none else some (p.length - 3)

/-- A field check of a table write: the field number it is found at, and whether it passes (02 R28, 10 R193). -/
structure FieldCheck where
  field : Nat
  ok : Bool
  deriving DecidableEq, Repr

/-- The first field found out of range, in layout order (02 R28). -/
def firstBad (checks : List FieldCheck) : Option Nat :=
  ((checks.filter fun c => !c.ok).map FieldCheck.field).foldl
    (fun best n => match best with | none => some n | some m => some (min m n)) none

/-- `lo ≤ n ≤ hi`. -/
def within (lo hi n : Nat) : Bool := lo ≤ n && n ≤ hi

/-- A value that may be written as 65,535 for its default (10 R193). -/
def orDefault (n dflt : Nat) : Nat := if n = 65535 then dflt else n

/-- The range check of a value that may be written as default. -/
def withinOrDefault (lo hi n : Nat) : Bool := n = 65535 || within lo hi n

/-! #### MACHINE (02 R29, 10 R193) -/

/-- 02 R28 check 3. -/
def machineLengthOk (p : List Byte) : Bool := bodyLength p = some 26

/-- The checks of R29, with the field numbers of 10 R193. -/
def machineChecks (p : List Byte) : List FieldCheck :=
  [ ⟨0, tableIndex p = 0⟩,
    ⟨1, within 0 32 (bodyByte p 0)⟩, ⟨2, within 0 32 (bodyByte p 1)⟩,
    ⟨3, within 0 32 (bodyByte p 2)⟩, ⟨4, within 0 32 (bodyByte p 3)⟩,
    ⟨4, 1 ≤ bodyByte p 0 + bodyByte p 1 + bodyByte p 2 + bodyByte p 3⟩,
    ⟨5, within 8 2048 (bodyWord p 4)⟩,
    ⟨6, within 720 16384 (bodyWord p 6)⟩,
    ⟨7, bodyWord p 8 < bodyWord p 6⟩,
    ⟨8, within 1800 3500 (bodyWord p 10)⟩,
    ⟨9, within 0 20000 (bodyWord p 12)⟩,
    ⟨10, withinOrDefault 0 900 (bodyWord p 14)⟩,
    ⟨11, withinOrDefault 20 2000 (bodyWord p 16)⟩,
    ⟨12, within 1 15 (bodyByte p 18)⟩,
    ⟨13, withinOrDefault 0 255 (bodyWord p 19)⟩,
    ⟨14, withinOrDefault 0 255 (bodyWord p 21)⟩,
    ⟨15, within 0 31 (bodyByte p 23)⟩,
    ⟨16, within 0 15 (bodyByte p 24)⟩,
    ⟨17, within 0 1 (bodyByte p 25)⟩ ]

/-- The machine record written. -/
def machineRecordOf (p : List Byte) : MachineRecord :=
  { modules := #v[bodyByte p 0, bodyByte p 1, bodyByte p 2, bodyByte p 3]
    width := bodyWord p 4
    counts := bodyWord p 6
    offset := bodyWord p 8
    latchAngle := bodyWord p 10
    hookLatency := bodyWord p 12
    armLimit := orDefault (bodyWord p 14) 300
    standstillMs := orDefault (bodyWord p 16) 250
    filter := bodyByte p 18
    indexTolerance := orDefault (bodyWord p 19) 4
    reverseTolerance := orDefault (bodyWord p 21) 8
    lowWater := bodyByte p 23
    chainMode := if bodyByte p 24 = 0 then .report else .stopAfter (bodyByte p 24)
    encoderMode := if bodyByte p 25 = 0 then .halt else .stop }

/-! #### SECTIONS (02 R31) -/

/-- 02 R28 check 3. -/
def sectionLengthOk (p : List Byte) : Bool := bodyLength p = some 11

/-- The kind fields of a FIGURE or SELVEDGE section. -/
def sectionKindChecks (p : List Byte) : List FieldCheck :=
  match bodyByte p 4 with
  | 2 => [ ⟨4, within 0 2047 (bodyWord p 5)⟩, ⟨5, within 1 2048 (bodyWord p 7)⟩,
           ⟨6, within 0 1 (bodyByte p 9)⟩, ⟨7, within 0 1 (bodyByte p 10)⟩ ]
  | 3 => [ ⟨4, within 0 31 (bodyByte p 5)⟩, ⟨5, within 0 31 (bodyByte p 6)⟩, ⟨6, within 0 31 (bodyByte p 7)⟩ ]
  | _ => []

/-- The checks of R31; a count of 0 writes the record absent and its other fields are not checked (10 R193). -/
def sectionChecks (p : List Byte) : List FieldCheck :=
  ⟨0, within 0 63 (tableIndex p)⟩ ::
    if bodyWord p 2 = 0 then []
    else
      [ ⟨1, within 0 16383 (bodyWord p 0)⟩, ⟨2, within 1 16384 (bodyWord p 2)⟩,
        ⟨2, bodyWord p 0 + bodyWord p 2 ≤ 16384⟩, ⟨3, within 0 3 (bodyByte p 4)⟩ ] ++ sectionKindChecks p

/-- The section written, none when its count is 0. -/
def sectionOf (p : List Byte) : Option HarnessSection :=
  if bodyWord p 2 = 0 then none
  else
    some
      { first := bodyWord p 0
        count := bodyWord p 2
        kind :=
          match bodyByte p 4 with
          | 0 => .lift
          | 1 => .down
          | 2 =>
            .figure (bodyWord p 5) (bodyWord p 7) (if bodyByte p 9 = 0 then .straight else .pointed)
              (if bodyByte p 10 = 0 then .ascending else .descending)
          | _ => .selvedge (bodyByte p 5) (bodyByte p 6) (bodyByte p 7) }

/-! #### Records with a presence byte -/

/-- 10 R193: presence 0 with a one-byte body, or presence 1 with a body of `len` bytes. -/
def presenceLengthOk (len : Nat) (p : List Byte) : Bool :=
  match bodyLength p with
  | none => false
  | some n => (bodyByte p 0 = 0 && n = 1) || (bodyByte p 0 = 1 && n = len)

/-- Checks that apply to a present record alone. -/
def whenPresent (p : List Byte) (checks : List FieldCheck) : List FieldCheck :=
  if bodyByte p 0 = 1 then checks else []

/-- A record that is present when the presence byte is 1. -/
def presentOf {α : Type} (p : List Byte) (x : α) : Option α := if bodyByte p 0 = 1 then some x else none

/-! #### EFFECTS (02 R32) -/

/-- The checks of R32; w, a, b and invert are ignored for UP and DOWN (10 R193). -/
def effectChecks (p : List Byte) : List FieldCheck :=
  ⟨0, within 0 15 (tableIndex p)⟩ ::
    whenPresent p
      (⟨2, within 0 2 (bodyByte p 1)⟩ ::
        if bodyByte p 1 = 2 then
          [ ⟨3, within 0 31 (bodyByte p 2)⟩, ⟨4, within 0 31 (bodyByte p 3)⟩,
            ⟨5, within 0 31 (bodyByte p 4)⟩, ⟨6, within 0 1 (bodyByte p 5)⟩ ]
        else [])

/-- The effect entry written. -/
def effectOf (p : List Byte) : Option Effect :=
  presentOf p
    (match bodyByte p 1 with
     | 0 => .up
     | 1 => .down
     | _ => .weave (bodyByte p 2) (bodyByte p 3) (bodyByte p 4) (bodyByte p 5 = 1))

/-! #### WEAVES (02 R33) -/

/-- Bytes of one row of a weave (10 R193). -/
def weaveRowBytes (width : Nat) : Nat := (width + 7) / 8

/-- 02 R28 check 3 and R33: the length is that of the carried H_w and W_w. -/
def weaveLengthOk (p : List Byte) : Bool :=
  presenceLengthOk (3 + bodyByte p 1 * weaveRowBytes (bodyByte p 2)) p

/-- The checks of R33. -/
def weaveChecks (p : List Byte) : List FieldCheck :=
  ⟨0, within 0 31 (tableIndex p)⟩ ::
    whenPresent p [⟨2, within 1 32 (bodyByte p 1)⟩, ⟨3, within 1 32 (bodyByte p 2)⟩]

/-- Cell j of row i: bit 7 - (j mod 8) of the row's byte j / 8 (10 R193). -/
def weaveCellOf (p : List Byte) (i j : Nat) : Bool :=
  (bodyByte p (3 + i * weaveRowBytes (bodyByte p 2) + j / 8)).testBit (7 - j % 8)

/-- The weave written. -/
def weaveOf (p : List Byte) : Option Weave :=
  presentOf p
    { height := bodyByte p 1
      width := bodyByte p 2
      cells := (List.range (bodyByte p 1)).map fun i => (List.range (bodyByte p 2)).map (weaveCellOf p i) }

/-! #### PROFILES (02 R37, 10 R194) -/

/-- 02 R28 check 3. -/
def profileLengthOk (p : List Byte) : Bool := presenceLengthOk 38 p

/-- The number of action places used. -/
def profileCount (p : List Byte) : Nat := min 8 (bodyByte p 1)

/-- The angle of action place `i`. -/
def placeAngle (p : List Byte) (i : Nat) : Nat := bodyWord p (2 + 4 * i + 2)

/-- The target code of action place `i`. -/
def placeTarget (p : List Byte) (i : Nat) : Nat := bodyByte p (2 + 4 * i + 1)

/-- The switching code of action place `i`. -/
def placeSwitching (p : List Byte) (i : Nat) : Nat := bodyByte p (2 + 4 * i)

/-- An angle of a profile: at least the arming limit, 0 with no machine record (02 R37, R38), at most 3,599. -/
def angleOk (limit angle : Nat) : Bool := within limit 3599 angle

/-- The single-field checks of action place `i`; its fields are 3 + 3i, 4 + 3i and 5 + 3i. -/
def placeChecks (limit : Nat) (p : List Byte) (i : Nat) : List FieldCheck :=
  [ ⟨3 + 3 * i, within 0 1 (placeSwitching p i)⟩, ⟨4 + 3 * i, within 0 20 (placeTarget p i)⟩,
    ⟨5 + 3 * i, angleOk limit (placeAngle p i)⟩ ]

/-- The used places of target code `t`, in increasing angle, equal angles in place order (02 R37). -/
def placesOfTarget (p : List Byte) (t : Nat) : List Nat :=
  sortBy (fun i j => placeAngle p i ≤ placeAngle p j)
    ((List.range (profileCount p)).filter fun i => placeTarget p i = t)

/-- 02 R37: every ON is followed by an OFF at least 10 tenths above it, with no second ON between them: the next
action of the target is that OFF (log 12). -/
def pairingOk (p : List Byte) : List Nat → Bool
  | [] => true
  | i :: rest =>
    (placeSwitching p i != 0 ||
      match rest with
      | [] => false
      | j :: _ => placeSwitching p j != 0 && placeAngle p i + 10 ≤ placeAngle p j)
    && pairingOk p rest

/-- The pairing check of the target of place `i`, counted at the angle of the target's last place (02 R28, log 12). -/
def pairingCheck (p : List Byte) (i : Nat) : FieldCheck :=
  let places := placesOfTarget p (placeTarget p i)
  ⟨5 + 3 * places.foldl max 0, pairingOk p places⟩

/-- The checks of R37. -/
def profileChecks (limit : Nat) (p : List Byte) : List FieldCheck :=
  ⟨0, within 0 7 (tableIndex p)⟩ ::
    whenPresent p
      (⟨2, within 0 8 (bodyByte p 1)⟩ ::
        ((List.range (profileCount p)).flatMap (placeChecks limit p)
          ++ (List.range (profileCount p)).map (pairingCheck p)
          ++ [ ⟨27, angleOk limit (bodyWord p 34)⟩, ⟨28, angleOk limit (bodyWord p 36)⟩,
               ⟨28, bodyWord p 34 < bodyWord p 36⟩ ]))

/-- The action in place `i`. -/
def placeAction (p : List Byte) (i : Nat) : ProfileAction :=
  { switching := if placeSwitching p i = 0 then .on else .off
    target := if placeTarget p i = 20 then .selector else .channel (Fin.ofNat 20 (placeTarget p i))
    angle := placeAngle p i }

/-- The profile written. -/
def profileOf (p : List Byte) : Option Profile :=
  presentOf p
    { actions := (List.range (profileCount p)).map (placeAction p)
      windowOpen := bodyWord p 34
      windowClose := bodyWord p 36 }

/-! #### WEFTS (02 R39) -/

/-- 02 R28 check 3. -/
def weftLengthOk (p : List Byte) : Bool := presenceLengthOk 4 p

/-- The checks of R39. -/
def weftChecks (p : List Byte) : List FieldCheck :=
  ⟨0, within 1 12 (tableIndex p)⟩ ::
    whenPresent p
      [⟨2, within 0 1 (bodyByte p 1)⟩, ⟨3, within 0 19 (bodyByte p 2)⟩, ⟨4, within 0 12 (bodyByte p 3)⟩]

/-- The weft channel record written. -/
def weftOf (p : List Byte) : Option WeftChannel :=
  presentOf p
    { enabled := bodyByte p 1 = 1
      selector := Fin.ofNat 20 (bodyByte p 2)
      feeder := if bodyByte p 3 = 0 then none else some (Fin.ofNat 12 (bodyByte p 3 - 1)) }

/-! #### DRIVERS (02 R40, 10 R194) -/

/-- 02 R28 check 3. -/
def driverLengthOk (p : List Byte) : Bool := presenceLengthOk 16 p

/-- 02 R40: the order of the levels by mode. -/
def levelsOk (mode peak hold overcurrent : Nat) : Bool :=
  match mode with
  | 2 => hold < peak && peak < overcurrent
  | 1 => hold < overcurrent
  | _ => true

/-- The checks of R40; the order of the levels is counted at the overcurrent level (02 R28). -/
def driverChecks (p : List Byte) : List FieldCheck :=
  ⟨0, within 0 19 (tableIndex p)⟩ ::
    whenPresent p
      [ ⟨2, within 0 2 (bodyByte p 1)⟩,
        ⟨3, within 1 15 (bodyByte p 2)⟩, ⟨4, within 1 15 (bodyByte p 3)⟩, ⟨5, within 1 15 (bodyByte p 4)⟩,
        ⟨5, levelsOk (bodyByte p 1) (bodyByte p 2) (bodyByte p 3) (bodyByte p 4)⟩,
        ⟨6, within 100 5000 (bodyWord p 5)⟩, ⟨7, within 5 100 (bodyByte p 7)⟩, ⟨8, within 0 50 (bodyByte p 8)⟩,
        ⟨9, bodyByte p 9 = 1 || bodyByte p 9 = 2 || bodyByte p 9 = 4 || bodyByte p 9 = 8⟩,
        ⟨10, within 0 20000 (bodyWord p 10)⟩,
        ⟨11, within 0 3 (bodyByte p 12)⟩, ⟨12, within 0 3 (bodyByte p 13)⟩,
        ⟨13, within 0 1 (bodyByte p 14)⟩, ⟨14, within 0 1 (bodyByte p 15)⟩ ]

/-- The fault mode of a code (10 R194). -/
def faultModeOf : Nat → FaultMode
  | 0 => .latch
  | 1 => .perPick
  | 2 => .report
  | _ => .disabled

/-- The driver settings record written. -/
def driverOf (p : List Byte) : Option DriverSettings :=
  presentOf p
    { mode := match bodyByte p 1 with | 0 => .off | 1 => .direct | _ => .peakHold
      peakLevel := bodyByte p 2
      holdLevel := bodyByte p 3
      overcurrentLevel := bodyByte p 4
      peakTimeLimit := bodyWord p 5
      chopOffTime := bodyByte p 7
      blanking := bodyByte p 8
      deglitch := bodyByte p 9
      latency := bodyWord p 10
      overcurrentMode := faultModeOf (bodyByte p 12)
      openLoadMode := faultModeOf (bodyByte p 13)
      scope := if bodyByte p 14 = 0 then .channel else .group
      group := if bodyByte p 15 = 0 then .a else .b }

end Sys2Proof.Machine
end

