-- ==== Sys2Proof/Machine/Wire.lean ====
section
/-! DEFINITION. What the part sends: the encoding of every event record and query content field by field
(10 R190, R197), the frames with their headers and check bytes (10 R191, R195, R196). -/

namespace Sys2Proof.Machine

/-! ### Choices of named values, numbered from 0 as the manual lists them (10 R190) -/

def RunState.code : RunState → Nat
  | .offline => 0 | .stopped => 1 | .weaving => 2 | .stopping => 3 | .halted => 4

def PickState.code : PickState → Nat
  | .pending => 0 | .armed => 1 | .inserted => 2 | .faulted => 3 | .unwoven => 4

def FaultCause.code : FaultCause → Nat
  | .missing => 0 | .feeder => 1 | .driver => 2 | .channel => 3 | .interrupted => 4

def RefusalCause.code : RefusalCause → Nat
  | .state => 0 | .format => 1 | .sequence => 2 | .full => 3

def LinkErrorKind.code : LinkErrorKind → Nat
  | .framing => 0 | .check => 1 | .overrun => 2

def ChainStateName.code : ChainStateName → Nat
  | .idle => 0 | .shifting => 1 | .checking => 2 | .ready => 3

def LastAnswer.code : LastAnswer → Nat
  | .none => 0 | .ack => 1 | .nak => 2 | .silent => 3

def Homing.code : Homing → Nat
  | .unhomed => 0 | .homing => 1 | .homed => 2

def Direction.code : Direction → Nat
  | .forward => 0 | .backward => 1

def Motion.code : Motion → Nat
  | .moving => 0 | .standstill => 1

def SnapshotEntry.code : SnapshotEntry → Nat
  | .forward => 0 | .backward => 1 | .start => 2

def Switching.code : Switching → Nat
  | .on => 0 | .off => 1

def DriveMode.code : DriveMode → Nat
  | .off => 0 | .direct => 1 | .peakHold => 2

def FaultMode.code : FaultMode → Nat
  | .latch => 0 | .perPick => 1 | .report => 2 | .disabled => 3

def FaultScope.code : FaultScope → Nat
  | .channel => 0 | .group => 1

def DrivePhase.code : DrivePhase → Nat
  | .idle => 0 | .peak => 1 | .holdOn => 2 | .holdOff => 3 | .directOn => 4 | .blocked => 5 | .testing => 6

/-- R140 lists none, PER_PICK, LATCH. -/
def BlockKind.code : BlockKind → Nat
  | .perPick => 1 | .latch => 2

def TestResult.code : TestResult → Nat
  | .none => 0 | .loadPresent => 1 | .open => 2 | .shorted => 3

def DriverFaultKind.code : DriverFaultKind → Nat
  | .overcurrent => 0 | .openLoad => 1

def ChannelReason.code : ChannelReason → Nat
  | .channelAbsent => 0 | .channelDisabled => 1 | .profileAbsent => 2

def Result.code : Result → Nat
  | .ok => 0 | .state => 1 | .range => 2 | .table => 3 | .notHomed => 4 | .moving => 5 | .busy => 6 | .format => 7
  | .unknown => 8

/-- The kind byte of a frame from the host (10 R191). -/
def FrameKind.code : FrameKind → Nat
  | .pick => 1 | .table => 2 | .command => 3

/-- Low, high, or not acquired (05 state table); CLEAR, BREAK, or not acquired (07 state table). -/
def levelCode : Option Level → Nat
  | some .low => 0
  | some .high => 1
  | none => 2

/-- A set of module flags: SUPPLY_LOW in bit 0, OVERTEMP bit 1, MAGNET_OPEN bit 2 (10 R190). -/
def ModuleFlags.code (f : ModuleFlags) : Nat := f.supplyLow.toNat + 2 * f.overtemp.toNat + 4 * f.magnetOpen.toNat

/-! ### Causes (10 R197) -/

/-- A cause code and three detail bytes without details. -/
def encPlainCause (code : Nat) : List Byte := enc8 code ++ [0, 0, 0]

/-- A cause with the ordinal of the pick concerned. -/
def encPickCause (code : Nat) (o : Ordinal) : List Byte := enc8 code ++ encWord o ++ [0]

/-- A stop cause in 4 bytes. -/
def encStopCause : StopCause → List Byte
  | .stopCommand => encPlainCause 1
  | .weftMissing o => encPickCause 2 o
  | .feederBreak o => encPickCause 3 o
  | .weftDriver o => encPickCause 4 o
  | .weftChannel o => encPickCause 5 o
  | .lateImage o => encPickCause 6 o
  | .starved => encPlainCause 7
  | .chainFault k m => enc8 8 ++ enc8 k.val ++ enc8 m ++ [0]
  | .encoderFault => encPlainCause 9
  | .indexMissing => encPlainCause 10
  | .reverseInRun => encPlainCause 11

/-- A halting cause in 4 bytes. -/
def encHaltCause : HaltCause → List Byte
  | .driverLatch dc => enc8 12 ++ enc8 dc.val ++ [0, 0]
  | .encoderFault => encPlainCause 13
  | .indexMismatch => encPlainCause 14

/-- A stop or halting cause in 4 bytes. -/
def encCause : Cause → List Byte
  | .stop c => encStopCause c
  | .halt c => encHaltCause c

/-- NONE is code 0 with three bytes 0. -/
def encCauseOr {α : Type} (f : α → List Byte) : Option α → List Byte
  | none => encPlainCause 0
  | some c => f c

/-! ### Event records (10 R196) -/

/-- The outcome fields of a record (01 R1). -/
def encOutcome (r : PickRecord) : List Byte :=
  encOpt enc16 r.arrival ++ encOpt enc32 r.revTime ++ encOpt (fun c => enc8 (FaultCause.code c)) r.cause
    ++ encBool r.clipped

/-- The shed tag with its STALE marker and degraded flag (04 R69). -/
def encTag (t : ShedTag) : List Byte := encOpt encWord t.ordinal ++ encBool t.stale ++ encBool t.degraded

/-- A chain as LATE_IMAGE reports it (04 R75): its state, then its ordinal, with no chain number (log 22). -/
def encChainReport (c : ChainReport) : List Byte := enc8 c.state.code ++ encOpt encWord c.ordinal

/-- A driver channel number (10 R190). -/
def encDriver (dc : DriverIdx) : List Byte := enc8 dc.val

/-- A feeder line number, 1 to 12 (10 R190). -/
def encFeeder (f : FeederIdx) : List Byte := enc8 (f.val + 1)

/-- The fault cause a WEFT_FAULT carries and the fields that depend on it (07 R137). -/
def WeftDetail.cause : WeftDetail → FaultCause
  | .missing => .missing
  | .channel _ => .channel
  | .feeder _ => .feeder
  | .driver _ => .driver

/-- The fields of a WEFT_FAULT that depend on its cause. -/
def encWeftDetail : WeftDetail → List Byte
  | .missing => []
  | .channel r => enc8 r.code
  | .feeder f => encFeeder f
  | .driver cs => encList encDriver cs

/-- The event kind (10 R196). -/
def Event.kind : Event → Nat
  | .pickDone _ => 0
  | .pickRefused _ _ _ => 1
  | .lowWater _ _ => 2
  | .runState _ _ _ _ _ => 3
  | .weftFault _ _ _ _ _ _ => 4
  | .feederAlarm _ _ _ _ => 5
  | .lateStarved _ _ _ => 6
  | .lateNotReady _ _ _ _ _ => 6
  | .chainError _ _ _ _ => 7
  | .moduleAlarm _ _ _ _ => 8
  | .driverFault _ _ _ _ _ _ _ _ _ => 9
  | .encoderIllegal _ _ _ _ => 10
  | .indexMismatch _ _ _ => 10
  | .indexMissing _ _ => 10
  | .backstep _ _ _ => 11
  | .homed _ _ _ => 12
  | .linkError _ _ _ => 13
  | .testDone _ _ => 14

/-- The fields of an event record, in the order of its owning rule (log 8). -/
def Event.fields : Event → List Byte
  | .pickDone r =>
    encWord r.ordinal ++ encWord r.row ++ enc8 r.weft.val ++ enc8 r.state.code ++ enc8 r.weaveCount ++ encOutcome r
  | .pickRefused c o e => enc8 c.code ++ encWord o ++ encWord e
  | .lowWater h e => enc8 h ++ encWord e
  | .runState st before fs hc later =>
    enc8 st.code ++ enc8 before.code ++ encBool later.isSome ++ encCauseOr encStopCause fs
      ++ encCauseOr encHaltCause hc ++ (match later with | none => [] | some c => encCause c)
  | .weftFault o row w a arr d =>
    encWord o ++ encWord row ++ enc8 w.val ++ enc8 d.cause.code ++ enc16 a ++ encOpt enc16 arr ++ encWeftDetail d
  | .feederAlarm f a st cur =>
    encFeeder f ++ encOpt enc16 a ++ enc8 st.code ++ encOpt (fun x => encWord x.1 ++ enc8 x.2.val) cur
  | .lateStarved d t st => enc8 0 ++ enc8 d.code ++ enc8 0 ++ encTag t ++ enc8 st.code
  | .lateNotReady d o t st cs =>
    enc8 1 ++ enc8 d.code ++ encOpt encWord (some o) ++ encTag t ++ enc8 st.code ++ encList encChainReport cs
  | .chainError k o f n => enc8 k.val ++ encWord o ++ enc8 f ++ enc8 n
  | .moduleAlarm k m fl la => enc8 k.val ++ enc8 m ++ enc8 fl.code ++ enc8 la.code
  | .driverFault dc k m sc bl ph st cur a =>
    encDriver dc ++ enc8 k.code ++ enc8 m.code ++ enc8 sc.code ++ encList encDriver bl ++ enc8 ph.code
      ++ enc8 st.code ++ encOpt encWord cur ++ encOpt enc16 a
  | .encoderIllegal p a b h => enc8 0 ++ enc16 p ++ enc8 (levelCode a) ++ enc8 (levelCode b) ++ enc8 h.code
  | .indexMismatch p o d => enc8 1 ++ enc16 p ++ enc16 o ++ encInt d
  | .indexMissing p n => enc8 2 ++ enc16 p ++ encInt n
  | .backstep cur nx d =>
    encOpt (fun x => encWord x.1 ++ enc8 (PickState.code x.2)) cur ++ encOpt encWord nx ++ enc8 d
  | .homed o prev d => enc16 o ++ enc16 prev ++ enc8 d.code
  | .linkError k fk n => enc8 k.code ++ encOpt (fun b => [b]) fk ++ enc16 n
  | .testDone dc r => encDriver dc ++ enc8 r.code

/-- The payload of an EVENT frame: kind, lost flag, fields (10 R196). -/
def Event.payload (e : Event) (lost : Bool) : List Byte := enc8 e.kind ++ encBool lost ++ e.fields

/-! ### Answers (10 R195) -/

/-- The payload of an ANSWER frame. -/
def Answer.payload (a : Answer) : List Byte := enc8 a.kind.code ++ [a.code] ++ enc8 a.result.code ++ a.data

/-! ### Frames (10 R191) -/

/-- The kind byte of a frame from the part. -/
def TxKind.code : TxKind → Nat
  | .answer => 129
  | .event => 130

/-- The header of a frame from the part: its kind, the run state and the PQ free space as they stand, and the length
of its payload (10 R184, R191). -/
def headerBytes (s : State) (kind : TxKind) (length : Nat) : List Byte :=
  enc8 kind.code ++ enc8 s.run.state.code ++ enc8 s.pqFree ++ enc16 length

/-- Bytes with their check bytes behind them (10 R178). -/
def withCheck (bytes : List Byte) : List Byte := bytes ++ encWord (crc16 bytes)

/-- A whole frame from the part: start byte, header, payload and check bytes (10 R178, R191). -/
def frameBytes (s : State) (kind : TxKind) (payload : List Byte) : List Byte :=
  let checked := headerBytes s kind payload.length ++ payload
  startByte :: withCheck checked

/-! ### Query contents (10 R186) -/

/-- The snapshot's action as QUERY RUN reports it (06 R121). -/
def encArmedAction (a : ArmedAction) : List Byte :=
  enc8 a.switching.code ++ encDriver a.channel ++ enc16 a.nominal ++ enc16 a.advance ++ enc16 a.effective
    ++ encBool a.fired

/-- The armed part as QUERY RUN reports it (06 R121). -/
def encArmedPart (a : ArmedPart) : List Byte :=
  encWord a.ordinal ++ encDriver a.weft.selector ++ encBool a.clipped ++ enc16 a.windowOpen ++ encBool a.openHanded
    ++ enc16 a.windowClose ++ encBool a.closeHanded ++ encList encArmedAction a.actions

/-- The snapshot (06 R121). -/
def encSnapshot (sn : Snapshot) : List Byte :=
  enc8 sn.entry.code ++ enc16 sn.hookAdvance ++ enc16 sn.latchAngle ++ encOpt encArmedPart sn.armed

/-- The Weft Monitor's state (07 R137). -/
def encWfm (w : Wfm) : List Byte :=
  (match w.window with | none => enc8 0 | some o => enc8 1 ++ encWord o)
    ++ encOpt enc16 w.capture
    ++ (match w.watch with | none => enc8 0 | some f => enc8 1 ++ encFeeder f)
    ++ enc8 (levelCode w.arv) ++ w.feeders.toList.flatMap (fun l => enc8 (levelCode l))

/-- QUERY RUN: R174, then R121, then R137. RUN PERMIT is asserted 0 or dropped 1 (09 section head). -/
def runContent (s : State) : List Byte :=
  enc8 s.run.state.code ++ enc8 (if s.run.permit then 0 else 1) ++ encCauseOr encStopCause s.run.firstStop
    ++ encCauseOr encHaltCause s.run.haltCause ++ encCauseOr encCause s.run.lastLater ++ encWord s.tbm.epoch
    ++ encOpt encSnapshot s.asc.snapshot ++ encWfm s.wfm

/-- A slot as QUERY SLOTS reports it (01 R24). -/
def encSlot (r : PickRecord) : List Byte :=
  encWord r.ordinal ++ encWord r.row ++ enc8 r.weft.val ++ enc8 r.profile.val ++ enc8 r.state.code
    ++ enc8 r.weaveCount ++ encOutcome r

/-- An image buffer as QUERY SLOTS reports it (03 R61). -/
def encBuffer : Buffer → List Byte
  | .empty => enc8 0
  | .filling o _ _ _ => enc8 1 ++ encWord o
  | .held o e _ => enc8 2 ++ encWord o ++ encWord e

/-- The ordinal of a list's first or last record, when it has one. -/
def encEnd (r : Option PickRecord) : List Byte := encOpt (fun x => encWord (PickRecord.ordinal x)) r

/-- QUERY SLOTS: R24, then R61, then the tag and, in STOPPED, the required pick (R84). -/
def slotsContent (s : State) : List Byte :=
  encOpt encSlot s.psq.current ++ encOpt encSlot s.psq.nextPick
    ++ enc8 s.psq.history.length ++ enc8 s.psq.replay.length ++ enc8 s.psq.queue.length
    ++ encEnd s.psq.history.head? ++ encEnd s.psq.history.getLast?
    ++ encEnd s.psq.replay.head? ++ encEnd s.psq.queue.head? ++ encEnd s.psq.queue.getLast?
    ++ enc8 s.heldAhead ++ encWord s.psq.expected ++ enc8 s.psq.depth ++ encBool s.psq.warningReady
    ++ encBuffer s.shb.buffer0 ++ encBuffer s.shb.buffer1 ++ encOpt encWord s.shb.target
    ++ encTag s.hci.tag ++ (if s.run.state = .stopped then encOpt encWord s.hci.required else [])

/-- QUERY TRACKER (05 R103). -/
def trackerContent (s : State) : List Byte :=
  enc8 s.stk.homing.code ++ enc16 (if s.tbm.machine.isSome then s.stk.position else 0)
    ++ encOpt enc16 s.angle ++ encOpt enc16 (s.tbm.machine.map MachineRecord.highestAngle)
    ++ enc8 s.stk.direction.code ++ enc8 s.stk.motion.code ++ encOpt enc32 s.stk.revTime
    ++ encOpt encInt s.stk.lastDeviation ++ encOpt encInt s.stk.largestDeviation ++ encInt s.stk.netTravel
    ++ enc16 s.stk.reverseCount ++ enc16 s.stk.illegalCount
    ++ enc8 (levelCode s.stk.encA) ++ enc8 (levelCode s.stk.encB) ++ enc8 (levelCode s.stk.encZ)

/-- A module entry (04 R80, R84). -/
def encModuleEntry (e : ModuleEntry) : List Byte :=
  enc8 e.lastAnswer.code ++ enc8 e.lastFlags.code ++ enc8 e.sticky.code ++ enc8 e.consecutive ++ enc8 e.total

/-- QUERY MODULES(chain) (04 R84). R65 gives a degraded flag to a READY chain alone: for any other the model sends 0,
with no presence byte (log 8). -/
def modulesContent (s : State) (k : ChainIdx) : List Byte :=
  let c := s.hci.chains[k]
  enc8 c.phase.name.code ++ encOpt encWord c.phase.ordinal? ++ encBool c.phase.degradedFlag
    ++ enc8 (s.modulesOn k) ++ encBool c.lengthFlag ++ encList encModuleEntry c.entries

/-- One channel of QUERY DRIVERS (08 R156); the block kind stands there when BLOCKED, the copy mark when driving. -/
def encDriverChannel (c : DriverChannel) (settings : Option DriverSettings) : List Byte :=
  enc8 c.phase.code
    ++ (if c.phase = .blocked then enc8 (match c.block with | none => 0 | some b => b.code) else [])
    ++ encOpt (fun d => enc8 (DriveMode.code (DriverSettings.mode d))) settings
    ++ (if c.phase.driving then encBool (match c.inUse with | none => false | some u => u.fromSnapshot) else [])
    ++ enc8 (c.flagOvercurrent.toNat + 2 * c.flagOpenLoad.toNat) ++ enc8 c.faultCount ++ enc8 c.lastTest.code

/-- QUERY DRIVERS (08 R156). -/
def driversContent (s : State) : List Byte :=
  driverList.flatMap (fun dc => encDriverChannel s.drv.channels[dc] s.tbm.drivers[dc])
    ++ encOpt (fun t => encDriver (OffTest.channel t)) s.drv.test

/-- QUERY COUNTERS (10 R187). -/
def countersContent (s : State) : List Byte :=
  enc32 s.psq.picksEntered ++ enc32 s.wfm.weftFaults ++ enc32 s.psq.dwells ++ enc32 s.wfm.spurious
    ++ enc16 s.dlp.linkErrors

end Sys2Proof.Machine
end

