-- ==== Sys2Proof/Machine/Ops.lean ====
section
/-! DEFINITION. The operations the commands share: posting events (10 R183), handing causes and taking them
(09 R167 to R171), the change of run state with what every block does on it (09 R159), the shed: image buffers,
preparation target, shifts, latches, shed keeping (03, 04), the taking of a frame and its answer (10 R181, R182),
and the frame of every command (`command`). -/

namespace Sys2Proof.Machine

/-! ### Events, causes and lines -/

/-- 10 R183: a record joins the newest end, or is lost when the queue holds 32. -/
def post (e : Event) (s : State) : State :=
  if s.dlp.events.length < Config.eventCapacity then
    { s with dlp := { s.dlp with events := s.dlp.events ++ [e] } }
  else { s with dlp := { s.dlp with lost := true } }

/-- A block hands a cause to the Run Controller, where it waits until RUN takes it (09 R167 to R173, log 6). -/
def hand (c : Cause) (s : State) : State := { s with run := { s.run with handed := s.run.handed ++ [c] } }

/-- The part drives an item on a chain's lines or on HLS (04 R63). -/
def emit (x : LineItem) (s : State) : State := { s with lineOut := s.lineOut ++ [x] }

/-- The code byte of the shift-start mark (10 R198). -/
def shiftStartCode : Byte := 225

/-- The code byte of the check call (10 R198). -/
def checkCallCode : Byte := 60

/-- The code byte of the abort mark (10 R198). -/
def abortCode : Byte := 153

/-- Change the record in CURRENT, if there is one. -/
def modCurrent (f : PickRecord → PickRecord) (s : State) : State :=
  { s with psq := { s.psq with current := s.psq.current.map f } }

/-- 01 R2, R6: PENDING with the four outcome fields cleared; the weave count is kept. -/
def PickRecord.unwound (r : PickRecord) : PickRecord :=
  { r with state := .pending, arrival := none, revTime := none, cause := none, clipped := false }

/-- Change every chain. -/
def modChains (f : ChainIdx → Chain → Chain) (s : State) : State :=
  { s with hci := { s.hci with chains := Vector.ofFn fun k => f k s.hci.chains[k] } }

/-- Change one chain. -/
def setChain (k : ChainIdx) (c : Chain) (s : State) : State :=
  { s with hci := { s.hci with chains := s.hci.chains.set k.val c } }

/-- Change every driver channel. -/
def modChannels (f : DriverIdx → DriverChannel → DriverChannel) (s : State) : State :=
  { s with drv := { s.drv with channels := Vector.ofFn fun dc => f dc s.drv.channels[dc] } }

/-- Change one driver channel. -/
def setChannel (dc : DriverIdx) (c : DriverChannel) (s : State) : State :=
  { s with drv := { s.drv with channels := s.drv.channels.set dc.val c } }

/-! ### The shed: buffers, preparation target, shifts (03, 04) -/

/-- 04 R65: the HCI takes one chain with modules when an image is handed over. -/
def handChain (o : Ordinal) (s : State) (k : ChainIdx) : State :=
  let c := s.hci.chains[k]
  match c.phase with
  | .idle => emit (.mark k shiftStartCode) (setChain k { c with phase := .shifting o } s)
  | .ready t _ =>
    if t = o then s else emit (.mark k shiftStartCode) (setChain k { c with phase := .shifting o } s)
  | .shifting _ => s
  | .checking _ _ => s

/-- 04 R65: the SHB hands the HCI a HELD buffer as the image of the target. -/
def handOver (o : Ordinal) (s : State) : State := s.usedChains.foldl (handChain o) s

/-- A HELD buffer with the ordinal at the epoch in force (03 R56). -/
def Buffer.heldFor (o : Ordinal) (epoch : Word16) : Buffer → Bool
  | .held b e _ => b = o && e = epoch
  | _ => false

/-- The ordinal of a FILLING or HELD buffer. -/
def Buffer.ordinal? : Buffer → Option Ordinal
  | .empty => none
  | .filling o _ _ _ => some o
  | .held o _ _ => some o

/-- Whether a buffer is FILLING. -/
def Buffer.isFilling : Buffer → Bool
  | .filling _ _ _ _ => true
  | _ => false

/-- A candidate for a new expansion: EMPTY, or HELD with an ordinal that is neither CURRENT's nor NEXT's (03 R57). -/
def State.bufferCandidate (s : State) : Buffer → Bool
  | .empty => true
  | .filling _ _ _ _ => false
  | .held o _ _ => s.currentOrdinal != some o && s.nextOrdinal != some o

/-- The two image buffers. -/
inductive BufferIdx where
  | b0
  | b1
  deriving DecidableEq, Repr

/-- A buffer by its number. -/
def State.buffer (s : State) : BufferIdx → Buffer
  | .b0 => s.shb.buffer0
  | .b1 => s.shb.buffer1

/-- Replace a buffer. -/
def setBuffer (i : BufferIdx) (b : Buffer) (s : State) : State :=
  match i with
  | .b0 => { s with shb := { s.shb with buffer0 := b } }
  | .b1 => { s with shb := { s.shb with buffer1 := b } }

/-- The first of the two buffers that passes. -/
def State.firstBuffer (s : State) (ok : Buffer → Bool) : Option BufferIdx :=
  if ok s.shb.buffer0 then some .b0 else if ok s.shb.buffer1 then some .b1 else none

/-- 03 R57: the buffer chosen for a new expansion: an EMPTY one, else a candidate whose ordinal the tag does not
carry, else the candidate there is (log 13). -/
def State.chooseBuffer (s : State) : Option BufferIdx :=
  match s.firstBuffer (fun b => b = .empty) with
  | some i => some i
  | none =>
    match s.firstBuffer (fun b => s.bufferCandidate b && b.ordinal? != s.hci.tag.ordinal) with
    | some i => some i
    | none => s.firstBuffer s.bufferCandidate

/-- The record with the ordinal in CURRENT or NEXT. -/
def State.slotRecord (s : State) (o : Ordinal) : Option PickRecord :=
  (s.psq.current.toList ++ s.psq.nextPick.toList).find? fun r => r.ordinal = o

/-- 03 R52, R56: the buffer chosen becomes FILLING with the target's ordinal; the expansion reads its inputs. -/
def startExpansion (o : Ordinal) (s : State) : State :=
  match s.chooseBuffer, s.slotRecord o with
  | some i, some r => setBuffer i (.filling o s.tbm.epoch r.row r.effects) s
  | _, _ => s

/-- 03 R56: the target is looked for in the buffers, and handed over or expanded. -/
def takeUp (o : Ordinal) (s : State) : State :=
  match s.firstBuffer (Buffer.heldFor o s.tbm.epoch) with
  | some _ => handOver o s
  | none => startExpansion o s

/-- 04 R67: a SHIFTING or CHECKING chain abandons its shift: the abort mark is sent and it becomes IDLE (log 13). -/
def abortChain (s : State) (k : ChainIdx) : State :=
  let c := s.hci.chains[k]
  match c.phase with
  | .shifting _ => emit (.mark k abortCode) (setChain k { c with phase := .idle } s)
  | .checking _ _ => emit (.mark k abortCode) (setChain k { c with phase := .idle } s)
  | .idle => s
  | .ready _ _ => s

/-- 04 R67: every chain. -/
def abortShifts (s : State) : State := chainList.foldl abortChain s

/-- 03 R58: an abandoned expansion leaves its buffer EMPTY. -/
def Buffer.abandon (b : Buffer) : Buffer := if b.isFilling then .empty else b

/-- 03 R58: the expansion in progress is abandoned. -/
def abandonExpansion (s : State) : State :=
  { s with shb := { s.shb with buffer0 := s.shb.buffer0.abandon, buffer1 := s.shb.buffer1.abandon } }

/-- The ordinal of the slot the shaft moves toward: NEXT forward, CURRENT backward (03 R54). -/
def State.slotAhead (s : State) : Option Ordinal :=
  match s.stk.direction with
  | .forward => s.nextOrdinal
  | .backward => s.currentOrdinal

/-- 03 R54: the preparation target by the run state. -/
def State.newTarget (s : State) : Option Ordinal :=
  match s.run.state with
  | .stopped =>
    match s.hci.required with
    | some o => if s.tagNames o then s.slotAhead else some o
    | none => s.slotAhead
  | .weaving => s.slotAhead
  | .stopping => s.slotAhead
  | .offline => none
  | .halted => none

/-- 03 R55: the SHB evaluates the preparation target again; the same ordinal, or none again, changes nothing. -/
def evalTarget (s : State) : State :=
  if s.newTarget = s.shb.target then s
  else
    let s1 := abortShifts (abandonExpansion { s with shb := { s.shb with target := s.newTarget } })
    match s.newTarget with
    | none => s1
    | some o => takeUp o s1

/-! ### Latches and shed keeping (04) -/

/-- 04 R71, R69: one strobe; the tag takes the latch's target. -/
def fireLatch (o : Ordinal) (s : State) : State :=
  emit .strobe
    { s with hci := { s.hci with tag := { ordinal := some o, stale := false, degraded := s.anyDegraded } } }

/-- 04 R76: the required pick by the angle; absent outside STOPPED and while not HOMED. -/
def State.newRequired (s : State) : Option Ordinal :=
  if s.run.state = .stopped then
    match s.angle, s.tbm.machine with
    | some a, some m => if a < m.latchAngle then s.currentOrdinal else s.nextOrdinal
    | _, _ => none
  else none

/-- 04 R76: the HCI evaluates the required pick. -/
def evalRequired (s : State) : State := { s with hci := { s.hci with required := s.newRequired } }

/-- 04 R77: in STOPPED a latch that is due fires at once when every chain is READY with the required pick. -/
def latchIfDue (s : State) : State :=
  match s.hci.required with
  | none => s
  | some o => if s.run.state = .stopped ∧ s.tagNames o = false ∧ s.allReady o then fireLatch o s else s

/-- 04 R76, R77 and 03 R55: the required pick is evaluated, a latch that is due is tested, and the SHB evaluates its
target on the outcome (log 13). -/
def settle (s : State) : State := evalTarget (latchIfDue (evalRequired s))

/-- 04 R72, R73, R75: a latch request of the Angle Scheduler. R75 lists each chain with modules and states no order and
no chain number: the model sends the chain states in increasing chain number, with no chain number (log 22). -/
def latchRequest (dir : Direction) (s : State) : State :=
  let target := match dir with | .forward => s.nextOrdinal | .backward => s.currentOrdinal
  match target with
  | none =>
    let s1 := post (.lateStarved dir s.hci.tag s.run.state) s
    if dir = .forward ∧ s.run.state = .weaving then hand (.stop .starved) s1 else s1
  | some o =>
    if s.allReady o then evalTarget (fireLatch o s)
    else
      let report := s.usedChains.map fun k =>
        { state := (s.hci.chains[k]).phase.name, ordinal := (s.hci.chains[k]).phase.ordinal? : ChainReport }
      let s1 := post (.lateNotReady dir o s.hci.tag s.run.state report) s
      if dir = .forward ∧ s.run.state = .weaving then hand (.stop (.lateImage o)) s1 else s1

/-! ### Records that are discarded, and pattern writes -/

/-- 03 R59: a buffer whose ordinal is the discarded record's becomes EMPTY. -/
def Buffer.dropOrdinal (o : Ordinal) (b : Buffer) : Buffer := if b.ordinal? = some o then .empty else b

/-- 04 R68: a chain whose shifted tag is the discarded record's becomes IDLE, with nothing sent. -/
def Chain.dropOrdinal (o : Ordinal) (c : Chain) : Chain := if c.phase.readyWith o then { c with phase := .idle } else c

/-- 03 R59, 04 R68: a record is discarded from the pick run. -/
def dropRecord (o : Ordinal) (s : State) : State :=
  modChains (fun _ c => c.dropOrdinal o)
    { s with shb :=
        { s.shb with buffer0 := s.shb.buffer0.dropOrdinal o, buffer1 := s.shb.buffer1.dropOrdinal o } }

/-- 04 R70: the tag takes the STALE marker; a tag of NONE stays NONE. -/
def ShedTag.markStale (t : ShedTag) : ShedTag := if t.ordinal.isSome then { t with stale := true } else t

/-- 04 R70: the tag is marked STALE when it carries the ordinal. -/
def staleIfCarries (o : Ordinal) (s : State) : State :=
  if s.hci.tag.ordinal = some o then { s with hci := { s.hci with tag := s.hci.tag.markStale } } else s

/-- 02 R35: what every accepted pattern table write does. -/
def patternWrite (s : State) : State :=
  settle
    (modChains (fun _ c => { c with phase := .idle })
      { s with
        tbm := { s.tbm with epoch := s.tbm.epoch + 1 }
        shb := { s.shb with buffer0 := .empty, buffer1 := .empty }
        hci := { s.hci with tag := s.hci.tag.markStale } })

/-! ### The change of run state (09 R159) -/

/-- 07 R130: the window is closed without judgement and the feeder watch ends. -/
def closeWindow (s : State) : State := { s with wfm := { s.wfm with window := none, capture := none, watch := none } }

/-- Replace the armed part of the snapshot in force. -/
def setArmed (a : Option ArmedPart) (s : State) : State :=
  match s.asc.snapshot with
  | none => s
  | some sn => { s with asc := { snapshot := some { sn with armed := a } } }

/-- 06 R119: an ARMED record becomes FAULTED with cause INTERRUPTED. -/
def PickRecord.interrupt (r : PickRecord) : PickRecord :=
  if r.state = .armed then { r with state := .faulted, cause := some .interrupted } else r

/-- 06 R119, 07 R130: the disarm on leaving WEAVING. -/
def disarmLeaving (s : State) : State := modCurrent PickRecord.interrupt (setArmed none (closeWindow s))

/-- 08 R142, R152: a driving channel is switched off: every timer stops and the phase becomes IDLE. -/
def DriverChannel.switchedOff (c : DriverChannel) : DriverChannel :=
  if c.phase.driving then
    { c with phase := .idle, inUse := none, peakTimer := none, blankTimer := none, offTimer := none,
             deglitchTimer := none }
  else c

/-- 08 R152: every driving channel is switched off. -/
def switchOffAll (s : State) : State := modChannels (fun _ c => c.switchedOff) s

/-- What the blocks do as the run state changes: the ASC and WFM disarm on leaving WEAVING, the DRV switches off
outside WEAVING, the STK clears its reverse count on entering WEAVING (05 R102), and RUNP follows (09 R160). -/
def enterState (st : RunState) (s : State) : State :=
  let s1 := { s with run := { s.run with state := st, permit := decide (st = .weaving) } }
  let s2 := if s.run.state = .weaving ∧ st ≠ .weaving then disarmLeaving s1 else s1
  if st = .weaving then { s2 with stk := { s2.stk with reverseCount := 0 } } else switchOffAll s2

/-- 09 R174: the RUN_STATE record for a change from `before`. -/
def postRunState (before : RunState) (later : Option Cause) (s : State) : State :=
  post (.runState s.run.state before s.run.firstStop s.run.haltCause later) s

/-- 09 R159: a change of run state, taken whole, with its RUN_STATE. -/
def changeState (st : RunState) (s : State) : State :=
  postRunState s.run.state none (settle (enterState st s))

/-- 09 R168, R171: a cause taken where it changes no state. -/
def laterCause (c : Cause) (s : State) : State :=
  postRunState s.run.state (some c) { s with run := { s.run with lastLater := some c } }

/-- 09 R167, R169: a stop cause is taken. -/
def takeStop (c : StopCause) (s : State) : State :=
  if s.run.state = .weaving then
    let s1 := changeState .stopping { s with run := { s.run with firstStop := some c } }
    if s1.stk.motion = .standstill then changeState .stopped s1 else s1
  else laterCause (.stop c) s

/-- 09 R170, R171: a halting cause is taken. -/
def takeHalt (c : HaltCause) (s : State) : State :=
  match s.run.state with
  | .stopped => changeState .halted { s with run := { s.run with haltCause := some c } }
  | .weaving => changeState .halted { s with run := { s.run with haltCause := some c } }
  | .stopping => changeState .halted { s with run := { s.run with haltCause := some c } }
  | .offline => laterCause (.halt c) s
  | .halted => laterCause (.halt c) s

/-- RUN takes a cause. -/
def takeCause (s : State) : Cause → State
  | .stop c => takeStop c s
  | .halt c => takeHalt c s

/-- RUN takes the cause at a place of the list of those waiting; a place that holds none is passed over. -/
def takeAt (s : State) (place : Nat) : State :=
  match s.run.handed[place]? with
  | none => s
  | some c => takeCause { s with run := { s.run with handed := s.run.handed.eraseIdx place } } c

/-- RUN takes every cause waiting, the one handed first before the others. -/
def drain (s : State) : State := s.run.handed.foldl takeCause { s with run := { s.run with handed := [] } }

/-- 09 R173: RUN takes causes as a command ends; the others wait (log 6). -/
def takeCauses (taken : CausesTaken) (s : State) : State :=
  match taken with
  | .every => drain s
  | .only places => places.foldl takeAt s

/-- 09 R165: RUN takes the causes that `f` itself hands as part of it; those that waited before wait on. -/
def takingOwn (f : State → State) (s : State) : State :=
  let t := drain (f { s with run := { s.run with handed := [] } })
  { t with run := { t.run with handed := s.run.handed } }

/-! ### Shaft Tracker leaving HOMED, and T_rev (05 R100) -/

/-- 05 R100: T_rev becomes unknown and the revolution timer stops. -/
def dropRevTime (s : State) : State := { s with stk := { s.stk with revTime := none, revTimer := none } }

/-! ### The transmitter (10 R184) -/

/-- The transmitter begins a frame of the given kind and payload. -/
def sendFrame (kind : TxKind) (payload : List Byte) (s : State) : State :=
  let frame : TxFrame := { kind := kind, bytes := frameBytes s kind payload, beforeReset := false }
  { s with dlp := { s.dlp with transmitter := some frame } }

/-- 10 R183, R184: the next frame begins: the answer not yet sent, else the oldest event, else none. An event leaves
the queue as its frame begins, and the lost flag is copied into the frame and cleared. -/
def beginFrame (s : State) : State :=
  match s.dlp.answer with
  | some a => sendFrame .answer a.payload s
  | none =>
    match s.dlp.events with
    | [] => s
    | e :: rest =>
      sendFrame .event (e.payload s.dlp.lost) { s with dlp := { s.dlp with events := rest, lost := false } }

/-- Set how many commands the choice of an IDLE transmitter waits for. -/
def setChoiceWait (n : Nat) (s : State) : State := { s with dlp := { s.dlp with choiceWait := n } }

/-- 10 R184: as a command ends, an IDLE transmitter chooses its next frame, unless its choice is held back for a later
command's end (log 11). -/
def kickTransmitter (s : State) : State :=
  if s.dlp.transmitter.isSome then s
  else if s.dlp.choiceWait ≤ 1 then beginFrame (setChoiceWait 0 s)
  else setChoiceWait (s.dlp.choiceWait - 1) s

/-! ### The frame of every command -/

/-- Every command but the two of the reset line: with RESETn low nothing is sampled or received (11 R199). With it
high, the effect is taken and an IDLE transmitter begins a frame (10 R184, log 11). -/
def command (f : State → State) (s : State) : Host.Outcome State Fault Refusal :=
  if s.resetLine = .low then .next s else .next (kickTransmitter (f { s with lineOut := [] }))

/-- A command whose effect may hand a cause: as it ends RUN takes the causes the command names (log 6). -/
def causing (taken : CausesTaken) (f : State → State) (s : State) : Host.Outcome State Fault Refusal :=
  command (fun t => takeCauses taken (f t)) s

/-! ### Taking a frame from the receive buffer (10 R181, R182) -/

/-- Whether the head frame of the receive buffer can be taken by the row: it is the row's, and for a TABLE or COMMAND
frame the answer slot is empty (10 R181). -/
def State.canTake (s : State) (row : FrameRow) (f : RxFrame) : Bool :=
  rowOf f = row && (f.kind = .pick || s.dlp.answer.isNone)

/-- 10 R181: the head frame is taken by its row and its place becomes free; where the row has no such frame to take,
nothing happens (log 4). -/
def takeFrame (row : FrameRow) (eff : List Byte → State → State) (s : State) : State :=
  match s.dlp.held with
  | [] => s
  | f :: rest =>
    if s.canTake row f then eff f.payload { s with dlp := { s.dlp with held := rest } } else s

/-- 10 R182: the answer is placed in the answer slot. -/
def setAnswer (kind : FrameKind) (code : Byte) (r : Result) (data : List Byte) (s : State) : State :=
  { s with dlp := { s.dlp with answer := some { kind := kind, code := code, result := r, data := data } } }

/-- The answer of a COMMAND frame, its code echoed. -/
def answerCommand (code : Nat) (r : Result) (data : List Byte) (s : State) : State :=
  setAnswer .command (BitVec.ofNat 8 code) r data s

/-- 10 R195: the table id and record an answer of TABLE names. -/
def tableData (id index : Nat) : List Byte := enc8 id ++ enc16 index

end Sys2Proof.Machine
end

