-- ==== Sys2Proof/Machine/Chains.lean ====
section
/-! DEFINITION. The hook chains: EXPANSION_COMPLETE, SEGMENTS_SENT, MODULE_ANSWER, END_OF_CHECKING and
CLEAR_MODULE_FLAGS (03 R58, 04 R65, R66, R80 to R83). -/

namespace Sys2Proof.Machine

/-! ### The expansion (03 R58) -/

/-- The image a FILLING buffer's expansion gives, with its ordinal; none of any other buffer. -/
def Buffer.completed (t : Tbm) : Buffer → Option (Ordinal × Buffer)
  | .filling o e row effects => some (o, .held o e (expandImage t row effects))
  | _ => none

/-- 03 R58: the expansion in progress completes; its buffer becomes HELD and is handed on as the image of the
target. -/
def completeExpansion (s : State) : State :=
  match s.shb.buffer0.completed s.tbm with
  | some x => handOver x.1 (setBuffer .b0 x.2 s)
  | none =>
    match s.shb.buffer1.completed s.tbm with
    | some x => handOver x.1 (setBuffer .b1 x.2 s)
    | none => s

/-- EXPANSION_COMPLETE (03 R58). -/
def execExpansionComplete (s : State) : Host.Outcome State Fault Refusal := command completeExpansion s

/-! ### The shift (04 R65) -/

/-- The image a HELD buffer holds for an ordinal. -/
def Buffer.imageOf (o : Ordinal) : Buffer → Option (List Bool)
  | .held b _ image => if b = o then some image else none
  | _ => none

/-- The image the chains shift from (04 R65). -/
def State.heldImage (s : State) (o : Ordinal) : List Bool :=
  ((s.shb.buffer0.imageOf o).or (s.shb.buffer1.imageOf o)).getD []

/-- 04 R63: the segments of chain k in module order. -/
def State.chainSegments (s : State) (k : ChainIdx) (o : Ordinal) : List LineItem :=
  match s.tbm.machine with
  | none => []
  | some m =>
    (List.range (m.modulesOf k)).map fun j => .segment k (segmentBytes (moduleLifts m (s.heldImage o) k j))

/-- 04 R65: the last segment of a shift has been sent; the check call follows and the chain is CHECKING. -/
def sendCheckCall (k : ChainIdx) (s : State) : State :=
  let c := s.hci.chains[k]
  match c.phase with
  | .shifting o =>
    emit (.mark k checkCallCode)
      ((s.chainSegments k o).foldl (fun t x => emit x t) (setChain k { c with phase := .checking o [] } s))
  | .idle => s
  | .checking _ _ => s
  | .ready _ _ => s

/-- SEGMENTS_SENT (04 R65). -/
def execSegmentsSent (chain : ChainIdx) (s : State) : Host.Outcome State Fault Refusal :=
  command (sendCheckCall chain) s

/-- 04 R66: a character in an answer position; activity outside CHECKING is ignored. -/
def collectAnswer (k : ChainIdx) (x : AnswerChar) (s : State) : State :=
  let c := s.hci.chains[k]
  match c.phase with
  | .checking o answers => setChain k { c with phase := .checking o (answers ++ [x]) } s
  | .idle => s
  | .shifting _ => s
  | .ready _ _ => s

/-- MODULE_ANSWER (04 R66). -/
def execModuleAnswer (chain : ChainIdx) (position : Nat) (byte : Byte) (stopBit : Level) (s : State) :
    Host.Outcome State Fault Refusal :=
  command (collectAnswer chain { position := position, byte := byte, stopBit := stopBit }) s

/-! ### The end of checking (04 R66, R80 to R83) -/

/-- A judgement of one module: its answer and flags. -/
structure Judgement where
  answer : LastAnswer
  flags : ModuleFlags
  deriving DecidableEq, Repr

/-- 04 R66: no flags with SILENT. -/
def Judgement.silent : Judgement := { answer := .silent, flags := ModuleFlags.clear }

/-- The flags of an answer byte (10 R198). -/
def answerFlags (b : Byte) : ModuleFlags := ⟨b.getLsbD 2, b.getLsbD 1, b.getLsbD 0⟩

/-- 10 R198: the judgement of one character; bits 7 and 6 equal, or a low stop bit, is not well formed. -/
def judgeChar (x : AnswerChar) : Judgement :=
  if x.stopBit = .low then .silent
  else
    match x.byte.getLsbD 7, x.byte.getLsbD 6 with
    | true, false => { answer := .ack, flags := answerFlags x.byte }
    | false, true => { answer := .nak, flags := answerFlags x.byte }
    | true, true => .silent
    | false, false => .silent

/-- 04 R66, 10 R198: the judgement of module m: one well-formed character in its position. -/
def judgeModule (answers : List AnswerChar) (m : Nat) : Judgement :=
  match answers.filter fun x => x.position = m with
  | [x] => judgeChar x
  | _ => .silent

/-- 04 R66: characters in positions Mk and above. -/
def lengthError (answers : List AnswerChar) (mk : Nat) : Bool := answers.any fun x => mk ≤ x.position

/-- NAK and SILENT are failures (04 R81). -/
def Judgement.failed (j : Judgement) : Bool := j.answer = .nak || j.answer = .silent

/-- 04 R80: the entry after a judgement. -/
def ModuleEntry.update (e : ModuleEntry) (j : Judgement) : ModuleEntry :=
  { lastAnswer := j.answer
    lastFlags := j.flags
    sticky := e.sticky.union j.flags
    consecutive := if j.failed then satInc 15 e.consecutive else if j.answer = .ack then 0 else e.consecutive
    total := if j.failed then satInc 255 e.total else e.total }

/-- 04 R81: CHAIN_ERROR: the lowest failing module, or Mk when the LENGTH error is the only failure, and the number
failing. -/
def postChainError (k : ChainIdx) (o : Ordinal) (judged : List Judgement) (lengthErr : Bool) (s : State) : State :=
  let failing := (judged.zipIdx.filter fun x => x.1.failed).map Prod.snd
  match failing, lengthErr with
  | [], false => s
  | [], true => post (.chainError k o judged.length 1) s
  | f :: _, _ => post (.chainError k o f (failing.length + lengthErr.toNat)) s

/-- 04 R82: MODULE_ALARM for a module whose sticky flags gain a flag. The modules are taken in increasing index
(log 21). -/
def postAlarm (k : ChainIdx) (s : State) (x : (ModuleEntry × Judgement) × Nat) : State :=
  let raised := ModuleFlags.newlyRaised x.1.1.sticky x.1.2.flags
  if raised.any then post (.moduleAlarm k x.2 raised x.1.2.answer) s else s

/-- 04 R83: the lowest module with a consecutive-error count of K or more. -/
def faultyModule (kLimit : Nat) (entries : List ModuleEntry) : Option Nat :=
  (entries.zipIdx.find? fun x => kLimit ≤ x.1.consecutive).map Prod.snd

/-- 04 R83: the chain fault mode is applied. -/
def applyChainFault (k : ChainIdx) (s : State) : State :=
  match s.tbm.machine with
  | none => s
  | some m =>
    match m.chainMode with
    | .report => s
    | .stopAfter n =>
      match faultyModule n (s.hci.chains[k]).entries with
      | none => s
      | some j => hand (.stop (.chainFault k j)) s

/-- 04 R66: the chain after the close of its answer window. -/
def Chain.judged (c : Chain) (o : Ordinal) (judged : List Judgement) (lengthErr : Bool) : Chain :=
  { phase := .ready o (lengthErr || judged.any Judgement.failed)
    lengthFlag := lengthErr
    entries := (c.entries.zip judged).map fun x => x.1.update x.2 }

/-- 04 R66: the close of the answer window: judgement, table, events, chain fault mode, and the latch that may now be
due (R77). R84 puts CHAIN_ERROR before every MODULE_ALARM; that the alarms of several modules follow in increasing
module index is the model's choice (log 21). -/
def closeChecking (k : ChainIdx) (s : State) : State :=
  let c := s.hci.chains[k]
  match c.phase with
  | .checking o answers =>
    let judged := (List.range c.entries.length).map (judgeModule answers)
    let lengthErr := lengthError answers c.entries.length
    let s1 := postChainError k o judged lengthErr (setChain k (c.judged o judged lengthErr) s)
    let s2 := (c.entries.zip judged).zipIdx.foldl (postAlarm k) s1
    evalTarget (latchIfDue (applyChainFault k s2))
  | .idle => s
  | .shifting _ => s
  | .ready _ _ => s

/-- END_OF_CHECKING (04 R66). -/
def execEndOfChecking (chain : ChainIdx) (s : State) (taken : CausesTaken := .every) :
    Host.Outcome State Fault Refusal :=
  causing taken (closeChecking chain) s

/-! ### CLEAR_MODULE_FLAGS (04 R82) -/

/-- 04 R82: the sticky flags of every entry are cleared, and nothing else of it. -/
def clearSticky (s : State) : State :=
  modChains (fun _ c => { c with entries := c.entries.map fun e => { e with sticky := ModuleFlags.clear } }) s

/-- CLEAR_MODULE_FLAGS (04 R82), answered OK in every run state. -/
def execClearModuleFlags (s : State) : Host.Outcome State Fault Refusal :=
  command (takeFrame .clearModuleFlags fun _ t => answerCommand 11 .ok [] (clearSticky t)) s

end Sys2Proof.Machine
end

