-- ==== Sys2Proof/Machine/Monitor.lean ====
section
/-! DEFINITION. The operations of the Weft Monitor: weft faults, the arrival window and the feeder watch (07). -/

namespace Sys2Proof.Machine

/-- 07 R129, R134, R136, 06 R112: the record in CURRENT becomes FAULTED; the fault is counted, WEFT_FAULT is posted
and its stop cause is handed. The angle carried is that of the position count (log 8). -/
def weftFault (detail : WeftDetail) (cause : Ordinal → StopCause) (s : State) : State :=
  match s.psq.current with
  | none => s
  | some r =>
    let s1 := modCurrent (fun x => { x with state := .faulted, cause := some detail.cause }) s
    let s2 := { s1 with wfm := { s1.wfm with weftFaults := satInc max32 s1.wfm.weftFaults } }
    hand (.stop (cause r.ordinal)) (post (.weftFault r.ordinal r.row r.weft s.countAngle r.arrival detail) s2)

/-- 07 R127: the window opening is handed. -/
def openWindow (s : State) : State :=
  match s.psq.current with
  | none => s
  | some r => { s with wfm := { s.wfm with window := some r.ordinal, capture := none } }

/-- 07 R129: the record in CURRENT becomes INSERTED with the T_rev as it stands. -/
def insertCurrent (s : State) : State :=
  modCurrent (fun r => { r with state := .inserted, revTime := s.stk.revTime }) s

/-- 07 R129, R135: the window closing is handed. -/
def judgeWindow (s : State) : State :=
  if s.wfm.window.isSome ∧ s.currentArmed then
    match s.wfm.capture with
    | some _ => closeWindow (insertCurrent s)
    | none => closeWindow (weftFault .missing .weftMissing s)
  else closeWindow s

/-- 07 R134, R135: a break of the watched line; the watch ends, and an ARMED pick is faulted. -/
def watchedBreak (line : FeederIdx) (s : State) : State :=
  let s1 := { s with wfm := { s.wfm with watch := none } }
  if s.currentArmed then weftFault (.feeder line) .feederBreak s1 else s1

/-- 07 R132, R133: the first SELECTOR ON fires; the line may already stand at BREAK. -/
def beginWatch (line : Option FeederIdx) (s : State) : State :=
  match line with
  | none => s
  | some f =>
    let s1 := { s with wfm := { s.wfm with watch := some f } }
    if s.wfm.feeders[f] = some .high then watchedBreak f s1 else s1

/-- 07 R126, R137: FEEDER_ALARM. -/
def feederAlarm (line : FeederIdx) (s : State) : State :=
  post (.feederAlarm line s.angle s.run.state (s.psq.current.map fun r => (r.ordinal, r.weft))) s

/-- 07 R126: a feeder line goes to BREAK, or is acquired there. -/
def feederBroken (line : FeederIdx) (s : State) : State :=
  if s.wfm.watch = some line then watchedBreak line s else feederAlarm line s

/-- Set the accepted level of a feeder line. -/
def setFeeder (line : FeederIdx) (l : Level) (s : State) : State :=
  { s with wfm := { s.wfm with feeders := s.wfm.feeders.set line.val (some l) } }

/-- 07 R128: a spurious rise of ARV. -/
def countSpurious (s : State) : State :=
  { s with wfm := { s.wfm with spurious := satInc max32 s.wfm.spurious } }

/-- 07 R128: an arrival is captured at the angle. -/
def captureArrival (a : Nat) (s : State) : State :=
  modCurrent (fun r => { r with arrival := some a }) { s with wfm := { s.wfm with capture := some a } }

/-- The blocked channels the armed pick relies on: reached by its list, or its selector channel (07 R136). -/
def ArmedPart.reliesOn (a : ArmedPart) (dc : DriverIdx) : Bool :=
  a.weft.selector = dc || a.actions.any fun x => x.channel = dc

/-- 07 R136: the report of a PER_PICK block, the channels named in channel order (log 23). -/
def blockReport (blocked : List DriverIdx) (s : State) : State :=
  match s.armedPart with
  | none => s
  | some a =>
    let relied := blocked.filter a.reliesOn
    if s.currentArmed ∧ relied ≠ [] then weftFault (.driver relied) .weftDriver s else s

end Sys2Proof.Machine
end

