-- ==== Sys2Proof/Machine/Drive.lean ====
section
/-! DEFINITION. The operations of the Driver Channels: ON and OFF, faults, blocks and their release (08). -/

namespace Sys2Proof.Machine

/-- 08 R140: the settings a switch-on fixes: the snapshot's copy of the channel, else the record in force. None acts
as mode OFF. -/
def State.switchOnSettings (s : State) (dc : DriverIdx) : Option InUse :=
  let copy : Option SettingsCopy :=
    match s.armedPart with
    | none => none
    | some a => a.copies.find? fun c => c.channel = dc
  match copy with
  | some c => c.settings.map fun d => { settings := d, fromSnapshot := true }
  | none => s.tbm.drivers[dc].map fun d => { settings := d, fromSnapshot := false }

/-- A timer started with a time; a time of 0 runs out as it starts (08 R145, log 18). -/
def startTimer (t : Nat) : Option Nat := if t = 0 then none else some t

/-- 08 R141, R145, R146: a switch-on into the phase. The peak time limit is not started when the open-load mode is
DISABLED. -/
def DriverChannel.switchOn (c : DriverChannel) (u : InUse) (phase : DrivePhase) : DriverChannel :=
  { c with
    phase := phase
    inUse := some u
    flagOvercurrent := false
    flagOpenLoad := false
    peakTimer := if u.settings.openLoadMode = .disabled then none else some u.settings.peakTimeLimit
    blankTimer := startTimer u.settings.blanking
    offTimer := none
    deglitchTimer := none }

/-- 08 R141, R152: the channel takes an ON. -/
def driverOn (dc : DriverIdx) (s : State) : State :=
  let c := s.drv.channels[dc]
  if s.run.state = .weaving ∧ c.phase = .idle then
    match s.switchOnSettings dc with
    | none => s
    | some u =>
      match u.settings.mode with
      | .off => s
      | .peakHold => setChannel dc (c.switchOn u .peak) s
      | .direct => setChannel dc (c.switchOn u .directOn) s
  else s

/-- 08 R142: the channel takes an OFF. -/
def driverOff (dc : DriverIdx) (s : State) : State := setChannel dc (s.drv.channels[dc]).switchedOff s

/-- 08 R143: the output goes off and the chop off-time starts. -/
def DriverChannel.enterHoldOff (c : DriverChannel) (d : DriverSettings) : DriverChannel :=
  { c with phase := .holdOff, offTimer := some d.chopOffTime }

/-- 08 R149: the result of a block on one affected channel. A channel under test is in no table of R149: tests run
outside WEAVING and faults inside it (log 20). -/
def DriverChannel.blockedBy (c : DriverChannel) (kind : BlockKind) : DriverChannel :=
  match c.phase with
  | .blocked => if c.block = some .latch then c else { c with block := some kind }
  | .testing => c
  | _ => { c.switchedOff with phase := .blocked, block := some kind }

/-- 08 R149, R150, R151: the release of a block. -/
def DriverChannel.released (c : DriverChannel) : DriverChannel :=
  if c.phase = .blocked then { c with phase := .idle, block := none } else c

/-- 08 R150: the release of a PER_PICK block. -/
def DriverChannel.releasedPerPick (c : DriverChannel) : DriverChannel :=
  if c.block = some .perPick then c.released else c

/-- 08 R150: at a forward boundary crossing. -/
def releasePerPick (s : State) : State := modChannels (fun _ c => c.releasedPerPick) s

/-- 08 R151: at CLEAR. -/
def releaseAll (s : State) : State := modChannels (fun _ c => c.released) s

/-- 08 R149: the channels a fault affects, in channel order (log 23). -/
def State.affected (s : State) (dc : DriverIdx) (d : DriverSettings) : List DriverIdx :=
  driverList.filter fun i =>
    i = dc ||
      (d.scope = .group &&
        match s.tbm.drivers[i] with
        | none => false
        | some x => x.group = d.group)

/-- The mode of a fault kind in the settings in use (08 R148). -/
def DriverSettings.modeOf (d : DriverSettings) : DriverFaultKind → FaultMode
  | .overcurrent => d.overcurrentMode
  | .openLoad => d.openLoadMode

/-- Whether the switch-on fault flags hold the kind. -/
def DriverChannel.hasFlag (c : DriverChannel) : DriverFaultKind → Bool
  | .overcurrent => c.flagOvercurrent
  | .openLoad => c.flagOpenLoad

/-- 08 R148: a fault is recorded. -/
def DriverChannel.recordFault (c : DriverChannel) (kind : DriverFaultKind) : DriverChannel :=
  match kind with
  | .overcurrent => { c with flagOvercurrent := true, faultCount := satInc 255 c.faultCount }
  | .openLoad => { c with flagOpenLoad := true, faultCount := satInc 255 c.faultCount }

/-- 08 R148, R149: record, block, and post DRIVER_FAULT. `blocked` is none under REPORT. -/
def postDriverFault (dc : DriverIdx) (kind : DriverFaultKind) (d : DriverSettings) (blocked : List DriverIdx)
    (phase : DrivePhase) (s : State) : State :=
  post (.driverFault dc kind (d.modeOf kind) d.scope blocked phase s.run.state s.currentOrdinal s.angle) s

/-- 08 R148, R149: the fault under LATCH or PER_PICK. -/
def blockingFault (dc : DriverIdx) (kind : DriverFaultKind) (d : DriverSettings) (block : BlockKind) (s : State) :
    State :=
  let c := s.drv.channels[dc]
  let blocked := s.affected dc d
  let s1 := setChannel dc (c.recordFault kind) s
  let s2 := modChannels (fun i x => if blocked.contains i then x.blockedBy block else x) s1
  postDriverFault dc kind d blocked c.phase s2

/-- 08 R148: a driving channel finds a fault. -/
def driverFault (dc : DriverIdx) (kind : DriverFaultKind) (s : State) : State :=
  let c := s.drv.channels[dc]
  match c.inUse with
  | none => s
  | some u =>
    match u.settings.modeOf kind with
    | .latch => hand (.halt (.driverLatch dc)) (blockingFault dc kind u.settings .latch s)
    | .perPick => blockReport (s.affected dc u.settings) (blockingFault dc kind u.settings .perPick s)
    | .report =>
      if c.hasFlag kind then s
      else postDriverFault dc kind u.settings [] c.phase (setChannel dc (c.recordFault kind) s)
    | .disabled => s

end Sys2Proof.Machine
end

