-- ==== Sys2Proof/Machine/Drivers.lean ====
section
/-! DEFINITION. The events of the Driver Channels: current comparisons, timers, faults and the off-state test
(08 R143 to R147, R154, R155). -/

namespace Sys2Proof.Machine

/-- A driving channel is changed by an event together with its settings in use; a channel that is not driving has
none, and the event cannot arise (log 4). -/
def onDriving (dc : DriverIdx) (f : DriverChannel → DriverSettings → DriverChannel) (s : State) : State :=
  let c := s.drv.channels[dc]
  match c.inUse with
  | none => s
  | some u => if c.phase.driving then setChannel dc (f c u.settings) s else s

/-! ### Current shaping (08 R143, R144, R145) -/

/-- 08 R143: the peak level is reached. The channel carries the peak current, so outside blanking the hold comparison
takes it on to HOLD_OFF at once (log 17). -/
def DriverChannel.peakReached (c : DriverChannel) (d : DriverSettings) : DriverChannel :=
  if c.phase = .peak then
    let c1 := { c with phase := .holdOn, peakTimer := none }
    if c.blankTimer.isNone ∧ d.holdLevel ≤ d.peakLevel then c1.enterHoldOff d else c1
  else c

/-- PEAK_LEVEL_REACHED (08 R143). -/
def execPeakLevelReached (dc : DriverIdx) (s : State) : Host.Outcome State Fault Refusal :=
  command (onDriving dc DriverChannel.peakReached) s

/-- 08 R143, R145: the hold level is reached outside blanking. -/
def DriverChannel.holdReached (c : DriverChannel) (d : DriverSettings) : DriverChannel :=
  if c.phase = .holdOn ∧ c.blankTimer.isNone then c.enterHoldOff d else c

/-- HOLD_LEVEL_REACHED (08 R143). -/
def execHoldLevelReached (dc : DriverIdx) (s : State) : Host.Outcome State Fault Refusal :=
  command (onDriving dc DriverChannel.holdReached) s

/-- 08 R144: a DIRECT channel reaches its hold level, which stops the peak time limit. -/
def DriverChannel.loadReached (c : DriverChannel) (_d : DriverSettings) : DriverChannel :=
  if c.phase = .directOn then { c with peakTimer := none } else c

/-- DIRECT_LOAD_REACHED (08 R144). -/
def execDirectLoadReached (dc : DriverIdx) (s : State) : Host.Outcome State Fault Refusal :=
  command (onDriving dc DriverChannel.loadReached) s

/-- 08 R143, R145: the hold comparison of HOLD_ON against the current as it stands. -/
def DriverChannel.compareHold (c : DriverChannel) (d : DriverSettings) (current : Nat) : DriverChannel :=
  if c.phase = .holdOn ∧ c.blankTimer.isNone ∧ reaches current d.holdLevel then c.enterHoldOff d else c

/-- 08 R143, R145, R147: the off-time ends: HOLD_ON again. A blanking interval that begins stops the deglitch time; a
blanking of 0 makes the hold comparison from the turn-on itself. -/
def DriverChannel.offTimeEnds (current : Nat) (c : DriverChannel) (d : DriverSettings) : DriverChannel :=
  if c.phase = .holdOff ∧ c.offTimer.isSome then
    let blank := startTimer d.blanking
    let c1 :=
      { c with phase := .holdOn, offTimer := none, blankTimer := blank,
               deglitchTimer := if blank.isSome then none else c.deglitchTimer }
    c1.compareHold d current
  else c

/-- CHOP_OFF_TIME_END (08 R143). -/
def execChopOffTimeEnd (dc : DriverIdx) (current : Nat) (s : State) : Host.Outcome State Fault Refusal :=
  command (onDriving dc (DriverChannel.offTimeEnds current)) s

/-- 08 R147: the overcurrent comparison is made: outside blanking and unless its mode is DISABLED. -/
def DriverChannel.startDeglitch (c : DriverChannel) (d : DriverSettings) : DriverChannel :=
  if c.blankTimer.isNone ∧ c.deglitchTimer.isNone ∧ d.overcurrentMode ≠ .disabled then
    { c with deglitchTimer := some d.deglitch }
  else c

/-- 08 R145, R147: the blanking interval ends: both comparisons are made against the current as it stands. -/
def DriverChannel.blankingEnds (current : Nat) (c : DriverChannel) (d : DriverSettings) : DriverChannel :=
  if c.blankTimer.isSome then
    let c1 := ({ c with blankTimer := none } : DriverChannel).compareHold d current
    if reaches current d.overcurrentLevel then c1.startDeglitch d else c1
  else c

/-- BLANKING_END (08 R145). -/
def execBlankingEnd (dc : DriverIdx) (current : Nat) (s : State) : Host.Outcome State Fault Refusal :=
  command (onDriving dc (DriverChannel.blankingEnds current)) s

/-! ### Supervision (08 R146, R147) -/

/-- 08 R146: the peak time limit runs out before the level is reached: OPEN_LOAD. -/
def peakLimitEnds (dc : DriverIdx) (s : State) : State :=
  let c := s.drv.channels[dc]
  if c.phase.driving ∧ c.peakTimer.isSome then
    driverFault dc .openLoad (setChannel dc { c with peakTimer := none } s)
  else s

/-- PEAK_TIME_LIMIT_END (08 R146). -/
def execPeakTimeLimitEnd (dc : DriverIdx) (s : State) (taken : CausesTaken := .every) :
    Host.Outcome State Fault Refusal :=
  causing taken (peakLimitEnds dc) s

/-- OVERCURRENT_RISE (08 R147): the deglitch time starts. -/
def execOvercurrentRise (dc : DriverIdx) (s : State) : Host.Outcome State Fault Refusal :=
  command (onDriving dc DriverChannel.startDeglitch) s

/-- OVERCURRENT_FALL (08 R147): the deglitch time stops. -/
def execOvercurrentFall (dc : DriverIdx) (s : State) : Host.Outcome State Fault Refusal :=
  command (onDriving dc fun c _ => { c with deglitchTimer := none }) s

/-- 08 R147: the deglitch time runs out with the current at or above the level throughout: OVERCURRENT. -/
def deglitchEnds (dc : DriverIdx) (s : State) : State :=
  let c := s.drv.channels[dc]
  if c.phase.driving ∧ c.deglitchTimer.isSome then
    driverFault dc .overcurrent (setChannel dc { c with deglitchTimer := none } s)
  else s

/-- DEGLITCH_END (08 R147). -/
def execDeglitchEnd (dc : DriverIdx) (s : State) (taken : CausesTaken := .every) :
    Host.Outcome State Fault Refusal :=
  causing taken (deglitchEnds dc) s

/-! ### The off-state test (08 R154, R155) -/

/-- 08 R154: an off-state test is allowed in OFFLINE, STOPPED and HALTED. -/
def RunState.allowsTest : RunState → Bool
  | .offline => true
  | .stopped => true
  | .halted => true
  | .weaving => false
  | .stopping => false

/-- 08 R154: the short level of a test: the overcurrent level of the record in force, code 15 with none. -/
def State.shortLevel (s : State) (dc : DriverIdx) : Nat :=
  match s.tbm.drivers[dc] with
  | none => 15
  | some d => d.overcurrentLevel

/-- 08 R154: the test starts. -/
def startTest (dc : DriverIdx) (s : State) : State :=
  let s1 := setChannel dc { s.drv.channels[dc] with phase := .testing } s
  { s1 with drv := { s1.drv with test := some { channel := dc, shortLevel := s.shortLevel dc } } }

/-- 08 R154: the checks of OFFSTATE_TEST(dc) in order. -/
def takeOffstateTest (p : List Byte) (s : State) : State :=
  if !s.run.state.allowsTest then answerCommand 10 .state [] s
  else if 19 < byteAt p 1 then answerCommand 10 .range [] s
  else if s.drv.test.isSome then answerCommand 10 .busy [] s
  else
    let dc : DriverIdx := Fin.ofNat 20 (byteAt p 1)
    if (s.drv.channels[dc]).phase ≠ .idle then answerCommand 10 .busy [] s
    else answerCommand 10 .ok [] (startTest dc s)

/-- OFFSTATE_TEST (08 R154). -/
def execOffstateTest (s : State) : Host.Outcome State Fault Refusal :=
  command (takeFrame .offstateTest takeOffstateTest) s

/-- 08 R155: the judgement of the sense input, in mA. -/
def judgeTest (shortLevel current : Nat) : TestResult :=
  if reaches current shortLevel then .shorted else if 20 ≤ current then .loadPresent else .open

/-- 08 R155: the running test ends. -/
def endTest (current : Nat) (s : State) : State :=
  match s.drv.test with
  | none => s
  | some t =>
    let r := judgeTest t.shortLevel current
    let s1 := setChannel t.channel { s.drv.channels[t.channel] with phase := .idle, lastTest := r } s
    post (.testDone t.channel r) { s1 with drv := { s1.drv with test := none } }

/-- TEST_END (08 R155). -/
def execTestEnd (current : Nat) (s : State) : Host.Outcome State Fault Refusal := command (endTest current) s

end Sys2Proof.Machine
end

