-- ==== Sys2Proof/Machine/Link.lean ====
section
/-! DEFINITION. The Design Link Port's receiver and transmitter: FRAME_START, DLRX_BYTE, FRAME_RECEIVED,
BYTE_GAP_TIMEOUT, TRANSMIT_FRAME_END, and UNKNOWN_COMMAND (10 R177 to R188). -/

namespace Sys2Proof.Machine

/-- Replace the receiver. -/
def setReceiver (r : Receiver) (s : State) : State := { s with dlp := { s.dlp with receiver := r } }

/-- The receiver has a place of the receive buffer filling. -/
def Receiver.filling : Receiver → Bool
  | .receiving _ => true
  | _ => false

/-- The places of the receive buffer that are not free (10 R180, log 9). -/
def Dlp.usedPlaces (d : Dlp) : Nat := d.held.length + d.receiver.filling.toNat

/-- 10 R179: a link error is counted and LINK_ERROR posted with the count after it. -/
def linkError (kind : LinkErrorKind) (frameKind : Option Byte) (s : State) : State :=
  let s1 := { s with dlp := { s.dlp with linkErrors := satInc max16 s.dlp.linkErrors } }
  post (.linkError kind frameKind s1.dlp.linkErrors) s1

/-- 10 R179: the frame being received is discarded, its place becomes free and the receiver returns to HUNT. -/
def discardFrame (kind : LinkErrorKind) (bytes : List Byte) (s : State) : State :=
  linkError kind bytes.head? (setReceiver .hunt s)

/-- The length field among the bytes after the start byte (10 R191). -/
def headerLength (bytes : List Byte) : Nat := wordAt bytes 1

/-- The kind byte of a frame from the host (10 R191). -/
def frameKindOf (b : Byte) : Option FrameKind :=
  match b.toNat with
  | 1 => some .pick
  | 2 => some .table
  | 3 => some .command
  | _ => none

/-- 10 R178: the CRC-16 and the kind byte of a whole frame are judged; `bytes` are kind, length, payload and check. -/
def judgeFrame (bytes : List Byte) (s : State) : State :=
  let checked := bytes.take (bytes.length - 2)
  if encWord (crc16 checked) ≠ bytes.drop (bytes.length - 2) then discardFrame .check bytes s
  else
    match frameKindOf (bytes.getD 0 0) with
    | none => discardFrame .framing bytes s
    | some k =>
      let s1 := setReceiver .hunt s
      { s1 with dlp := { s1.dlp with held := s1.dlp.held ++ [{ kind := k, payload := checked.drop 3 }] } }

/-- 10 R177, RECEIVING: a byte of the frame; `bytes` holds it as the last. A first byte with a low stop bit counts as
the kind byte that LINK_ERROR carries (10 R179, log 8). -/
def receiveInFrame (bytes : List Byte) (stopBit : Level) (s : State) : State :=
  if stopBit = .low then discardFrame .framing bytes s
  else if 3 ≤ bytes.length ∧ Config.maxPayload < headerLength bytes then discardFrame .framing bytes s
  else if 3 ≤ bytes.length ∧ bytes.length = headerLength bytes + 5 then judgeFrame bytes s
  else setReceiver (.receiving bytes) s

/-- 10 R180, HUNT: a start byte begins a frame, or is an overrun when neither place is free. -/
def huntByte (b : Byte) (stopBit : Level) (s : State) : State :=
  if stopBit = .high ∧ b = startByte then
    if s.dlp.held.length < Config.rxPlaces then setReceiver (.receiving []) s
    else linkError .overrun none (setReceiver (.passingOver 0 0) s)
  else s

/-- 10 R180: the length field as the bytes of a passed-over header go by: byte 1 is its high byte, byte 2 its low. -/
def passedLength (seen length : Nat) (b : Byte) : Nat :=
  if seen = 1 then 256 * b.toNat else if seen = 2 then length + b.toNat else length

/-- 10 R180, PASSING_OVER: header, payload and check bytes go by; an error ends it with no report. -/
def passByte (seen length : Nat) (b : Byte) (stopBit : Level) (s : State) : State :=
  let n := passedLength seen length b
  if stopBit = .low then setReceiver .hunt s
  else if seen = 2 ∧ Config.maxPayload < n then setReceiver .hunt s
  else if 2 ≤ seen ∧ seen + 1 = n + 5 then setReceiver .hunt s
  else setReceiver (.passingOver (seen + 1) n) s

/-- 10 R177, R180, R188: what the receiver does with a byte on DLRX, whichever row names its arrival. -/
def receiveByte (b : Byte) (stopBit : Level) (s : State) : State :=
  match s.dlp.receiver with
  | .closed => s
  | .hunt => huntByte b stopBit s
  | .receiving bytes => receiveInFrame (bytes ++ [b]) stopBit s
  | .passingOver seen length => passByte seen length b stopBit s

/-- FRAME_START (10 R180): a start byte without a framing error. -/
def execFrameStart (s : State) : Host.Outcome State Fault Refusal := command (receiveByte startByte .high) s

/-- FRAME_RECEIVED (10 R178): the last check byte of a frame. -/
def execFrameReceived (byte : Byte) (stopBit : Level) (s : State) : Host.Outcome State Fault Refusal :=
  command (receiveByte byte stopBit) s

/-- DLRX_BYTE (10 R177): any other byte. -/
def execDlrxByte (byte : Byte) (stopBit : Level) (s : State) : Host.Outcome State Fault Refusal :=
  command (fun t => receiveByte byte stopBit t) s

/-- 10 R177, R180: a gap of more than 1 ms. Outside a frame it means nothing. -/
def byteGap (s : State) : State :=
  match s.dlp.receiver with
  | .closed => s
  | .hunt => s
  | .receiving bytes => discardFrame .framing bytes s
  | .passingOver _ _ => setReceiver .hunt s

/-- BYTE_GAP_TIMEOUT (10 R177). -/
def execByteGapTimeout (s : State) : Host.Outcome State Fault Refusal := command byteGap s

/-- 10 R182, R188: the end of the frame `f`: an ANSWER frame empties the slot, and the first EVENT frame begun after a
reset or SOFT_RESET opens the receiver. -/
def endFrame (f : TxFrame) (s : State) : State :=
  let s1 := { s with dlp := { s.dlp with transmitter := none } }
  if f.beforeReset then s1
  else
    match f.kind with
    | .answer => { s1 with dlp := { s1.dlp with answer := none } }
    | .event => if s1.dlp.receiver = .closed then setReceiver .hunt s1 else s1

/-- 10 R184: the transmitter finishes a frame; it chooses the next as this command ends, or `wait` commands later
(log 11). -/
def transmitEnd (wait : Nat) (s : State) : State :=
  match s.dlp.transmitter with
  | none => s
  | some f => setChoiceWait (wait + 1) (endFrame f s)

/-- TRANSMIT_FRAME_END (10 R184). -/
def execTransmitFrameEnd (s : State) (wait : Nat := 0) : Host.Outcome State Fault Refusal :=
  command (transmitEnd wait) s

/-- 10 R185: a COMMAND frame that reaches no block is answered FORMAT or UNKNOWN with its code echoed, 0 when it has
none. -/
def takeUnknownCommand (p : List Byte) (s : State) : State :=
  setAnswer .command (p.getD 0 0) (unknownResult p) [] s

/-- UNKNOWN_COMMAND (10 R185). -/
def execUnknownCommand (s : State) : Host.Outcome State Fault Refusal :=
  command (takeFrame .unknownCommand takeUnknownCommand) s

end Sys2Proof.Machine
end

