-- ==== Sys2Proof/Machine/Queries.lean ====
section
/-! DEFINITION. The QUERY commands (10 R186): each is taken in every run state, answered with its content as it
stands when it is taken, and changes nothing else. -/

namespace Sys2Proof.Machine

/-- 10 R195: the answer of a QUERY: the selector, then the content. -/
def answerQuery (selector : Nat) (content : List Byte) (s : State) : State :=
  answerCommand 9 .ok (enc8 selector ++ content) s

/-- QUERY_RUN (09 R174, 06 R121, 07 R137). -/
def execQueryRun (s : State) : Host.Outcome State Fault Refusal :=
  command (takeFrame .queryRun fun _ t => answerQuery 1 (runContent t) t) s

/-- QUERY_SLOTS (01 R24, 03 R61, 04 R84). -/
def execQuerySlots (s : State) : Host.Outcome State Fault Refusal :=
  command (takeFrame .querySlots fun _ t => answerQuery 2 (slotsContent t) t) s

/-- QUERY_TRACKER (05 R103). -/
def execQueryTracker (s : State) : Host.Outcome State Fault Refusal :=
  command (takeFrame .queryTracker fun _ t => answerQuery 3 (trackerContent t) t) s

/-- 04 R84: a chain number above 3 is answered RANGE. -/
def takeQueryModules (p : List Byte) (s : State) : State :=
  if byteAt p 2 ≤ 3 then answerQuery 4 (modulesContent s (Fin.ofNat 4 (byteAt p 2))) s
  else answerCommand 9 .range [] s

/-- QUERY_MODULES (04 R84). -/
def execQueryModules (s : State) : Host.Outcome State Fault Refusal :=
  command (takeFrame .queryModules takeQueryModules) s

/-- QUERY_DRIVERS (08 R156). -/
def execQueryDrivers (s : State) : Host.Outcome State Fault Refusal :=
  command (takeFrame .queryDrivers fun _ t => answerQuery 5 (driversContent t) t) s

/-- QUERY_COUNTERS (10 R187). -/
def execQueryCounters (s : State) : Host.Outcome State Fault Refusal :=
  command (takeFrame .queryCounters fun _ t => answerQuery 6 (countersContent t) t) s

/-- QUERY_UNKNOWN (10 R186): an unknown selector is answered UNKNOWN. -/
def execQueryUnknown (s : State) : Host.Outcome State Fault Refusal :=
  command (takeFrame .queryUnknown fun _ t => answerCommand 9 .unknown [] t) s

end Sys2Proof.Machine
end

