-- ==== Sys2Proof/Machine/Reset.lean ====
section
/-! DEFINITION. HARD_RESET, RESET_RELEASE and SOFT_RESET (11 R199 to R201, 09 R176, 10 R188). -/

namespace Sys2Proof.Machine

/-- HARD_RESET (11 R199, R201): RESETn goes low, or power is applied: every block is held at its hard-reset values and
whatever was in progress is cut, with no abort mark sent. -/
def execHardReset (s : State) : Host.Outcome State Fault Refusal :=
  .next { State.reset with pending := s.pending }

/-- RESET_RELEASE (11 R199, R200): every block starts from its hard-reset values, the Run Controller posts RUN_STATE
with OFFLINE, and the transmitter begins its frame at once. With RESETn already high nothing happens (log 4). -/
def execResetRelease (s : State) : Host.Outcome State Fault Refusal :=
  if s.resetLine = .low then
    .next (kickTransmitter (postRunState .offline none { State.reset with pending := s.pending, resetLine := .high }))
  else .next { s with lineOut := [] }

/-- 04 R85: the chain after SOFT_RESET; its entries keep their shape. -/
def Chain.softReset (c : Chain) : Chain :=
  { phase := .idle, lengthFlag := false, entries := c.entries.map fun _ => ModuleEntry.fresh }

/-- 10 R188: the frame being sent is finished and marked as begun before the SOFT_RESET. -/
def TxFrame.markBefore (f : TxFrame) : TxFrame := { f with beforeReset := true }

/-- 10 R188: the DLP's SOFT_RESET values; the answer follows. -/
def Dlp.softReset (d : Dlp) : Dlp := { Dlp.hardReset with transmitter := d.transmitter.map TxFrame.markBefore }

/-- 07 R139: the accepted levels are kept. -/
def Wfm.softReset (w : Wfm) : Wfm := { Wfm.hardReset with arv := w.arv, feeders := w.feeders }

/-- SOFT_RESET in every block (01 R26, 02 R45, 03 R62, 04 R85, 05 R105, 06 R122, 07 R139, 08 R158, 09 R176,
10 R188). A shift in progress is abandoned with the abort mark. The tables and the Shaft Tracker are kept. The causes
waiting for RUN (log 6) and the transmitter's held-back choice (log 11) are dropped. -/
def softResetBlocks (s : State) : State :=
  let s1 := abortShifts s
  { s1 with
    dlp := s1.dlp.softReset
    psq := Psq.hardReset
    shb := Shb.hardReset
    hci := { Hci.hardReset with chains := Vector.ofFn fun k => (s1.hci.chains[k]).softReset }
    asc := Asc.hardReset
    wfm := s1.wfm.softReset
    drv := Drv.hardReset
    run := Run.hardReset }

/-- SOFT_RESET when taken (09 R176, 10 R188): every block is reset, the answer OK stands in the slot, and RUN_STATE is
the first record of the emptied queue. -/
def takeSoftReset (_p : List Byte) (s : State) : State :=
  postRunState s.run.state none (answerCommand 8 .ok [] (softResetBlocks s))

/-- SOFT_RESET (10 R188). -/
def execSoftReset (s : State) : Host.Outcome State Fault Refusal := command (takeFrame .softReset takeSoftReset) s

end Sys2Proof.Machine
end

