-- ==== Sys2Proof/Machine/Scheduling.lean ====
section
/-! DEFINITION. The operations of the Angle Scheduler: advances, snapshots, arming, firing and the window crossings
(06). -/

namespace Sys2Proof.Machine

/-- 06 R108: the advance of a latency. -/
def advanceOf (revTime : Option Nat) (latency : Nat) : Nat :=
  match revTime with
  | none => 0
  | some t =>
    if 2000000 < t then 0
    else
      let used := max t 20000
      min 900 ((latency * 3600 + (used - 1)) / used)

/-- 06 R107: a new snapshot replaces the one in force together with its armed part. L and λ_H are those in force. -/
def makeSnapshot (entry : SnapshotEntry) (advance : Nat → Nat) (s : State) : State :=
  match s.tbm.machine with
  | none => s
  | some m =>
    let sn : Snapshot :=
      { entry := entry, hookAdvance := advance m.hookLatency, latchAngle := m.latchAngle - advance m.hookLatency,
        armed := none }
    { s with asc := { snapshot := some sn } }

/-- 06 R106, R111: the channel an action reaches. -/
def Target.resolve (w : WeftChannel) : Target → DriverIdx
  | .selector => w.selector
  | .channel dc => dc

/-- 06 R110: the latency of an action; 0 with no driver settings record. -/
def settingsLatency : Option DriverSettings → Nat
  | none => 0
  | some d => d.latency

/-- 06 R109 to R111: an entry of the action list. -/
def armAction (t : Tbm) (advance : Nat → Nat) (highest : Nat) (w : WeftChannel) (x : ProfileAction) : ArmedAction :=
  let dc := x.target.resolve w
  let latency := settingsLatency t.drivers[dc]
  let d := advance latency
  { switching := x.switching, viaSelector := decide (x.target = .selector), channel := dc, nominal := x.angle,
    latency := latency, advance := d, effective := min (x.angle - d) highest, fired := false }

/-- 06 R109: the action was clipped at 0. -/
def ArmedAction.wasClipped (a : ArmedAction) : Bool := a.nominal < a.advance

/-- 06 R111: the copies of the driver settings of every channel the list reaches, in channel order. -/
def settingsCopies (t : Tbm) (actions : List ArmedAction) : List SettingsCopy :=
  (driverList.filter fun dc => actions.any fun a => a.channel = dc).map fun dc =>
    { channel := dc, settings := t.drivers[dc] }

/-- 06 R111: the armed part of a pick. -/
def buildArmed (t : Tbm) (advance : Nat → Nat) (highest : Nat) (o : Ordinal) (w : WeftChannel) (p : Profile) :
    ArmedPart :=
  let actions := p.actions.map (armAction t advance highest w)
  { ordinal := o, weft := w, actions := actions, copies := settingsCopies t actions,
    windowOpen := min p.windowOpen highest, openHanded := false,
    windowClose := min p.windowClose highest, closeHanded := false,
    clipped := actions.any ArmedAction.wasClipped }

/-- The highest crossed angle in force; 0 with no machine record. -/
def State.highestAngle (s : State) : Nat :=
  match s.tbm.machine with
  | none => 0
  | some m => m.highestAngle

/-- The weft channel record a pick with channel 1 to 12 names. -/
def Tbm.weftRecord (t : Tbm) (weft : Fin 13) : Option WeftChannel := t.wefts.toList.getD (weft.val - 1) none

/-- 06 R112, 07 R137: FAULTED with cause CHANNEL. -/
def channelFault (reason : ChannelReason) (s : State) : State := weftFault (.channel reason) .weftChannel s

/-- 06 R111: the record becomes ARMED and the armed part is built. -/
def armWith (advance : Nat → Nat) (w : WeftChannel) (p : Profile) (r : PickRecord) (s : State) : State :=
  let part := buildArmed s.tbm advance s.highestAngle r.ordinal w p
  modCurrent (fun x => { x with state := .armed, clipped := part.clipped }) (setArmed (some part) s)

/-- 01 R5, 06 R111, R112: CURRENT is armed, or settled at arming. -/
def armCurrent (advance : Nat → Nat) (s : State) : State :=
  match s.psq.current with
  | none => s
  | some r =>
    if r.weft = 0 then modCurrent (fun x => { x with state := .inserted }) s
    else
      match s.tbm.weftRecord r.weft with
      | none => channelFault .channelAbsent s
      | some w =>
        if w.enabled then
          match s.tbm.profiles[r.profile] with
          | none => channelFault .profileAbsent s
          | some p => armWith advance w p r s
        else channelFault .channelDisabled s

/-- Whether the record in CURRENT is PENDING. -/
def State.currentPending (s : State) : Bool :=
  match s.psq.current with
  | none => false
  | some r => r.state = .pending

/-- 06 R107, R113: the START snapshot; CURRENT is armed when PENDING and the angle is below A. -/
def startSnapshot (s : State) : State :=
  let s1 := makeSnapshot .start (fun _ => 0) s
  match s.angle with
  | none => s1
  | some a => if s.currentPending ∧ a < s.armLimit then armCurrent (fun _ => 0) s1 else s1

/-! ### Firing (06 R114, R115) -/

/-- 07 R132: the firing begins the feeder watch: it is the first SELECTOR ON of the armed part, and the window has
not been closed. -/
def ArmedPart.beginsWatch (a : ArmedPart) (x : ArmedAction) : Bool :=
  x.viaSelector && x.switching = .on && !a.closeHanded
    && !(a.actions.any fun y => y.fired && y.viaSelector && y.switching = .on)

/-- 06 R114: action `j` of the armed list fires. -/
def fireOne (s : State) (j : Nat) : State :=
  match s.armedPart with
  | none => s
  | some a =>
    match a.actions[j]? with
    | none => s
    | some x =>
      let s1 := setArmed (some { a with actions := a.actions.set j { x with fired := true } }) s
      let s2 := match x.switching with | .on => driverOn x.channel s1 | .off => driverOff x.channel s1
      if a.beginsWatch x then beginWatch a.weft.feeder s2 else s2

/-- 06 R114: an action that the ASC must hand before or as action `i`: same channel, unfired, crossed, and not later
in nominal angle (list order where equal). -/
def ArmedPart.handedBy (a : ArmedPart) (crosses : Nat → Bool) (i : Nat) (x : ArmedAction) (j : Nat) : Bool :=
  match a.actions[j]? with
  | none => false
  | some y =>
    y.channel = x.channel && !y.fired && crosses y.effective && (y.nominal < x.nominal || (y.nominal = x.nominal && j ≤ i))

/-- The nominal angle of action `j`. -/
def ArmedPart.nominalOf (a : ArmedPart) (j : Nat) : Nat :=
  match a.actions[j]? with
  | none => 0
  | some y => y.nominal

/-- 06 R114: what handing action `i` fires, in order: it, and before it the crossed actions of its channel that
precede it. Nothing when it is fired or not crossed. -/
def ArmedPart.firings (a : ArmedPart) (crosses : Nat → Bool) (i : Nat) : List Nat :=
  match a.actions[i]? with
  | none => []
  | some x =>
    if x.fired || !crosses x.effective then []
    else
      sortBy (fun j k => a.nominalOf j ≤ a.nominalOf k)
        ((List.range a.actions.length).filter (a.handedBy crosses i x))

/-- 06 R114, R115: the forward crossing of the effective angle of action `i`. -/
def fireAction (crosses : Nat → Bool) (i : Nat) (s : State) : State :=
  match s.armedPart with
  | none => s
  | some a => (a.firings crosses i).foldl fireOne s

/-! ### Window crossings (06 R116) -/

/-- 06 R116: the first forward crossing of the window open angle. -/
def handOpening (crosses : Nat → Bool) (s : State) : State :=
  match s.armedPart with
  | none => s
  | some a =>
    if !a.openHanded && crosses a.windowOpen then openWindow (setArmed (some { a with openHanded := true }) s) else s

/-- 06 R116: the first forward crossing of the window close angle, after the opening when one step crosses both. -/
def handClosing (crosses : Nat → Bool) (s : State) : State :=
  let s1 := handOpening crosses s
  match s1.armedPart with
  | none => s1
  | some a =>
    if !a.closeHanded && crosses a.windowClose then judgeWindow (setArmed (some { a with closeHanded := true }) s1)
    else s1

/-! ### The end of an armed part (06 R120) -/

/-- 06 R120: OFF to every channel the disarmed list reaches. -/
def offReached (a : ArmedPart) (s : State) : State := a.actions.foldl (fun t x => driverOff x.channel t) s

/-- 06 R120, 07 R130: the disarm at a backward boundary crossing. -/
def disarmBackward (s : State) : State :=
  match s.armedPart with
  | none => s
  | some a => closeWindow (setArmed none (offReached a s))

/-- 06 R117: whether the step's crossings raise a latch request, and the request. -/
def requestLatch (crosses : Nat → Bool) (dir : Direction) (s : State) : State :=
  match s.asc.snapshot with
  | none => s
  | some sn =>
    if (s.run.state = .weaving ∨ s.run.state = .stopping) ∧ crosses sn.latchAngle then latchRequest dir s else s

end Sys2Proof.Machine
end

