-- ==== Sys2Proof/Machine/RunCommands.lean ====
section
/-! DEFINITION. The commands of run control: ARM with its validation (02 R42, R43, 09 R162), DISARM, START, STOP,
CLEAR (09), and HOME (05 R91). -/

namespace Sys2Proof.Machine

/-! ### ARM validation (02 R42) -/

/-- The present records of a table with their record indices, in increasing index. -/
def presentRecords {α : Type} {n : Nat} (v : Vector (Option α) n) : List (α × Nat) :=
  v.toList.zipIdx.filterMap fun x => x.1.map fun r => (r, x.2)

/-- The record index of the first record that fails. -/
def firstFailing {α : Type} (l : List (α × Nat)) (bad : α × Nat → Bool) : Option Nat := (l.find? bad).map Prod.snd

/-- Two sections share a hook. -/
def HarnessSection.overlaps (x y : HarnessSection) : Bool :=
  x.first < y.first + y.count && y.first < x.first + x.count

/-- Whether weave `w` is present. -/
def Tbm.hasWeave (t : Tbm) (w : Nat) : Bool := (t.weaves.toList.getD w none).isSome

/-- Check 4: a FIGURE section has C0 below W and S not above W. -/
def HarnessSection.figureOk (w : Nat) (x : HarnessSection) : Bool :=
  match x.kind with
  | .figure origin span _ _ => origin < w && span ≤ w
  | _ => true

/-- Check 5: a SELVEDGE section names a present weave. -/
def HarnessSection.selvedgeOk (t : Tbm) (x : HarnessSection) : Bool :=
  match x.kind with
  | .selvedge w _ _ => t.hasWeave w
  | _ => true

/-- Whether the section is a FIGURE section. -/
def HarnessSection.isFigure (x : HarnessSection) : Bool :=
  match x.kind with
  | .figure _ _ _ _ => true
  | _ => false

/-- Check 7: a WEAVE effect names a present weave. -/
def Effect.weaveOk (t : Tbm) : Effect → Bool
  | .up => true
  | .down => true
  | .weave w _ _ _ => t.hasWeave w

/-- Check 8: every angle of a profile is at least A. -/
def Profile.anglesOk (limit : Nat) (p : Profile) : Bool :=
  p.actions.all (fun a => limit ≤ a.angle) && limit ≤ p.windowOpen && limit ≤ p.windowClose

/-- Check 6: the lowest absent effect entry, when a FIGURE section is present. -/
def missingEffect (t : Tbm) : Option Nat :=
  if (presentRecords t.sections).any (fun x => x.1.isFigure) then
    (t.effects.toList.zipIdx.find? fun x => x.1.isNone).map Prod.snd
  else none

/-- The first that is there, with the table id it belongs to. -/
def firstNamed : List (Nat × Option Nat) → Option (Nat × Nat)
  | [] => none
  | (id, some i) :: _ => some (id, i)
  | (_, none) :: rest => firstNamed rest

/-- 02 R42: the table id and record named by the first check that fails; none when all pass. -/
def armFailure (t : Tbm) (run : List PickRecord) : Option (Nat × Nat) :=
  match t.machine with
  | none => some (1, 0)
  | some m =>
    let sections := presentRecords t.sections
    firstNamed
      [ (2, firstFailing sections fun x => m.hooks < x.1.first + x.1.count),
        (2, firstFailing sections fun x => sections.any fun y => y.2 < x.2 && x.1.overlaps y.1),
        (2, firstFailing sections fun x => !x.1.figureOk m.width),
        (2, firstFailing sections fun x => !x.1.selvedgeOk t),
        (3, missingEffect t),
        (3, firstFailing (presentRecords t.effects) fun x => !x.1.weaveOk t),
        (5, firstFailing (presentRecords t.profiles) fun x => !x.1.anglesOk m.armLimit),
        (8, (run.find? fun r => r.effects.length != m.width).map fun r => r.ordinal.toNat) ]

/-- 09 R162: ARM in OFFLINE. -/
def takeArm (_p : List Byte) (s : State) : State :=
  if s.run.state = .offline then
    match armFailure s.tbm s.psq.runRecords with
    | some x => answerCommand 1 .table (tableData x.1 x.2) s
    | none => answerCommand 1 .ok [] (changeState .stopped s)
  else answerCommand 1 .state [] s

/-- ARM (09 R162). -/
def execArm (s : State) : Host.Outcome State Fault Refusal := command (takeFrame .arm takeArm) s

/-! ### DISARM, START, STOP, CLEAR -/

/-- 09 R163: DISARM in STOPPED. -/
def takeDisarm (_p : List Byte) (s : State) : State :=
  if s.run.state = .stopped then answerCommand 2 .ok [] (changeState .offline s) else answerCommand 2 .state [] s

/-- DISARM (09 R163). -/
def execDisarm (s : State) : Host.Outcome State Fault Refusal := command (takeFrame .disarm takeDisarm) s

/-- 09 R165: the causes become NONE. -/
def clearCauses (s : State) : State :=
  { s with run := { s.run with firstStop := none, haltCause := none, lastLater := none } }

/-- 09 R165: the change into WEAVING with its RUN_STATE, and the START snapshot. -/
def startWeaving (s : State) : State := startSnapshot (changeState .weaving (clearCauses s))

/-- 09 R164, R165: the conditions of START in order. WEFT_CHANNEL of its own arming is taken as part of it, before any
cause that waited. -/
def takeStart (taken : CausesTaken) (_p : List Byte) (s : State) : State :=
  if s.run.state ≠ .stopped then answerCommand 3 .state [] s
  else if s.stk.homing ≠ .homed then answerCommand 3 .notHomed [] s
  else if s.stk.motion ≠ .standstill then answerCommand 3 .moving [] s
  else if s.drv.test.isSome then answerCommand 3 .busy [] s
  else answerCommand 3 .ok [] (takeCauses taken (takingOwn startWeaving s))

/-- START (09 R164). -/
def execStart (s : State) (taken : CausesTaken := .every) : Host.Outcome State Fault Refusal :=
  command (takeFrame .start (takeStart taken)) s

/-- 09 R161, R166: STOP in WEAVING is the stop cause STOP_COMMAND; elsewhere it is answered OK with no effect. -/
def takeStopCommand (taken : CausesTaken) (_p : List Byte) (s : State) : State :=
  if s.run.state = .weaving then answerCommand 4 .ok [] (takeCauses taken (takeStop .stopCommand s))
  else answerCommand 4 .ok [] s

/-- STOP (09 R166). -/
def execStop (s : State) (taken : CausesTaken := .every) : Host.Outcome State Fault Refusal :=
  command (takeFrame .stop (takeStopCommand taken)) s

/-- 09 R172: CLEAR in HALTED. -/
def takeClear (_p : List Byte) (s : State) : State :=
  if s.run.state ≠ .halted then answerCommand 5 .state [] s
  else if s.stk.homing ≠ .homed then answerCommand 5 .notHomed [] s
  else if s.stk.motion ≠ .standstill then answerCommand 5 .moving [] s
  else answerCommand 5 .ok [] (changeState .stopped (releaseAll s))

/-- CLEAR (09 R172). -/
def execClear (s : State) : Host.Outcome State Fault Refusal := command (takeFrame .clear takeClear) s

/-! ### HOME (05 R91) -/

/-- 05 R91: HOME is taken in OFFLINE, STOPPED and HALTED. -/
def RunState.allowsHome : RunState → Bool
  | .offline => true
  | .stopped => true
  | .halted => true
  | .weaving => false
  | .stopping => false

/-- 05 R91: the tracker becomes HOMING; from HOMED it also loses T_rev and the required pick becomes absent. -/
def startHoming (s : State) : State :=
  let s1 := if s.stk.homing = .homed then dropRevTime s else s
  settle
    { s1 with stk :=
        { s1.stk with homing := .homing, lastDeviation := none, largestDeviation := none, netTravel := 0 } }

/-- 05 R91. A refusal with TABLE names MACHINE, record 0 (log 8). -/
def takeHome (_p : List Byte) (s : State) : State :=
  if s.run.state.allowsHome then
    match s.tbm.machine with
    | none => answerCommand 7 .table (tableData 1 0) s
    | some _ => answerCommand 7 .ok [] (startHoming s)
  else answerCommand 7 .state [] s

/-- HOME (05 R91). -/
def execHome (s : State) : Host.Outcome State Fault Refusal := command (takeFrame .home takeHome) s

end Sys2Proof.Machine
end

