-- ==== Sys2Proof/Machine/Picks.lean ====
section
/-! DEFINITION. The Pick Sequencer: the pick run, its forward and backward steps, acceptance and FLUSH (01), and the
meanings of PICK_FRAME and FLUSH. -/

namespace Sys2Proof.Machine

/-! ### Held ahead and low water (01 R22) -/

/-- 01 R22: the warning becomes ready when M is above 0 and held ahead reaches M. -/
def readyIfReached (s : State) : State :=
  if 0 < s.lowWaterMark ∧ s.lowWaterMark ≤ s.heldAhead then
    { s with psq := { s.psq with warningReady := true } }
  else s

/-- 01 R22: a fill that takes held ahead from M to M-1 while the warning is ready. -/
def lowWaterAfterFill (s : State) : State :=
  if s.psq.warningReady ∧ s.heldAhead + 1 = s.lowWaterMark then
    post (.lowWater s.heldAhead s.psq.expected) { s with psq := { s.psq with warningReady := false } }
  else s

/-- 01 R14: an empty NEXT is filled from the RL front, else from the PQ head. -/
def fillNext (s : State) : State :=
  match s.psq.nextPick with
  | some _ => s
  | none =>
    match s.psq.replay with
    | r :: rest => lowWaterAfterFill { s with psq := { s.psq with nextPick := some r, replay := rest } }
    | [] =>
      match s.psq.queue with
      | r :: rest => lowWaterAfterFill { s with psq := { s.psq with nextPick := some r, queue := rest } }
      | [] => s

/-! ### Forward steps (01 section 1.5) -/

/-- 01 R3, R16: the record as it enters PH. -/
def PickRecord.enterHistory (r : PickRecord) : PickRecord :=
  { r with
    state := if r.state = .pending then .unwoven else r.state
    weaveCount := satInc 255 r.weaveCount }

/-- 01 R7, R16: when PH already holds 16, its oldest record is discarded first. -/
def dropOldest (s : State) : State :=
  match s.psq.history with
  | [] => s
  | r :: rest =>
    if Config.historyCapacity ≤ s.psq.history.length then
      dropRecord r.ordinal { s with psq := { s.psq with history := rest } }
    else s

/-- 01 R16: the record leaving CURRENT enters PH and PICK_DONE is posted. -/
def retireCurrent (s : State) : State :=
  match s.psq.current with
  | none => s
  | some r =>
    let s1 := dropOldest s
    post (.pickDone r.enterHistory)
      { s1 with psq :=
          { s1.psq with
            history := s1.psq.history ++ [r.enterHistory]
            picksEntered := satInc max32 s1.psq.picksEntered } }

/-- 01 R15 outcome 2, the moves of a promotion. -/
def promote (s : State) : State :=
  let s1 := retireCurrent s
  fillNext { s1 with psq := { s1.psq with current := s1.psq.nextPick, nextPick := none } }

/-- 01 R17. -/
def dwell (s : State) : State := { s with psq := { s.psq with dwells := satInc max32 s.psq.dwells } }

/-- 01 R15: NEXT holds a record whose ordinal the shed tag names. -/
def State.nextOnHooks (s : State) : Bool :=
  match s.psq.nextPick with
  | none => false
  | some r => s.tagNames r.ordinal

/-- 01 R15, 06 R111: in WEAVING a promotion arms a PENDING CURRENT. -/
def armPromoted (s : State) : State :=
  if s.run.state = .weaving ∧ s.currentPending then armCurrent (advanceOf s.stk.revTime) s else s

/-- 06 R107: the FORWARD snapshot, with δ_H from the T_rev of this crossing. -/
def forwardSnapshot (s : State) : State := makeSnapshot .forward (advanceOf s.stk.revTime) s

/-- 01 R15, 06 R107: a forward crossing of the pick boundary: the PSQ's handling and after it the ASC's. -/
def forwardBoundary (s : State) : State :=
  if 0 < s.psq.depth then forwardSnapshot { s with psq := { s.psq with depth := s.psq.depth - 1 } }
  else if s.nextOnHooks then settle (armPromoted (forwardSnapshot (promote s)))
  else forwardSnapshot (dwell s)

/-! ### Back-steps (01 section 1.6) -/

/-- 01 R18, R19: BACKSTEP. -/
def postBackstep (s : State) : State :=
  post (.backstep (s.psq.current.map fun r => (r.ordinal, r.state)) s.nextOrdinal s.psq.depth) s

/-- 01 R6: an ARMED CURRENT becomes PENDING with its outcome cleared. -/
def PickRecord.disarmed (r : PickRecord) : PickRecord := if r.state = .armed then r.unwound else r

/-- 01 R18: the run is unwound; `newest` is the record that comes back from PH. -/
def unwind (newest : PickRecord) (s : State) : State :=
  postBackstep
    (readyIfReached
      { s with psq :=
          { s.psq with
            history := s.psq.history.dropLast
            current := some newest
            nextPick := s.psq.current.map PickRecord.unwound
            replay := s.psq.nextPick.toList ++ s.psq.replay } })

/-- 01 R6, R18, R19, 06 R107, R120: a backward crossing of the pick boundary: the ASC disarms and makes the BACKWARD
snapshot, and the PSQ steps back. -/
def backwardBoundary (s : State) : State :=
  let s1 := modCurrent PickRecord.disarmed (makeSnapshot .backward (fun _ => 0) (disarmBackward s))
  match s1.psq.history.getLast? with
  | some newest => settle (unwind newest s1)
  | none => postBackstep { s1 with psq := { s1.psq with depth := satInc 255 s1.psq.depth } }

/-! ### Acceptance (01 section 1.4) -/

/-- 01 R10 check 1. -/
def RunState.acceptsPicks : RunState → Bool
  | .offline => false
  | .stopped => true
  | .weaving => true
  | .stopping => true
  | .halted => true

/-- 01 R10: PICK_REFUSED. -/
def refusePick (cause : RefusalCause) (p : List Byte) (s : State) : State :=
  post (.pickRefused cause (pickOrdinal p) s.psq.expected) s

/-- 01 R13: the record goes into NEXT when NEXT, RL and PQ are empty, else to the PQ tail. -/
def acceptPick (r : PickRecord) (s : State) : State :=
  let s1 := { s with psq := { s.psq with expected := s.psq.expected + 1 } }
  if s.psq.nextPick = none ∧ s.psq.replay = [] ∧ s.psq.queue = [] then
    settle { s1 with psq := { s1.psq with nextPick := some r } }
  else readyIfReached { s1 with psq := { s1.psq with queue := s1.psq.queue ++ [r] } }

/-- 01 R10: the checks of a pick frame in order. -/
def takePick (p : List Byte) (s : State) : State :=
  if s.run.state.acceptsPicks then
    match s.tbm.machine with
    | none => refusePick .format p s
    | some m =>
      if !pickWellFormed m.width p then refusePick .format p s
      else if pickOrdinal p ≠ s.psq.expected then refusePick .sequence p s
      else if Config.pqCapacity ≤ s.psq.queue.length then refusePick .full p s
      else acceptPick (pickRecord m.width p) s
  else refusePick .state p s

/-- PICK_FRAME (01 R10). -/
def execPickFrame (s : State) : Host.Outcome State Fault Refusal := command (takeFrame .pick takePick) s

/-! ### FLUSH (01 R21) -/

/-- 01 R21: FLUSH is taken in OFFLINE, STOPPED and HALTED. -/
def RunState.allowsFlush : RunState → Bool
  | .offline => true
  | .stopped => true
  | .halted => true
  | .weaving => false
  | .stopping => false

/-- 03 R59, 04 R68, R70: a record taken away by FLUSH. -/
def flushRecord (s : State) (r : PickRecord) : State := staleIfCarries r.ordinal (dropRecord r.ordinal s)

/-- 01 R21: the records FLUSH discards: NEXT unless the tag names it, RL and PQ. -/
def State.flushed (s : State) : List PickRecord :=
  (if s.nextOnHooks then [] else s.psq.nextPick.toList) ++ s.psq.replay ++ s.psq.queue

/-- 01 R21: one more than the ordinal of the last record still held, else the argument. -/
def expectedAfterFlush (p : Psq) (arg : Ordinal) : Ordinal :=
  match p.runRecords.getLast? with
  | none => arg
  | some r => r.ordinal + 1

/-- 01 R21: the run after FLUSH, before the expected ordinal is set. -/
def Psq.afterFlush (p : Psq) (keepNext : Bool) : Psq :=
  { p with nextPick := if keepNext then p.nextPick else none, replay := [], queue := [], warningReady := false }

/-- 01 R21: FLUSH when taken. -/
def flushRun (arg : Ordinal) (s : State) : State :=
  let kept := s.psq.afterFlush s.nextOnHooks
  let s1 := s.flushed.foldl flushRecord s
  settle { s1 with psq := { kept with expected := expectedAfterFlush kept arg } }

/-- 01 R21: FLUSH(expected), refused with STATE in WEAVING and STOPPING; OK carries the expected ordinal. -/
def takeFlush (p : List Byte) (s : State) : State :=
  if s.run.state.allowsFlush then
    let s1 := flushRun (BitVec.ofNat 16 (wordAt p 1)) s
    answerCommand 6 .ok (encWord s1.psq.expected) s1
  else answerCommand 6 .state [] s

/-- FLUSH (01 R21). -/
def execFlush (s : State) : Host.Outcome State Fault Refusal := command (takeFrame .flush takeFlush) s

end Sys2Proof.Machine
end

