-- ==== Sys2Proof/Machine/Shaft.lean ====
section
/-! DEFINITION. The Shaft Tracker: level acquisition, steps with the crossings they make, illegal transitions, the
index and standstill (05). -/

namespace Sys2Proof.Machine

/-! ### Levels -/

/-- The other level. -/
def flipLevel : Level → Level
  | .low => .high
  | .high => .low

/-- The accepted level of a quadrature line. -/
def Stk.lineLevel (k : Stk) : EncLine → Option Level
  | .encA => k.encA
  | .encB => k.encB

/-- Set the accepted level of a quadrature line. -/
def Stk.setLine (k : Stk) (line : EncLine) (l : Level) : Stk :=
  match line with
  | .encA => { k with encA := some l }
  | .encB => { k with encB := some l }

/-- 05 R87: an input that is not acquired takes its starting level. -/
def Stk.acquire (k : Stk) (input : EncInput) (l : Level) : Stk :=
  match input with
  | .encA => { k with encA := k.encA.or (some l) }
  | .encB => { k with encB := k.encB.or (some l) }
  | .encZ => { k with encZ := k.encZ.or (some l) }

/-- 05 R87: levels are acquired only once a machine record is present. -/
def acquireLevel (input : EncInput) (l : Level) (s : State) : State :=
  if s.tbm.machine.isSome then { s with stk := s.stk.acquire input l } else s

/-- ENCODER_LEVEL_ACQUIRED (05 R87). -/
def execEncoderLevelAcquired (input : EncInput) (l : Level) (s : State) : Host.Outcome State Fault Refusal :=
  command (acquireLevel input l) s

/-! ### What a step hands on (05 R97) -/

/-- A step's crossings: its direction, whether it is the wrap step, and the angles of its two counts. -/
structure StepInfo where
  direction : Direction
  wrap : Bool
  below : Nat
  above : Nat
  deriving DecidableEq, Repr

/-- 05 R97: the wrap step crosses 0 alone, every other step the angles above a(u) up to a(v). -/
def StepInfo.crosses (c : StepInfo) (angle : Nat) : Bool :=
  if c.wrap then angle = 0 else c.below < angle && angle ≤ c.above

/-- What one step hands on, each a matter of one block (05 R90, R94, R97, R102, 06, 08 R150). -/
inductive Handling where
  /-- The SHB is told of a change of direction (R90). -/
  | direction
  /-- The DRV releases PER_PICK blocks at a forward boundary crossing (R150). -/
  | release
  /-- The PSQ and after it the ASC take a crossing of the pick boundary (R15, R18, R19, R107). -/
  | boundary
  /-- In STOPPED the HCI takes a crossing of L or of angle 0 (R76). -/
  | keep
  /-- The ASC takes a crossing of L_eff (R117). -/
  | latch
  /-- The ASC takes a forward crossing of the effective angle of action i (R114). -/
  | fire (i : Nat)
  /-- The ASC takes a forward crossing of the window open angle (R116). -/
  | windowOpen
  /-- The ASC takes a forward crossing of the window close angle (R116). -/
  | windowClose
  /-- The STK finds the net travel above 3N/2 (R94). -/
  | indexMissing
  /-- The STK finds the reverse count above the reverse tolerance (R102). -/
  | reverse
  deriving DecidableEq, Repr

/-- 06 R107, R115, R116: what must come after the boundary handling of the same step. -/
def Handling.afterBoundary : Handling → Bool
  | .fire _ => true
  | .windowOpen => true
  | .windowClose => true
  | _ => false

/-- 05 R76, 04 R76: in STOPPED a crossing of L or of angle 0 evaluates the required pick. -/
def keepShed (c : StepInfo) (s : State) : State :=
  match s.tbm.machine with
  | none => s
  | some m => if s.run.state = .stopped ∧ (c.crosses 0 ∨ c.crosses m.latchAngle) then settle s else s

/-- 05 R94: ENCODER_FAULT of kind INDEX_MISSING and the stop cause. -/
def raiseIndexMissing (s : State) : State :=
  hand (.stop .indexMissing) (post (.indexMissing s.stk.position s.stk.netTravel) s)

/-- A block takes what is handed to it. -/
def handle (c : StepInfo) (s : State) : Handling → State
  | .direction => evalTarget s
  | .release => releasePerPick s
  | .boundary =>
    match c.direction with
    | .forward => forwardBoundary s
    | .backward => backwardBoundary s
  | .keep => keepShed c s
  | .latch => requestLatch c.crosses c.direction s
  | .fire i => fireAction c.crosses i s
  | .windowOpen => handOpening c.crosses s
  | .windowClose => handClosing c.crosses s
  | .indexMissing => raiseIndexMissing s
  | .reverse => hand (.stop .reverseInRun) s

/-- A handling followed by RUN taking what it handed. -/
def handleAndDrain (c : StepInfo) (s : State) (h : Handling) : State := drain (handle c s h)

/-- The handlings that no choice named, in place order. Where RUN takes every cause, it takes each as it is handed. -/
def handleRest (c : StepInfo) (taken : CausesTaken) (rest : List Handling) (s : State) : State :=
  match taken with
  | .every => rest.foldl (handleAndDrain c) (drain s)
  | .only _ => rest.foldl (handle c) s

/-- 05 R97: the blocks take the step's handlings in the order the command gives (log 6). Choice 0: RUN takes the
cause that has waited longest. Choice k + 1: the handling at place k of those that remain is taken; one that must come
after the boundary handling takes that first. When the choices are used up, the rest is taken in place order. -/
def runOrder (c : StepInfo) (taken : CausesTaken) : List Nat → List Handling → State → State
  | [], rest, s => handleRest c taken rest s
  | 0 :: choices, rest, s => runOrder c taken choices rest (takeAt s 0)
  | (k + 1) :: choices, rest, s =>
    match rest[k]? with
    | none => runOrder c taken choices rest s
    | some h =>
      if h.afterBoundary && rest.contains .boundary then
        runOrder c taken choices ((rest.erase .boundary).erase h) (handle c (handle c s .boundary) h)
      else runOrder c taken choices (rest.erase h) (handle c s h)

/-- The eight places of an action list (06 R106). -/
def fireList : List Handling := (List.range 8).map Handling.fire

/-- The crossings a HOMED step hands on, in the default order. -/
def crossingHandlings (c : StepInfo) : List Handling :=
  match c.direction with
  | .forward =>
    (if c.wrap then [.release, .boundary] else []) ++ [.keep, .latch] ++ fireList ++ [.windowOpen, .windowClose]
  | .backward => (if c.wrap then [.boundary] else []) ++ [.keep, .latch]

/-! ### The step (05 R88) -/

/-- 05 R88: the direction of a change of one line, from the pair before it: ENCA leads ENCB forward. -/
def stepDirection (line : EncLine) (a b : Level) : Direction :=
  match line with
  | .encA => if a = b then .forward else .backward
  | .encB => if a = b then .backward else .forward

/-- 05 R88: p after a step. -/
def nextPosition (n p : Nat) : Direction → Nat
  | .forward => if p + 1 < n then p + 1 else 0
  | .backward => if p = 0 then n - 1 else p - 1

/-- The crossings of the step from `p`. -/
def stepInfo (n p : Nat) (dir : Direction) : StepInfo :=
  let q := nextPosition n p dir
  match dir with
  | .forward => { direction := dir, wrap := decide (q = 0), below := angleOf n p, above := angleOf n q }
  | .backward => { direction := dir, wrap := decide (p = 0), below := angleOf n q, above := angleOf n p }

/-- 05 R94: the net travel after a step while HOMED. -/
def travelAfter (k : Stk) (dir : Direction) : Int :=
  if k.homing = .homed then
    match dir with
    | .forward => clampTravel (k.netTravel + 1)
    | .backward => clampTravel (k.netTravel - 1)
  else k.netTravel

/-- 05 R94: the step takes the magnitude of the net travel above 3N/2, and the cause has not been raised since the
last index pulse. -/
def missesIndex (n : Nat) (k : Stk) (dir : Direction) : Bool :=
  k.homing = .homed && !k.indexMissingRaised && 2 * k.netTravel.natAbs ≤ 3 * n
    && 3 * n < 2 * (travelAfter k dir).natAbs

/-- 05 R102: the reverse count after a step. -/
def reverseAfter (run : RunState) (count : Nat) : Direction → Nat
  | .forward => 0
  | .backward => if run = .weaving then satInc 256 count else count

/-- 05 R102: a backward step in WEAVING takes the reverse count above the reverse tolerance. -/
def reversesInRun (run : RunState) (tolerance count : Nat) (dir : Direction) : Bool :=
  dir = .backward && run = .weaving && count ≤ tolerance && tolerance < reverseAfter run count dir

/-- 05 R99, R100: T_rev and the revolution timer after a step that is or is not a forward boundary crossing. -/
def Stk.timeStep (k : Stk) (dir : Direction) (boundary : Bool) : Stk :=
  match dir with
  | .backward => { k with revTime := none, revTimer := none }
  | .forward =>
    if boundary then
      match k.revTimer with
      | some t => { k with revTime := some (min t maxRevTime), revTimer := some 0 }
      | none => { k with revTimer := some 0 }
    else k

/-- 05 R88: the tracker after a step in direction `dir`. -/
def Stk.step (m : MachineRecord) (run : RunState) (dir : Direction) (k : Stk) : Stk :=
  let boundary := k.homing = .homed ∧ (stepInfo m.counts k.position dir).wrap
  let k1 := k.timeStep dir boundary
  { k1 with
    position := nextPosition m.counts k.position dir
    direction := dir
    motion := .moving
    standstillTimer := some m.standstillMs
    netTravel := travelAfter k dir
    indexMissingRaised := k.indexMissingRaised || missesIndex m.counts k dir
    reverseCount := reverseAfter run k.reverseCount dir }

/-- What a step hands on, in the default order. -/
def stepHandlings (m : MachineRecord) (run : RunState) (dir : Direction) (k : Stk) : List Handling :=
  (if k.direction ≠ dir then [.direction] else [])
    ++ (if k.homing = .homed then crossingHandlings (stepInfo m.counts k.position dir) else [])
    ++ (if missesIndex m.counts k dir then [.indexMissing] else [])
    ++ (if reversesInRun run m.reverseTolerance k.reverseCount dir then [.reverse] else [])

/-- 05 R88, R97: a step is counted and its crossings are handed on. -/
def takeStep (m : MachineRecord) (dir : Direction) (order : List Nat) (taken : CausesTaken) (s : State) : State :=
  runOrder (stepInfo m.counts s.stk.position dir) taken order (stepHandlings m s.run.state dir s.stk)
    { s with stk := s.stk.step m s.run.state dir }

/-- 05 R99: the revolution timer, when running, counts the microseconds since the step before. -/
def Stk.elapse (k : Stk) (elapsed : Nat) : Stk := { k with revTimer := k.revTimer.map (· + elapsed) }

/-- 05 R88: a quadrature line changes its accepted level. Steps are counted once both lines are acquired. With no
machine record, or a line not acquired, no change is accepted (05 R86, R87). -/
def lineChange (line : EncLine) (elapsed : Nat) (order : List Nat) (taken : CausesTaken) (s : State) : State :=
  match s.tbm.machine, s.stk.lineLevel line with
  | some m, some l =>
    let s1 := { s with stk := (s.stk.elapse elapsed).setLine line (flipLevel l) }
    match s.stk.encA, s.stk.encB with
    | some a, some b => takeStep m (stepDirection line a b) order taken s1
    | _, _ => s1
  | _, _ => s

/-- ENCODER_STEP (05 R88). -/
def execEncoderStep (line : EncLine) (elapsed : Nat) (order : List Nat) (s : State) (taken : CausesTaken := .every) :
    Host.Outcome State Fault Refusal :=
  causing taken (lineChange line elapsed order taken) s

/-! ### Illegal transitions (05 R89) -/

/-- The cause an illegal transition hands (05 R89). -/
def EncoderFaultMode.cause : EncoderFaultMode → Cause
  | .halt => .halt .encoderFault
  | .stop => .stop .encoderFault

/-- 05 R89: both accepted levels change together. -/
def illegalChange (s : State) : State :=
  match s.tbm.machine, s.stk.encA, s.stk.encB with
  | some m, some a, some b =>
    let k := { s.stk with encA := some (flipLevel a), encB := some (flipLevel b), illegalCount := satInc max16 s.stk.illegalCount }
    hand m.encoderMode.cause (post (.encoderIllegal k.position k.encA k.encB k.homing) { s with stk := k })
  | _, _, _ => s

/-- ILLEGAL_TRANSITION (05 R89). -/
def execIllegalTransition (s : State) (taken : CausesTaken := .every) : Host.Outcome State Fault Refusal :=
  causing taken illegalChange s

/-! ### The index (05 R92, R93) -/

/-- 05 R92: the pulse homes a HOMING tracker. -/
def homeAt (m : MachineRecord) (s : State) : State :=
  let k := { s.stk with position := m.offset, homing := .homed, netTravel := 0, indexMissingRaised := false }
  settle (post (.homed m.offset s.stk.position s.stk.direction) { s with stk := k })

/-- 05 R93: d, the folded deviation of p from O. -/
def indexDeviation (m : MachineRecord) (p : Nat) : Int :=
  foldDeviation m.counts (((p : Int) - (m.offset : Int)) % (m.counts : Int)).toNat

/-- 05 R93: the check passes. -/
def indexPasses (d : Int) (s : State) : State :=
  { s with stk :=
      { s.stk with
        lastDeviation := some d, largestDeviation := largerDeviation s.stk.largestDeviation d, netTravel := 0,
        indexMissingRaised := false } }

/-- 05 R93: the check fails. -/
def indexFails (m : MachineRecord) (d : Int) (s : State) : State :=
  let s1 := dropRevTime { s with stk := { s.stk with homing := .unhomed } }
  hand (.halt .indexMismatch) (post (.indexMismatch s.stk.position m.offset d) (settle s1))

/-- 05 R92, R93: an index pulse by the homing state. -/
def takeIndex (m : MachineRecord) (s : State) : State :=
  match s.stk.homing with
  | .unhomed => s
  | .homing => homeAt m s
  | .homed =>
    let d := indexDeviation m s.stk.position
    if d.natAbs ≤ m.indexTolerance then indexPasses d s else indexFails m d s

/-- 05 R86, R92, R93: the accepted level of ENCZ changes from low to high. -/
def indexRise (s : State) : State :=
  match s.tbm.machine, s.stk.encZ with
  | some m, some .low => takeIndex m { s with stk := { s.stk with encZ := some .high } }
  | _, _ => s

/-- INDEX_PULSE (05 R93). -/
def execIndexPulse (s : State) (taken : CausesTaken := .every) : Host.Outcome State Fault Refusal :=
  causing taken indexRise s

/-- 05 R86: the accepted level of ENCZ changes from high to low, with no other effect. -/
def indexFall (s : State) : State :=
  match s.tbm.machine, s.stk.encZ with
  | some _, some .high => { s with stk := { s.stk with encZ := some .low } }
  | _, _ => s

/-- ENCZ_FALL (05 R86). -/
def execEnczFall (s : State) : Host.Outcome State Fault Refusal := command indexFall s

/-! ### Standstill (05 R101) -/

/-- 05 R101, 09 R169: standstill is declared and handed to RUN. With the timer not running it cannot run out. -/
def declareStandstill (s : State) : State :=
  if s.stk.standstillTimer.isSome then
    let s1 := dropRevTime { s with stk := { s.stk with motion := .standstill, standstillTimer := none } }
    if s.run.state = .stopping then changeState .stopped s1 else s1
  else s

/-- STANDSTILL (05 R101). -/
def execStandstill (s : State) : Host.Outcome State Fault Refusal := command declareStandstill s

end Sys2Proof.Machine
end

