-- ==== Sys2Proof/Machine/Tables.lean ====
section
/-! DEFINITION. The Table Memory: the TABLE frames (02 R27 to R41, 10 R193 to R195). -/

namespace Sys2Proof.Machine

/-- 10 R195: the answer of a TABLE frame: table id and record index as received, then `extra`. -/
def answerTable (p : List Byte) (r : Result) (extra : List Byte) (s : State) : State :=
  setAnswer .table (p.getD 0 0) r (enc16 (tableIndex p) ++ extra) s

/-- 02 R28 checks 3 and 4, and the accepted write, answered OK with the epoch in force after it. -/
def checkedWrite (p : List Byte) (lengthOk : Bool) (checks : List FieldCheck) (write : State → State) (s : State) :
    State :=
  if !lengthOk then answerTable p .format [] s
  else
    match firstBad checks with
    | some field => answerTable p .range (enc8 field) s
    | none =>
      let s1 := write s
      answerTable p .ok (encWord s1.tbm.epoch) s1

/-- 02 R28, R34: a pattern table is written in OFFLINE alone. -/
def patternTable (p : List Byte) (lengthOk : Bool) (checks : List FieldCheck) (write : State → State) (s : State) :
    State :=
  if s.run.state = .offline then checkedWrite p lengthOk checks (fun t => patternWrite (write t)) s
  else answerTable p .state [] s

/-! ### The machine record (02 R29, R30) -/

/-- 02 R30: the first write, or N or O differs. -/
def shaftChanges (old : Option MachineRecord) (m : MachineRecord) : Bool :=
  match old with
  | none => true
  | some o => o.counts != m.counts || o.offset != m.offset

/-- 02 R30: the first write, or one of M0 to M3 differs. -/
def headChanges (old : Option MachineRecord) (m : MachineRecord) : Bool :=
  match old with
  | none => true
  | some o => o.modules != m.modules

/-- 02 R30: the Shaft Tracker becomes UNHOMED on the new scale; its levels are kept (05 R87). -/
def rescaleShaft (s : State) : State :=
  { s with stk :=
      { s.stk with
        position := 0, homing := .unhomed, revTime := none, revTimer := none, lastDeviation := none,
        largestDeviation := none, netTravel := 0, indexMissingRaised := false } }

/-- 02 R30: every chain is re-formed for the new module counts. -/
def reformChains (m : MachineRecord) (s : State) : State :=
  modChains
    (fun k _ =>
      { phase := .idle, lengthFlag := false, entries := List.replicate (m.modulesOf k) ModuleEntry.fresh }) s

/-- 02 R30, 01 R22: the low-water warning by the new M. -/
def resetWarning (m : MachineRecord) (s : State) : State :=
  { s with psq := { s.psq with warningReady := decide (0 < m.lowWater ∧ m.lowWater ≤ s.heldAhead) } }

/-- 02 R30: the record is replaced and its values handed on. -/
def writeMachine (m : MachineRecord) (s : State) : State :=
  let s1 := { s with tbm := { s.tbm with machine := some m } }
  let s2 := if shaftChanges s.tbm.machine m then rescaleShaft s1 else s1
  let s3 := if headChanges s.tbm.machine m then reformChains m s2 else s2
  resetWarning m s3

/-- 02 R30. -/
def takeTableMachine (p : List Byte) (s : State) : State :=
  patternTable p (machineLengthOk p) (machineChecks p) (writeMachine (machineRecordOf p)) s

/-- TABLE_MACHINE (02 R30). -/
def execTableMachine (s : State) : Host.Outcome State Fault Refusal :=
  command (takeFrame (.table .machine) takeTableMachine) s

/-! ### The other pattern tables -/

/-- 02 R31: write or remove a section. -/
def writeSection (i : Nat) (x : Option HarnessSection) (s : State) : State :=
  { s with tbm := { s.tbm with sections := s.tbm.sections.setIfInBounds i x } }

/-- 02 R31. -/
def takeTableSections (p : List Byte) (s : State) : State :=
  patternTable p (sectionLengthOk p) (sectionChecks p) (writeSection (tableIndex p) (sectionOf p)) s

/-- TABLE_SECTIONS (02 R31). -/
def execTableSections (s : State) : Host.Outcome State Fault Refusal :=
  command (takeFrame (.table .sections) takeTableSections) s

/-- 02 R32: write or remove an effect entry. -/
def writeEffect (i : Nat) (x : Option Effect) (s : State) : State :=
  { s with tbm := { s.tbm with effects := s.tbm.effects.setIfInBounds i x } }

/-- 02 R32. -/
def takeTableEffects (p : List Byte) (s : State) : State :=
  patternTable p (presenceLengthOk 6 p) (effectChecks p) (writeEffect (tableIndex p) (effectOf p)) s

/-- TABLE_EFFECTS (02 R32). -/
def execTableEffects (s : State) : Host.Outcome State Fault Refusal :=
  command (takeFrame (.table .effects) takeTableEffects) s

/-- 02 R33: write or remove a weave. -/
def writeWeave (i : Nat) (x : Option Weave) (s : State) : State :=
  { s with tbm := { s.tbm with weaves := s.tbm.weaves.setIfInBounds i x } }

/-- 02 R33. -/
def takeTableWeaves (p : List Byte) (s : State) : State :=
  patternTable p (weaveLengthOk p) (weaveChecks p) (writeWeave (tableIndex p) (weaveOf p)) s

/-- TABLE_WEAVES (02 R33). -/
def execTableWeaves (s : State) : Host.Outcome State Fault Refusal :=
  command (takeFrame (.table .weaves) takeTableWeaves) s

/-! ### Live tables (02 R36) -/

/-- 02 R37: write or remove a profile. -/
def writeProfile (i : Nat) (x : Option Profile) (s : State) : State :=
  { s with tbm := { s.tbm with profiles := s.tbm.profiles.setIfInBounds i x } }

/-- 02 R37, R38: the arming limit is that of the machine record in force. -/
def takeTableProfiles (p : List Byte) (s : State) : State :=
  checkedWrite p (profileLengthOk p) (profileChecks s.armLimit p) (writeProfile (tableIndex p) (profileOf p)) s

/-- TABLE_PROFILES (02 R37). -/
def execTableProfiles (s : State) : Host.Outcome State Fault Refusal :=
  command (takeFrame (.table .profiles) takeTableProfiles) s

/-- 02 R39: write or remove a weft channel record; record n stands at place n - 1. -/
def writeWeft (n : Nat) (x : Option WeftChannel) (s : State) : State :=
  { s with tbm := { s.tbm with wefts := s.tbm.wefts.setIfInBounds (n - 1) x } }

/-- 02 R39. -/
def takeTableWefts (p : List Byte) (s : State) : State :=
  checkedWrite p (weftLengthOk p) (weftChecks p) (writeWeft (tableIndex p) (weftOf p)) s

/-- TABLE_WEFTS (02 R39). -/
def execTableWefts (s : State) : Host.Outcome State Fault Refusal :=
  command (takeFrame (.table .wefts) takeTableWefts) s

/-- 02 R40: write or remove a driver settings record. -/
def writeDriver (i : Nat) (x : Option DriverSettings) (s : State) : State :=
  { s with tbm := { s.tbm with drivers := s.tbm.drivers.setIfInBounds i x } }

/-- 02 R40. -/
def takeTableDrivers (p : List Byte) (s : State) : State :=
  checkedWrite p (driverLengthOk p) (driverChecks p) (writeDriver (tableIndex p) (driverOf p)) s

/-- TABLE_DRIVERS (02 R40). -/
def execTableDrivers (s : State) : Host.Outcome State Fault Refusal :=
  command (takeFrame (.table .drivers) takeTableDrivers) s

/-- TABLE_UNKNOWN (02 R28 check 1): answered UNKNOWN, and nothing changes. -/
def execTableUnknown (s : State) : Host.Outcome State Fault Refusal :=
  command (takeFrame .tableUnknown fun p t => answerTable p .unknown [] t) s

end Sys2Proof.Machine
end

