-- ==== Sys2Proof/Machine/Weft.lean ====
section
/-! DEFINITION. The sensor events of the Weft Monitor: SENSOR_LEVEL_ACQUIRED, ARV_RISE, ARV_FALL, FEEDER_BREAK and
FEEDER_CLEAR (07 R125 to R128). While no machine record is present no level changes (02 R30). -/

namespace Sys2Proof.Machine

/-- Set the accepted level of ARV. -/
def setArv (l : Level) (s : State) : State := { s with wfm := { s.wfm with arv := some l } }

/-- 07 R125: an input not acquired takes its starting level; a feeder line acquired at BREAK is a change to BREAK. -/
def acquireSensor (sensor : Sensor) (l : Level) (s : State) : State :=
  if s.tbm.machine.isSome then
    match sensor with
    | .arv => if s.wfm.arv.isNone then setArv l s else s
    | .feeder f =>
      if (s.wfm.feeders[f]).isNone then
        match l with
        | .high => feederBroken f (setFeeder f l s)
        | .low => setFeeder f l s
      else s
  else s

/-- SENSOR_LEVEL_ACQUIRED (07 R125). -/
def execSensorLevelAcquired (sensor : Sensor) (l : Level) (s : State) (taken : CausesTaken := .every) :
    Host.Outcome State Fault Refusal :=
  causing taken (acquireSensor sensor l) s

/-- 07 R128: a rise of ARV by the window as it stands. -/
def takeRise (s : State) : State :=
  match s.wfm.window, s.wfm.capture with
  | none, _ => countSpurious s
  | some _, some _ => s
  | some _, none =>
    match s.angle with
    | some a => captureArrival a s
    | none => countSpurious s

/-- 07 R128: the accepted level of ARV changes from low to high. -/
def arvRises (s : State) : State :=
  if s.tbm.machine.isSome ∧ s.wfm.arv = some .low then takeRise (setArv .high s) else s

/-- ARV_RISE (07 R128). -/
def execArvRise (s : State) : Host.Outcome State Fault Refusal := command arvRises s

/-- 07 R125: the accepted level of ARV changes from high to low. -/
def arvFalls (s : State) : State :=
  if s.tbm.machine.isSome ∧ s.wfm.arv = some .high then setArv .low s else s

/-- ARV_FALL (07 R125). -/
def execArvFall (s : State) : Host.Outcome State Fault Refusal := command arvFalls s

/-- 07 R126: a feeder line changes from CLEAR to BREAK. -/
def feederBreaks (line : FeederIdx) (s : State) : State :=
  if s.tbm.machine.isSome ∧ s.wfm.feeders[line] = some .low then feederBroken line (setFeeder line .high s) else s

/-- FEEDER_BREAK (07 R126). -/
def execFeederBreak (line : FeederIdx) (s : State) (taken : CausesTaken := .every) :
    Host.Outcome State Fault Refusal :=
  causing taken (feederBreaks line) s

/-- 07 R126: a feeder line changes from BREAK to CLEAR, and posts nothing. -/
def feederClears (line : FeederIdx) (s : State) : State :=
  if s.tbm.machine.isSome ∧ s.wfm.feeders[line] = some .high then setFeeder line .low s else s

/-- FEEDER_CLEAR (07 R126). -/
def execFeederClear (line : FeederIdx) (s : State) : Host.Outcome State Fault Refusal :=
  command (feederClears line) s

end Sys2Proof.Machine
end

