-- ==== Sys2Proof/Machine/Dispatch.lean ====
section
/-! DEFINITION. Which meaning runs a command: one arm for each row of spec/opcode_table.json. -/

namespace Sys2Proof.Machine

/-- The effect of a command on everything but the queue. -/
def exec (i : Instr) (s : State) : Host.Outcome State Fault Refusal :=
  match i with
  | .hardReset => Sys2Proof.Machine.execHardReset s
  | .resetRelease => Sys2Proof.Machine.execResetRelease s
  | .frameStart => Sys2Proof.Machine.execFrameStart s
  | .frameReceived byte stopBit => Sys2Proof.Machine.execFrameReceived byte stopBit s
  | .byteGapTimeout => Sys2Proof.Machine.execByteGapTimeout s
  | .transmitFrameEnd wait => Sys2Proof.Machine.execTransmitFrameEnd s wait
  | .pickFrame => Sys2Proof.Machine.execPickFrame s
  | .tableMachine => Sys2Proof.Machine.execTableMachine s
  | .tableSections => Sys2Proof.Machine.execTableSections s
  | .tableEffects => Sys2Proof.Machine.execTableEffects s
  | .tableWeaves => Sys2Proof.Machine.execTableWeaves s
  | .tableProfiles => Sys2Proof.Machine.execTableProfiles s
  | .tableWefts => Sys2Proof.Machine.execTableWefts s
  | .tableDrivers => Sys2Proof.Machine.execTableDrivers s
  | .tableUnknown => Sys2Proof.Machine.execTableUnknown s
  | .arm => Sys2Proof.Machine.execArm s
  | .disarm => Sys2Proof.Machine.execDisarm s
  | .start taken => Sys2Proof.Machine.execStart s taken
  | .stop taken => Sys2Proof.Machine.execStop s taken
  | .clear => Sys2Proof.Machine.execClear s
  | .flush => Sys2Proof.Machine.execFlush s
  | .home => Sys2Proof.Machine.execHome s
  | .softReset => Sys2Proof.Machine.execSoftReset s
  | .queryRun => Sys2Proof.Machine.execQueryRun s
  | .querySlots => Sys2Proof.Machine.execQuerySlots s
  | .queryTracker => Sys2Proof.Machine.execQueryTracker s
  | .queryModules => Sys2Proof.Machine.execQueryModules s
  | .queryDrivers => Sys2Proof.Machine.execQueryDrivers s
  | .queryCounters => Sys2Proof.Machine.execQueryCounters s
  | .queryUnknown => Sys2Proof.Machine.execQueryUnknown s
  | .offstateTest => Sys2Proof.Machine.execOffstateTest s
  | .clearModuleFlags => Sys2Proof.Machine.execClearModuleFlags s
  | .unknownCommand => Sys2Proof.Machine.execUnknownCommand s
  | .encoderLevelAcquired input level => Sys2Proof.Machine.execEncoderLevelAcquired input level s
  | .encoderStep line elapsed order taken => Sys2Proof.Machine.execEncoderStep line elapsed order s taken
  | .illegalTransition taken => Sys2Proof.Machine.execIllegalTransition s taken
  | .indexPulse taken => Sys2Proof.Machine.execIndexPulse s taken
  | .standstill => Sys2Proof.Machine.execStandstill s
  | .sensorLevelAcquired sensor level taken => Sys2Proof.Machine.execSensorLevelAcquired sensor level s taken
  | .arvRise => Sys2Proof.Machine.execArvRise s
  | .feederBreak line taken => Sys2Proof.Machine.execFeederBreak line s taken
  | .feederClear line => Sys2Proof.Machine.execFeederClear line s
  | .peakLevelReached dc => Sys2Proof.Machine.execPeakLevelReached dc s
  | .holdLevelReached dc => Sys2Proof.Machine.execHoldLevelReached dc s
  | .directLoadReached dc => Sys2Proof.Machine.execDirectLoadReached dc s
  | .chopOffTimeEnd dc current => Sys2Proof.Machine.execChopOffTimeEnd dc current s
  | .blankingEnd dc current => Sys2Proof.Machine.execBlankingEnd dc current s
  | .peakTimeLimitEnd dc taken => Sys2Proof.Machine.execPeakTimeLimitEnd dc s taken
  | .overcurrentRise dc => Sys2Proof.Machine.execOvercurrentRise dc s
  | .overcurrentFall dc => Sys2Proof.Machine.execOvercurrentFall dc s
  | .deglitchEnd dc taken => Sys2Proof.Machine.execDeglitchEnd dc s taken
  | .testEnd current => Sys2Proof.Machine.execTestEnd current s
  | .expansionComplete => Sys2Proof.Machine.execExpansionComplete s
  | .segmentsSent chain => Sys2Proof.Machine.execSegmentsSent chain s
  | .moduleAnswer chain position byte stopBit => Sys2Proof.Machine.execModuleAnswer chain position byte stopBit s
  | .endOfChecking chain taken => Sys2Proof.Machine.execEndOfChecking chain s taken
  | .dlrxByte byte stopBit => Sys2Proof.Machine.execDlrxByte byte stopBit s
  | .arvFall => Sys2Proof.Machine.execArvFall s
  | .enczFall => Sys2Proof.Machine.execEnczFall s

end Sys2Proof.Machine
end

