-- ==== Sys2Proof/Machine/Step.lean ====
section
/-! DEFINITION. One step of the part: the command at the front of the queue of waiting commands is run. -/

namespace Sys2Proof.Machine

/-- The step on an empty queue: nothing falls together with what still waits, so RUN takes the causes waiting and an
IDLE transmitter makes the choice it held back. With nothing waiting the part idles (log 16). -/
def finishWaiting (s : State) : State :=
  if s.resetLine = .low ∨ (s.run.handed = [] ∧ s.dlp.choiceWait = 0) then s
  else kickTransmitter (setChoiceWait 0 (drain { s with lineOut := [] }))

/-- Take the command at the front of the queue and run it with the queue's rest; on an empty queue what waits is
finished. -/
def step (s : State) : Host.Outcome State Fault Refusal :=
  match s.pending with
  | [] => .next (finishWaiting s)
  | c :: rest => exec c { s with pending := rest }

/-- The command a word spells put at the front of the queue; the state unchanged where the word spells none. -/
def State.withFetchWord (s : State) (nbits w : Nat) : State :=
  match decodeTableWord nbits w with
  | none => s
  | some c => { s with pending := c :: s.pending }

end Sys2Proof.Machine
end

