-- ==== Sys2Proof/Safety.lean ====
section
/-! DEFINITION. The words claims are stated in: which blocks a command may change, how the link stands after it,
what a command needs in order to have its effect, and what a sound state of the part is. -/

namespace Sys2Proof.Machine

/-! ### What a command changes -/

/-- The blocks of the part (00 section 3), with the lines a command drives. -/
inductive Block where
  | lines
  | dlp
  | tbm
  | psq
  | shb
  | hci
  | stk
  | asc
  | wfm
  | drv
  | run
  deriving DecidableEq, Repr

/-- From `s` to `t` no block changes but those listed; the queue and RESETn do not. -/
def ChangedOnly (bs : List Block) (s t : State) : Prop :=
  t.pending = s.pending ∧ t.resetLine = s.resetLine ∧
  (Block.lines ∈ bs ∨ t.lineOut = []) ∧
  (Block.dlp ∈ bs ∨ t.dlp = s.dlp) ∧
  (Block.tbm ∈ bs ∨ t.tbm = s.tbm) ∧
  (Block.psq ∈ bs ∨ t.psq = s.psq) ∧
  (Block.shb ∈ bs ∨ t.shb = s.shb) ∧
  (Block.hci ∈ bs ∨ t.hci = s.hci) ∧
  (Block.stk ∈ bs ∨ t.stk = s.stk) ∧
  (Block.asc ∈ bs ∨ t.asc = s.asc) ∧
  (Block.wfm ∈ bs ∨ t.wfm = s.wfm) ∧
  (Block.drv ∈ bs ∨ t.drv = s.drv) ∧
  (Block.run ∈ bs ∨ t.run = s.run)

/-- 10 R183: the DLP after a record is posted. -/
def Dlp.post (e : Event) (d : Dlp) : Dlp :=
  if d.events.length < Config.eventCapacity then { d with events := d.events ++ [e] } else { d with lost := true }

/-- 10 R183: the DLP after several records are posted, in order. -/
def Dlp.posts (es : List Event) (d : Dlp) : Dlp := es.foldl (fun x e => x.post e) d

/-- 10 R184: the command leaves the DLP as `d`, and an IDLE transmitter then begins its next frame, with the header
of the state left, unless it holds its choice back for a later command's end (log 11). -/
def LinkLeft (d : Dlp) (t : State) : Prop := t.dlp = (kickTransmitter { t with dlp := d }).dlp

/-! ### When a command has its effect -/

/-- RESETn is high: the part samples and receives (11 R199). -/
abbrev State.Ready (s : State) : Prop := s.resetLine = .high

/-- Ready, and no cause waits for RUN. -/
abbrev State.Quiet (s : State) : Prop := s.Ready ∧ s.run.handed = []

/-- RUN takes no cause that waited before the command: none is named, or none waits. -/
abbrev NoneTaken (taken : CausesTaken) (s : State) : Prop := taken = .only [] ∨ s.run.handed = []

/-- 10 R183, with the transmitter busy: the record has joined the queue, or was lost with the queue full. -/
def Posted (e : Event) (t : State) : Prop := e ∈ t.dlp.events ∨ (t.dlp.lost = true ∧ 32 ≤ t.dlp.events.length)

/-- The kind of frame a row takes (10 R181). -/
def FrameRow.kind : FrameRow → FrameKind
  | .pick => .pick
  | .table _ => .table
  | .tableUnknown => .table
  | _ => .command

/-- 10 R181: `payload` is that of the head frame of the receive buffer, which its row can take; `rest` are the frames
behind it. -/
abbrev Taking (row : FrameRow) (payload : List Byte) (rest : List RxFrame) (s : State) : Prop :=
  s.Ready ∧ s.dlp.held = { kind := row.kind, payload := payload } :: rest ∧
    rowOf { kind := row.kind, payload := payload } = row ∧ (row = .pick ∨ s.dlp.answer = none)

/-- The DLP as taking the head frame leaves it, with its answer. -/
def Dlp.taken (d : Dlp) (rest : List RxFrame) (a : Answer) : Dlp := { d with held := rest, answer := some a }

/-- The answer of a COMMAND frame. -/
def commandAnswer (code : Nat) (r : Result) (data : List Byte) : Answer :=
  { kind := .command, code := BitVec.ofNat 8 code, result := r, data := data }

/-! ### Answers -/

/-- The OK answer of a table write. -/
def tableOk (p : List Byte) (epoch : Word16) : Answer :=
  { kind := .table, code := p.getD 0 0, result := .ok, data := enc16 (tableIndex p) ++ encWord epoch }

/-- What an accepted pattern write of SECTIONS, EFFECTS or WEAVES leaves (02 R35): the table written and the epoch one
on, both buffers EMPTY, every chain IDLE, the tag STALE unless NONE. -/
def PatternWritten (c : Instr) (tables : Tbm) (p : List Byte) (rest : List RxFrame) (s : State) : Prop :=
  ∃ t, exec c s = .next t ∧ ChangedOnly [.dlp, .tbm, .shb, .hci] s t ∧
    t.tbm = { tables with epoch := s.tbm.epoch + 1 } ∧
    t.shb = { buffer0 := .empty, buffer1 := .empty, target := none } ∧
    (∀ k : ChainIdx, t.hci.chains[k] = { s.hci.chains[k] with phase := .idle }) ∧
    t.hci.tag = { s.hci.tag with stale := s.hci.tag.stale || s.hci.tag.ordinal.isSome } ∧ t.hci.required = none ∧
    LinkLeft (s.dlp.taken rest (tableOk p (s.tbm.epoch + 1))) t

/-- The command that takes a TABLE frame for a table. -/
def tableCommand : TableId → Instr
  | .machine => .tableMachine
  | .sections => .tableSections
  | .effects => .tableEffects
  | .weaves => .tableWeaves
  | .profiles => .tableProfiles
  | .wefts => .tableWefts
  | .drivers => .tableDrivers

/-- The pattern tables (02 R27). -/
def isPattern : TableId → Bool
  | .machine => true
  | .sections => true
  | .effects => true
  | .weaves => true
  | .profiles => false
  | .wefts => false
  | .drivers => false

/-- The length check of a table (02 R28 check 3). -/
def tableLengthOk (p : List Byte) : TableId → Bool
  | .machine => machineLengthOk p
  | .sections => sectionLengthOk p
  | .effects => presenceLengthOk 6 p
  | .weaves => weaveLengthOk p
  | .profiles => profileLengthOk p
  | .wefts => weftLengthOk p
  | .drivers => driverLengthOk p

/-- The field checks of a table (02 R28 check 4), for an arming limit. -/
def tableChecks (limit : Nat) (p : List Byte) : TableId → List FieldCheck
  | .machine => machineChecks p
  | .sections => sectionChecks p
  | .effects => effectChecks p
  | .weaves => weaveChecks p
  | .profiles => profileChecks limit p
  | .wefts => weftChecks p
  | .drivers => driverChecks p

/-- A command that is answered, with nothing else changed. -/
def Answered (c : Instr) (a : Answer) (rest : List RxFrame) (s : State) : Prop :=
  ∃ t, exec c s = .next t ∧ ChangedOnly [.dlp] s t ∧ LinkLeft (s.dlp.taken rest a) t

/-- What no event of the loom changes: the tables, the receive side of the link and its answer slot, and the accepted
levels of the sensors. -/
def Undisturbed (s t : State) : Prop :=
  t.pending = s.pending ∧ t.resetLine = s.resetLine ∧ t.tbm = s.tbm ∧ t.dlp.receiver = s.dlp.receiver ∧
  t.dlp.held = s.dlp.held ∧ t.dlp.answer = s.dlp.answer ∧ t.dlp.linkErrors = s.dlp.linkErrors ∧
  t.wfm.arv = s.wfm.arv ∧ t.wfm.feeders = s.wfm.feeders

/-! ### Validation at ARM, and arming -/

/-- No record of the weave table at an index. -/
def Tbm.NoWeave (t : Tbm) (w : Nat) : Prop := ∀ x, t.weaves[w]? ≠ some (some x)

/-- 02 R42, checks 2 to 8: the check fails at a record index. -/
def ArmFault (t : Tbm) (m : MachineRecord) : Nat → Nat → Prop
  | 2, i => ∃ x, t.sections[i]? = some (some x) ∧ m.hooks < x.first + x.count
  | 3, i =>
    ∃ x j y, t.sections[i]? = some (some x) ∧ j < i ∧ t.sections[j]? = some (some y) ∧
      x.first < y.first + y.count ∧ y.first < x.first + x.count
  | 4, i =>
    ∃ x origin span layout direction, t.sections[i]? = some (some x) ∧
      x.kind = .figure origin span layout direction ∧ (m.width ≤ origin ∨ m.width < span)
  | 5, i => ∃ x w a b, t.sections[i]? = some (some x) ∧ x.kind = .selvedge w a b ∧ t.NoWeave w
  | 6, i =>
    t.effects[i]? = some none ∧
      ∃ (j : Nat) (x : HarnessSection) (origin span : Nat) (layout : Layout) (direction : ColumnDir),
        t.sections[j]? = some (some x) ∧ x.kind = .figure origin span layout direction
  | 7, i => ∃ w a b invert, t.effects[i]? = some (some (.weave w a b invert)) ∧ t.NoWeave w
  | 8, i =>
    ∃ x, t.profiles[i]? = some (some x) ∧
      ((∃ y ∈ x.actions, y.angle < m.armLimit) ∨ x.windowOpen < m.armLimit ∨ x.windowClose < m.armLimit)
  | _, _ => False

/-- 02 R42: the table id a failure of a check names (10 R195: SECTIONS 2, EFFECTS 3, PROFILES 5). -/
def armFaultTable (check : Nat) : Nat := if check ≤ 5 then 2 else if check ≤ 7 then 3 else 5

/-- 06 R106, R108 to R111: the armed part of pick `o`, woven with channel `w` by profile `p`, for the advances in
force: each action reaches SELECTOR's or its own channel, has the latency of that channel's settings, 0 without a
record, and is moved ahead by its advance, clipped to 0 and to the highest crossed angle; the settings of every
channel reached are copied; the window angles are clipped to the highest crossed angle. -/
def ArmedFrom (t : Tbm) (m : MachineRecord) (advance : Nat → Nat) (o : Ordinal) (w : WeftChannel) (p : Profile)
    (a : ArmedPart) : Prop :=
  a.ordinal = o ∧ a.weft = w ∧ a.windowOpen = min p.windowOpen m.highestAngle ∧
  a.windowClose = min p.windowClose m.highestAngle ∧ a.actions.length = p.actions.length ∧
  (∀ (i : Nat) (x : ProfileAction) (y : ArmedAction), p.actions[i]? = some x → a.actions[i]? = some y →
    y.switching = x.switching ∧ (y.viaSelector = true ↔ x.target = .selector) ∧
    y.channel = (match x.target with | .selector => w.selector | .channel dc => dc) ∧ y.nominal = x.angle ∧
    y.latency = (match t.drivers[y.channel] with | none => 0 | some d => d.latency) ∧
    y.advance = advance y.latency ∧ (x.angle ≤ y.advance → y.effective = 0) ∧
    (y.advance ≤ x.angle → y.effective = min (x.angle - y.advance) m.highestAngle)) ∧
  (∀ c : SettingsCopy, c ∈ a.copies ↔
    c.settings = t.drivers[c.channel] ∧ ∃ y ∈ a.actions, y.channel = c.channel) ∧
  (a.clipped = true ↔ ∃ y ∈ a.actions, y.nominal < y.advance)

/-! ### Steps of the shaft and faults of the channels -/

/-- The pairs of (ENCA, ENCB) before and after a forward step (05 R88). -/
def forwardPairs : List ((Level × Level) × (Level × Level)) :=
  [((.low, .low), (.high, .low)), ((.high, .low), (.high, .high)), ((.high, .high), (.low, .high)),
   ((.low, .high), (.low, .low))]

/-- The encoder stands HOMED on a machine record, and a change of `line` is a step in direction `dir`. -/
abbrev StepReady (m : MachineRecord) (line : EncLine) (dir : Direction) (s : State) : Prop :=
  s.Ready ∧ s.tbm.machine = some m ∧ s.stk.homing = .homed ∧ s.stk.position < m.counts ∧
    (s.stk.encA.bind fun a => s.stk.encB.map fun b => stepDirection line a b) = some dir

/-- The command at which a fault of a kind is found, and whether its timer is running (08 R146, R147). -/
def faultCommand (dc : DriverIdx) (taken : CausesTaken) : DriverFaultKind → Instr
  | .overcurrent => .deglitchEnd dc taken
  | .openLoad => .peakTimeLimitEnd dc taken

/-- The timer of a fault kind. -/
def DriverChannel.timerOf (c : DriverChannel) : DriverFaultKind → Option Nat
  | .overcurrent => c.deglitchTimer
  | .openLoad => c.peakTimer

/-- The channel with the timer of a fault kind run out. -/
def DriverChannel.timerOut (c : DriverChannel) : DriverFaultKind → DriverChannel
  | .overcurrent => { c with deglitchTimer := none }
  | .openLoad => { c with peakTimer := none }

/-! ### Sound states of the part -/

/-- Each ordinal is one more than the one before it (01 R8). -/
def consecutive : List Ordinal → Bool
  | [] => true
  | [_] => true
  | a :: b :: rest => b = a + 1 && consecutive (b :: rest)

/-- 01 R8: the ordinals of the run are consecutive, and the expected ordinal follows the last. -/
def Psq.inOrder (p : Psq) : Bool :=
  consecutive (p.runRecords.map PickRecord.ordinal) &&
    match p.runRecords.getLast? with
    | none => true
    | some r => p.expected = r.ordinal + 1

/-- 01 R9, R13, R14, R18: the bounds of the collections, and which of them stand empty together. -/
def Psq.bounded (p : Psq) : Bool :=
  p.history.length + p.replay.length ≤ Config.historyCapacity && p.queue.length ≤ Config.pqCapacity
    && p.depth ≤ 255 && (p.depth = 0 || p.history.isEmpty) && (p.current.isSome || p.history.isEmpty)
    && (p.nextPick.isSome || (p.replay.isEmpty && p.queue.isEmpty))

/-- 01 R1: the fault cause is present exactly when the state is FAULTED, and the weave count is at most 255. -/
def PickRecord.sound (r : PickRecord) : Bool := decide (r.cause.isSome = decide (r.state = .faulted)) && r.weaveCount ≤ 255

/-- 01 R1, R4: NEXT, RL and PQ hold PENDING records, PH holds INSERTED, FAULTED and UNWOVEN ones, so that ARMED is a
state of CURRENT alone, and every record is sound. -/
def Psq.placed (p : Psq) : Bool :=
  (p.nextPick.toList ++ p.replay ++ p.queue).all (fun r => r.state = .pending)
    && p.history.all (fun r => r.state != .pending && r.state != .armed) && p.runRecords.all PickRecord.sound

/-- 02 R29: what the write checks of a machine record establish for the other blocks. -/
def MachineRecord.valid (m : MachineRecord) : Bool :=
  720 ≤ m.counts && m.counts ≤ 16384 && m.offset < m.counts && 1800 ≤ m.latchAngle && m.latchAngle ≤ 3500
    && m.armLimit ≤ 900

/-- 05 R88: p lies on the scale of the machine record, and stands at 0 with none. -/
def State.onScale (s : State) : Bool :=
  match s.tbm.machine with
  | none => s.stk.position = 0
  | some m => m.valid && s.stk.position < m.counts

/-- 02 R37, R38: every present profile has a window that opens below its closing, and outside OFFLINE no angle of one
lies below the arming limit of the machine record, which is then present. -/
def State.profilesSound (s : State) : Bool :=
  s.tbm.profiles.toList.all (fun x =>
    match x with
    | none => true
    | some p =>
      p.windowOpen < p.windowClose &&
        (s.run.state = .offline ||
          (p.actions.all (fun y => s.armLimit ≤ y.angle) && s.armLimit ≤ p.windowOpen && s.armLimit ≤ p.windowClose)))
    && (s.run.state = .offline || s.tbm.machine.isSome)

/-- 06 R116, 07 R127, R129: what an armed part and its window have to do with each other. Until the closing is handed,
the window is open exactly when the opening is handed, and the shaft has not passed an angle that is not yet handed;
from then on the window is closed and the pick is judged. -/
def State.windowSound (s : State) (a : ArmedPart) : Bool :=
  if a.closeHanded then s.wfm.window.isNone && !s.currentArmed
  else
    decide (a.openHanded = s.wfm.window.isSome) && a.windowOpen ≤ a.windowClose && a.windowClose ≤ s.highestAngle
      && (s.stk.homing != .homed || (s.countAngle < a.windowClose && (a.openHanded || s.countAngle < a.windowOpen)))

/-- 01 R4, R5, 02 R37, R38, 06 R106, R116: what keeps an ARMED record in CURRENT: the profiles are sound, no WEAVING
part is HOMING, an armed part belongs to WEAVING and to a CURRENT, and without one no window is open and CURRENT is not
ARMED. -/
def State.insertionSound (s : State) : Bool :=
  s.profilesSound && (s.run.state != .weaving || s.stk.homing != .homing)
    && (match s.armedPart with
      | none => s.wfm.window.isNone && !s.currentArmed
      | some a => s.run.state = .weaving && s.psq.current.isSome && s.windowSound a)

/-- 05 R99, R100, R102: the counts and timers of the tracker stay in their ranges, and T_rev is known only while the
revolution timer runs. -/
def Stk.ranged (k : Stk) : Bool :=
  k.netTravel.natAbs ≤ 32767 && k.reverseCount ≤ 256 && k.illegalCount ≤ max16
    && (match k.revTime with | none => true | some t => t ≤ maxRevTime)
    && (k.revTime.isNone || k.revTimer.isSome) && decide (k.standstillTimer.isSome = decide (k.motion = .moving))

/-- 09 R160: RUN PERMIT is asserted exactly while the run state is WEAVING. -/
def Run.permitted (r : Run) : Bool := decide (r.permit = decide (r.state = .weaving))

/-- 06 R106: an armed part belongs to WEAVING. -/
def State.armedInWeaving (s : State) : Bool := s.armedPart.isNone || s.run.state = .weaving

/-- 08 R140, R152: no channel is driving outside WEAVING. -/
def State.drivenInWeaving (s : State) : Bool :=
  s.run.state = .weaving || s.drv.channels.toList.all fun c => !c.phase.driving

/-- 08 R140, R141: a channel is driving exactly when it has settings in use, BLOCKED exactly when it has a block kind. -/
def DriverChannel.sound (c : DriverChannel) : Bool :=
  decide (c.phase.driving = c.inUse.isSome) && decide (decide (c.phase = .blocked) = c.block.isSome)
    && c.faultCount ≤ 255

/-- 08 R154, 09 R164: the channel under test is the one in TESTING, and no test runs in WEAVING or STOPPING. -/
def State.testSound (s : State) : Bool :=
  (driverList.all fun dc =>
    decide (decide ((s.drv.channels[dc]).phase = .testing) = decide (s.drv.test.map OffTest.channel = some dc)))
    && (s.drv.test.isNone || (s.run.state != .weaving && s.run.state != .stopping))

/-- 10 R180, R183: the receive buffer has two places and the event queue 32. -/
def Dlp.bounded (d : Dlp) : Bool :=
  d.usedPlaces ≤ Config.rxPlaces && d.events.length ≤ Config.eventCapacity && d.linkErrors ≤ max16

/-- 03 R54, R55: the preparation target is the one the inputs give. -/
def State.targetInForce (s : State) : Bool := decide (s.shb.target = s.newTarget)

/-- 04 R76: the required pick is the one the angle gives. -/
def State.requiredInForce (s : State) : Bool := decide (s.hci.required = s.newRequired)

/-- The epoch of a FILLING or HELD buffer. -/
def Buffer.epoch? : Buffer → Option Word16
  | .empty => none
  | .filling _ e _ _ => some e
  | .held _ e _ => some e

/-- 02 R35, 03 R53, R56: a buffer is of the epoch in force, and a FILLING one is the target's. -/
def State.bufferSound (s : State) (b : Buffer) : Bool :=
  (b.epoch? = none || b.epoch? = some s.tbm.epoch) && (!b.isFilling || b.ordinal? = s.shb.target)

/-- 04 R65, R67: a chain shifts and checks for the target alone. -/
def ChainPhase.serves (target : Option Ordinal) : ChainPhase → Bool
  | .idle => true
  | .shifting o => target = some o
  | .checking o _ => target = some o
  | .ready _ _ => true

/-- 03 R53, 04 R65: the buffers are sound, at most one is FILLING, their ordinals are distinct, and the chains serve the
target. -/
def State.imagesSound (s : State) : Bool :=
  s.bufferSound s.shb.buffer0 && s.bufferSound s.shb.buffer1
    && !(s.shb.buffer0.isFilling && s.shb.buffer1.isFilling)
    && (s.shb.buffer0.ordinal?.isNone || s.shb.buffer0.ordinal? != s.shb.buffer1.ordinal?)
    && (chainList.all fun k => (s.hci.chains[k]).phase.serves s.shb.target)

end Sys2Proof.Machine
end

