-- ==== Sys2Proof/Certificates/Slice0/Obligations.lean ====
section
/-! DEFINITION. The statements for the provers. Each docstring names the rules of spec/ it comes from, and the log
entry where a clause is the model's choice. `LinkLeft d t` says how the Design Link Port stands: as `d`, after which
an IDLE transmitter has begun its next frame (10 R184, log 11). `taken` are the causes RUN takes as a command ends
(09 R173, log 6): `.only []` leaves them waiting, `NoneTaken taken s` says that none that waited before is taken. -/

open Sys2Proof Sys2Proof.Machine

/-! ### The queue, and the reset line -/

/-- A step takes the command at the front of the queue and runs it with the queue's rest. -/
def Obligations.StepRunsTheFrontCommand : Prop :=
  ∀ (c : Instr) (rest : List Instr) (s : State),
    step { s with pending := c :: rest } = exec c { s with pending := rest }

/-- No command faults or refuses, and none touches the queue (10 R185: a bad command is answered). With no command, no
cause and no choice waiting, or with RESETn low, an empty queue idles: the model's choice, log 16. -/
def Obligations.EveryStepAnswersANextState : Prop :=
  (∀ (c : Instr) (s : State), ∃ t, exec c s = .next t ∧ t.pending = s.pending) ∧
  (∀ s : State, s.pending = [] → s.resetLine = .low ∨ (s.run.handed = [] ∧ s.dlp.choiceWait = 0) → step s = .next s)

/-- An empty queue with causes waiting (09 R167 to R171): RUN takes them. A stop cause ends WEAVING in STOPPING, or on
in STOPPED at standstill, and is a later cause elsewhere; a halting cause halts STOPPED, WEAVING and STOPPING, keeping
the first stop cause, and is a later cause elsewhere. Of two causes waiting the one handed second may be taken first
(R173): of two stop causes it becomes the first stop cause and the other a later one; after a stop cause a halting
cause halts from STOPPING. That the empty queue takes them, and the operand that names them, are logs 16 and 6. -/
def Obligations.WaitingCausesAreTaken : Prop :=
  (∀ (s : State) (c : StopCause), s.pending = [] → s.Ready → s.run.handed = [.stop c] →
    let link : Dlp := { s.dlp with choiceWait := 0 }
    ∃ t, step s = .next t ∧ Undisturbed s t ∧ t.stk = s.stk ∧
      (s.run.state ≠ .weaving →
        ChangedOnly [.dlp, .run] s t ∧ t.run = { s.run with handed := [], lastLater := some (.stop c) } ∧
        LinkLeft
          (link.post (.runState s.run.state s.run.state s.run.firstStop s.run.haltCause (some (.stop c)))) t) ∧
      (s.run.state = .weaving →
        t.psq = { s.psq with current := s.psq.current.map PickRecord.interrupt } ∧ t.armedPart = none ∧
        t.wfm = { s.wfm with window := none, capture := none, watch := none } ∧ t.hci.required = t.newRequired ∧
        (∀ dc : DriverIdx, t.drv.channels[dc] = (s.drv.channels[dc]).switchedOff) ∧ t.drv.test = s.drv.test ∧
        (s.stk.motion = .moving →
          t.run = { s.run with handed := [], state := .stopping, permit := false, firstStop := some c } ∧
          LinkLeft (link.post (.runState .stopping .weaving (some c) s.run.haltCause none)) t) ∧
        (s.stk.motion = .standstill →
          t.run = { s.run with handed := [], state := .stopped, permit := false, firstStop := some c } ∧
          LinkLeft
            (link.posts
              [ .runState .stopping .weaving (some c) s.run.haltCause none,
                .runState .stopped .stopping (some c) s.run.haltCause none ]) t))) ∧
  (∀ (s : State) (c : HaltCause), s.pending = [] → s.Ready → s.run.handed = [.halt c] →
    let link : Dlp := { s.dlp with choiceWait := 0 }
    ∃ t, step s = .next t ∧ Undisturbed s t ∧ t.stk = s.stk ∧
      (s.run.state = .offline ∨ s.run.state = .halted →
        ChangedOnly [.dlp, .run] s t ∧ t.run = { s.run with handed := [], lastLater := some (.halt c) } ∧
        LinkLeft
          (link.post (.runState s.run.state s.run.state s.run.firstStop s.run.haltCause (some (.halt c)))) t) ∧
      (s.run.state ≠ .offline → s.run.state ≠ .halted →
        t.run = { s.run with handed := [], state := .halted, permit := false, haltCause := some c } ∧
        t.shb.target = none ∧ t.hci.required = none ∧ t.hci.tag = s.hci.tag ∧
        (s.run.state = .weaving →
          t.psq = { s.psq with current := s.psq.current.map PickRecord.interrupt } ∧ t.armedPart = none ∧
          t.wfm = { s.wfm with window := none, capture := none, watch := none }) ∧
        (s.run.state ≠ .weaving → t.psq = s.psq ∧ t.asc = s.asc ∧ t.wfm = s.wfm) ∧
        (∀ dc : DriverIdx, t.drv.channels[dc] = (s.drv.channels[dc]).switchedOff) ∧ t.drv.test = s.drv.test ∧
        LinkLeft (link.post (.runState .halted s.run.state s.run.firstStop (some c) none)) t)) ∧
  (∀ (s : State) (dc : DriverIdx) (first second : Cause), s.Ready → (s.drv.channels[dc]).phase.driving = false →
    s.run.state = .weaving → s.stk.motion = .moving → s.run.handed = [first, second] →
    ∃ t, exec (.deglitchEnd dc (.only [1, 0])) s = .next t ∧
      (∀ a b, first = .stop a → second = .stop b →
        t.run =
          { s.run with
            handed := [], state := .stopping, permit := false, firstStop := some b, lastLater := some (.stop a) } ∧
        LinkLeft
          (s.dlp.posts
            [ .runState .stopping .weaving (some b) s.run.haltCause none,
              .runState .stopping .stopping (some b) s.run.haltCause (some (.stop a)) ]) t) ∧
      (∀ a b, first = .halt a → second = .stop b →
        t.run =
          { s.run with
            handed := [], state := .halted, permit := false, firstStop := some b, haltCause := some a } ∧
        LinkLeft
          (s.dlp.posts
            [ .runState .stopping .weaving (some b) s.run.haltCause none,
              .runState .halted .stopping (some b) (some a) none ]) t))

/-- HARD_RESET (11 R199): every block takes the values its chapter gives (01 R25, 02 R44, 03 R62, 04 R85, 05 R104,
06 R122, 07 R138, 08 R157, 09 R175, 10 R189). That RESETn is then low and no line is driven is log 1 and log 5; the
model's own list of causes waiting and held-back choice are empty (logs 6 and 11). -/
def Obligations.HardResetValues : Prop :=
  ∀ s : State, ∃ t, exec .hardReset s = .next t ∧ t.pending = s.pending ∧ t.resetLine = .low ∧ t.lineOut = [] ∧
    t.psq.queue = [] ∧ t.psq.replay = [] ∧ t.psq.history = [] ∧ t.psq.nextPick = none ∧ t.psq.current = none ∧
    t.psq.expected = 0 ∧ t.psq.depth = 0 ∧ t.psq.warningReady = false ∧ t.psq.picksEntered = 0 ∧ t.psq.dwells = 0 ∧
    t.tbm.machine = none ∧ (∀ i : Fin 64, t.tbm.sections[i] = none) ∧ (∀ i : Fin 16, t.tbm.effects[i] = none) ∧
    (∀ i : Fin 32, t.tbm.weaves[i] = none) ∧ (∀ i : Fin 8, t.tbm.profiles[i] = none) ∧
    (∀ i : Fin 12, t.tbm.wefts[i] = none) ∧ (∀ i : Fin 20, t.tbm.drivers[i] = none) ∧ t.tbm.epoch = 0 ∧
    t.shb.buffer0 = .empty ∧ t.shb.buffer1 = .empty ∧ t.shb.target = none ∧
    (∀ k : ChainIdx, (t.hci.chains[k]).phase = .idle ∧ (t.hci.chains[k]).lengthFlag = false ∧
      (t.hci.chains[k]).entries = []) ∧
    t.hci.tag.ordinal = none ∧ t.hci.tag.stale = false ∧ t.hci.tag.degraded = false ∧
    t.stk.encA = none ∧ t.stk.encB = none ∧ t.stk.encZ = none ∧ t.stk.position = 0 ∧ t.stk.homing = .unhomed ∧
    t.stk.direction = .forward ∧ t.stk.motion = .standstill ∧ t.stk.standstillTimer = none ∧ t.stk.revTime = none ∧
    t.stk.revTimer = none ∧ t.stk.lastDeviation = none ∧ t.stk.largestDeviation = none ∧ t.stk.netTravel = 0 ∧
    t.stk.reverseCount = 0 ∧ t.stk.illegalCount = 0 ∧ t.asc.snapshot = none ∧
    t.wfm.arv = none ∧ (∀ f : FeederIdx, t.wfm.feeders[f] = none) ∧ t.wfm.window = none ∧ t.wfm.capture = none ∧
    t.wfm.watch = none ∧ t.wfm.spurious = 0 ∧ t.wfm.weftFaults = 0 ∧
    (∀ dc : DriverIdx, (t.drv.channels[dc]).phase = .idle ∧ (t.drv.channels[dc]).block = none ∧
      (t.drv.channels[dc]).inUse = none ∧ (t.drv.channels[dc]).flagOvercurrent = false ∧
      (t.drv.channels[dc]).flagOpenLoad = false ∧ (t.drv.channels[dc]).faultCount = 0 ∧
      (t.drv.channels[dc]).lastTest = .none) ∧ t.drv.test = none ∧
    t.run.state = .offline ∧ t.run.permit = false ∧ t.run.firstStop = none ∧ t.run.haltCause = none ∧
    t.run.lastLater = none ∧
    t.dlp.held = [] ∧ t.dlp.receiver = .closed ∧ t.dlp.answer = none ∧ t.dlp.events = [] ∧ t.dlp.lost = false ∧
    t.dlp.linkErrors = 0 ∧ t.dlp.transmitter = none ∧ t.run.handed = [] ∧ t.dlp.choiceWait = 0

/-- RESET_RELEASE (11 R200): the first frame is the RUN_STATE record with OFFLINE from OFFLINE, no causes, header
OFFLINE and PQ free space 32, lost flag clear (layout 10 R191, R196, R197); the receiver is CLOSED. With RESETn already
high the command is no event (log 4). While RESETn is low nothing is sampled or received (11 R199): no command has an
effect but the two of the line. -/
def Obligations.ResetReleaseStartsThePart : Prop :=
  (∀ s : State,
      (s.resetLine = .low →
        let checked : List Byte := [130, 0, 32, 0, 13, 3, 0, 0, 0, 0, 0, 0, 0, 0, 0, 0, 0, 0]
        ∃ t, exec .resetRelease s = .next t ∧
          t = { State.reset with
                pending := s.pending
                resetLine := .high
                dlp :=
                  { Dlp.hardReset with
                    transmitter :=
                      some { kind := .event, bytes := (0xC5 : Byte) :: checked ++ encWord (crc16 checked)
                             beforeReset := false } } }) ∧
      (s.resetLine = .high → exec .resetRelease s = .next { s with lineOut := [] })) ∧
  (∀ (c : Instr) (s : State), s.resetLine = .low → c ≠ .hardReset → c ≠ .resetRelease → exec c s = .next s)

/-! ### The design link -/

/-- FRAME_START in HUNT (10 R177, R180): a free place begins to fill, or the frame is an overrun, counted and reported
with no frame kind. FRAME_RECEIVED (10 R178, R179): the last check byte arrives; `bytes` is the frame from its kind
byte to its last check byte: a CHECK error, a FRAMING error of an unknown kind, or a complete frame held. -/
def Obligations.FramesBeginAndAreJudged : Prop :=
  (∀ s : State, s.Ready → s.dlp.receiver = .hunt →
      ∃ t, exec .frameStart s = .next t ∧ ChangedOnly [.dlp] s t ∧
        (s.dlp.held.length < 2 → LinkLeft { s.dlp with receiver := .receiving [] } t) ∧
        (2 ≤ s.dlp.held.length →
          LinkLeft
            (({ s.dlp with receiver := .passingOver 0 0, linkErrors := satInc 65535 s.dlp.linkErrors } : Dlp).post
              (.linkError .overrun none (satInc 65535 s.dlp.linkErrors))) t)) ∧
  (∀ (s : State) (before : List Byte) (last : Byte),
      let bytes := before ++ [last]
      let checked := bytes.take (bytes.length - 2)
      let ended : Dlp := { s.dlp with receiver := .hunt }
      let errors := satInc 65535 s.dlp.linkErrors
      s.Ready → s.dlp.receiver = .receiving before → 3 ≤ bytes.length → headerLength bytes ≤ 1040 →
      bytes.length = headerLength bytes + 5 →
      ∃ t, exec (.frameReceived last .high) s = .next t ∧ ChangedOnly [.dlp] s t ∧
        (encWord (crc16 checked) ≠ bytes.drop (bytes.length - 2) →
          LinkLeft (({ ended with linkErrors := errors } : Dlp).post (.linkError .check bytes.head? errors)) t) ∧
        (encWord (crc16 checked) = bytes.drop (bytes.length - 2) →
          (∀ k : FrameKind, (bytes.getD 0 0).toNat = k.code →
            LinkLeft { ended with held := s.dlp.held ++ [{ kind := k, payload := checked.drop 3 }] } t) ∧
          ((∀ k : FrameKind, (bytes.getD 0 0).toNat ≠ k.code) →
            LinkLeft (({ ended with linkErrors := errors } : Dlp).post (.linkError .framing bytes.head? errors)) t)))

/-- DLRX_BYTE and BYTE_GAP_TIMEOUT (10 R177, R179, R180, R188, header layout R191). In CLOSED a byte has no effect; in
HUNT one that is no good start byte is discarded. In RECEIVING a header or payload byte is collected, a length field
above 1,040 and a low stop bit are FRAMING errors, and a gap discards the frame. In PASSING_OVER header, payload and
check bytes go by by the length field, and a bad stop bit, a length above 1,040 or a gap ends it, all with no report.
That a first byte with a low stop bit counts as the frame's kind byte in LINK_ERROR is the model's reading of R179,
log 8. -/
def Obligations.BytesAreCollectedAndGapsDiscard : Prop :=
  ∀ (s : State) (b : Byte), s.Ready →
    let leaves (c : Instr) (d : Dlp) := ∃ t, exec c s = .next t ∧ ChangedOnly [.dlp] s t ∧ LinkLeft d t
    (s.dlp.receiver = .closed → ∀ l : Level, leaves (.dlrxByte b l) s.dlp) ∧
    (s.dlp.receiver = .hunt → ∀ l : Level, ¬(b = 0xC5 ∧ l = .high) → leaves (.dlrxByte b l) s.dlp) ∧
    (∀ bytes : List Byte, s.dlp.receiver = .receiving bytes →
      let all := bytes ++ [b]
      let length := 256 * (all.getD 1 0).toNat + (all.getD 2 0).toNat
      let errors := satInc 65535 s.dlp.linkErrors
      let ended : Dlp := { s.dlp with receiver := .hunt, linkErrors := errors }
      (all.length < 3 ∨ (length ≤ 1040 ∧ all.length ≠ length + 5) →
        leaves (.dlrxByte b .high) { s.dlp with receiver := .receiving all }) ∧
      (3 ≤ all.length → 1040 < length →
        leaves (.dlrxByte b .high) (ended.post (.linkError .framing all.head? errors))) ∧
      leaves (.dlrxByte b .low) (ended.post (.linkError .framing all.head? errors)) ∧
      leaves .byteGapTimeout (ended.post (.linkError .framing bytes.head? errors))) ∧
    (∀ seen length : Nat, s.dlp.receiver = .passingOver seen length →
      let read := if seen = 1 then 256 * b.toNat else if seen = 2 then length + b.toNat else length
      let ends := (seen = 2 ∧ 1040 < read) ∨ (2 ≤ seen ∧ seen + 1 = read + 5)
      (¬ends → leaves (.dlrxByte b .high) { s.dlp with receiver := .passingOver (seen + 1) read }) ∧
      (ends → leaves (.dlrxByte b .high) { s.dlp with receiver := .hunt }) ∧
      leaves (.dlrxByte b .low) { s.dlp with receiver := .hunt } ∧
      leaves .byteGapTimeout { s.dlp with receiver := .hunt })

/-- TRANSMIT_FRAME_END (10 R182 to R184, R188, frame layout R178, R191): the end of an ANSWER frame empties the slot;
the end of the first EVENT frame begun after a reset opens the receiver; a frame begun before a SOFT_RESET does
neither. At the end of the command the transmitter begins the answer waiting, else the oldest event, with the lost flag
then clear, else nothing. With `wait` above 0 it holds that choice back for so many commands, so that an answer slot
filled meanwhile goes first (log 11). -/
def Obligations.TransmitFrameEndEmptiesOrOpens : Prop :=
  (∀ (s : State) (f : TxFrame) (wait : Nat), s.Ready → s.dlp.transmitter = some f →
    let emptied : Dlp := { s.dlp with transmitter := none, choiceWait := 0 }
    let ended : Dlp :=
      if f.beforeReset then emptied
      else
        match f.kind with
        | .answer => { emptied with answer := none }
        | .event => { emptied with receiver := if s.dlp.receiver = .closed then .hunt else s.dlp.receiver }
    let sent (kind : TxKind) (code : Byte) (payload : List Byte) : TxFrame :=
      let checked : List Byte :=
        [code, BitVec.ofNat 8 s.run.state.code, BitVec.ofNat 8 (32 - s.psq.queue.length)] ++ enc16 payload.length
          ++ payload
      { kind := kind, bytes := 0xC5 :: checked ++ encWord (crc16 checked), beforeReset := false }
    ∃ t, exec (.transmitFrameEnd wait) s = .next t ∧ ChangedOnly [.dlp] s t ∧
      (0 < wait → t.dlp = { ended with choiceWait := wait }) ∧
      (wait = 0 →
        (∀ a, ended.answer = some a → t.dlp = { ended with transmitter := some (sent .answer 129 a.payload) }) ∧
        (∀ e rest, ended.answer = none → ended.events = e :: rest →
          t.dlp =
            { ended with
              events := rest, lost := false, transmitter := some (sent .event 130 (e.payload s.dlp.lost)) }) ∧
        (ended.answer = none → ended.events = [] → t.dlp = ended))) ∧
  (∀ (s : State) (p : List Byte) (rest : List RxFrame), Taking .queryCounters p rest s → s.dlp.transmitter = none →
    ∃ t, exec .queryCounters s = .next t ∧ t.dlp.events = s.dlp.events ∧
      (2 ≤ s.dlp.choiceWait → t.dlp.transmitter = none ∧ t.dlp.choiceWait = s.dlp.choiceWait - 1) ∧
      (s.dlp.choiceWait ≤ 1 → t.dlp.choiceWait = 0 ∧ t.dlp.transmitter.map TxFrame.kind = some .answer))

/-! ### Pick frames and FLUSH -/

/-- PICK_FRAME accepted (01 R1, R10, R11, R13, R22): the record enters NEXT when NEXT, RL and PQ are empty, else the PQ
tail; the expected ordinal rises by one; nothing else of the run changes. -/
def Obligations.PickFrameAccepted : Prop :=
  ∀ (s : State) (p : List Byte) (rest : List RxFrame) (m : MachineRecord),
    Taking .pick p rest s → s.run.state ≠ .offline → s.tbm.machine = some m →
    p.length = 6 + (m.width + 1) / 2 → byteAt p 4 ≤ 12 → byteAt p 5 ≤ 7 → pickOrdinal p = s.psq.expected →
    s.psq.queue.length < 32 →
    ∃ t, exec .pickFrame s = .next t ∧ ChangedOnly [.lines, .dlp, .psq, .shb, .hci] s t ∧
      LinkLeft { s.dlp with held := rest } t ∧
      (s.psq.nextPick = none ∧ s.psq.replay = [] ∧ s.psq.queue = [] →
        t.psq = { s.psq with expected := s.psq.expected + 1, nextPick := some (pickRecord m.width p) }) ∧
      (¬(s.psq.nextPick = none ∧ s.psq.replay = [] ∧ s.psq.queue = []) →
        t.shb = s.shb ∧ t.hci = s.hci ∧
        t.psq =
          { s.psq with
            expected := s.psq.expected + 1
            queue := s.psq.queue ++ [pickRecord m.width p]
            warningReady :=
              s.psq.warningReady || decide (0 < m.lowWater ∧ m.lowWater ≤ s.heldAhead + 1) })

/-- PICK_FRAME refused (01 R10, R12): the first failing check names the cause, one PICK_REFUSED carries the cause, the
ordinal in the frame and the expected ordinal, and no part of the run changes. R10 gives a frame too short for an
ordinal the ordinal 0 where it is refused with FORMAT; that STATE reports it so too is the model's reading, log 8. -/
def Obligations.PickFrameRefused : Prop :=
  ∀ (s : State) (p : List Byte) (rest : List RxFrame) (cause : RefusalCause),
    let formed := ∃ m, s.tbm.machine = some m ∧ pickWellFormed m.width p = true
    Taking .pick p rest s →
    (cause = .state ∧ s.run.state = .offline) ∨
    (cause = .format ∧ s.run.state ≠ .offline ∧ ¬formed) ∨
    (cause = .sequence ∧ s.run.state ≠ .offline ∧ formed ∧ pickOrdinal p ≠ s.psq.expected) ∨
    (cause = .full ∧ s.run.state ≠ .offline ∧ formed ∧ pickOrdinal p = s.psq.expected ∧
      32 ≤ s.psq.queue.length) →
    ∃ t, exec .pickFrame s = .next t ∧ ChangedOnly [.dlp] s t ∧
      LinkLeft (({ s.dlp with held := rest } : Dlp).post (.pickRefused cause (pickOrdinal p) s.psq.expected)) t

/-- FLUSH (01 R21): taken in OFFLINE, STOPPED and HALTED, it discards RL, PQ and a NEXT the tag does not name, keeps
CURRENT, PH and D, and sets the expected ordinal, which the answer OK carries; elsewhere STATE, nothing changed. No
buffer holds the image of a discarded record and no chain is READY with it (03 R59, 04 R68), and the tag that carries
one is STALE (04 R70) unless shed keeping latches at once in STOPPED. Out of STOPPED, with no preparation target, every
other buffer and chain is kept. -/
def Obligations.FlushTakesBackThePicksAhead : Prop :=
  ∀ (s : State) (p : List Byte) (rest : List RxFrame), Taking .flush p rest s →
    let named := ∃ r, s.psq.nextPick = some r ∧ s.hci.tag.ordinal = some r.ordinal ∧ s.hci.tag.stale = false
    let gone (o : Sys2Proof.Ordinal) : Prop :=
      (∃ r ∈ s.psq.replay ++ s.psq.queue, r.ordinal = o) ∨ (¬named ∧ ∃ r ∈ s.psq.nextPick, r.ordinal = o)
    let kept (b b' : Buffer) : Prop :=
      (∀ o, b.ordinal? = some o → gone o → b' = .empty) ∧ ((∀ o, b.ordinal? = some o → ¬gone o) → b' = b)
    (s.run.state ≠ .weaving → s.run.state ≠ .stopping →
      ∃ t, exec .flush s = .next t ∧ ChangedOnly [.lines, .dlp, .psq, .shb, .hci] s t ∧
        LinkLeft (s.dlp.taken rest (commandAnswer 6 .ok (encWord t.psq.expected))) t ∧
        (named → t.psq.nextPick = s.psq.nextPick) ∧ (¬named → t.psq.nextPick = none) ∧
        t.psq.replay = [] ∧ t.psq.queue = [] ∧ t.psq.warningReady = false ∧ t.psq.current = s.psq.current ∧
        t.psq.history = s.psq.history ∧ t.psq.depth = s.psq.depth ∧ t.psq.picksEntered = s.psq.picksEntered ∧
        t.psq.dwells = s.psq.dwells ∧
        t.psq.expected =
          (match (t.psq.nextPick.or t.psq.current).or t.psq.history.getLast? with
           | some r => r.ordinal + 1
           | none => BitVec.ofNat 16 (wordAt p 1)) ∧
        (∀ o, gone o →
          (∀ e image, t.shb.buffer0 ≠ .held o e image ∧ t.shb.buffer1 ≠ .held o e image) ∧
          ∀ k : ChainIdx, (t.hci.chains[k]).phase.readyWith o = false) ∧
        (s.run.state ≠ .stopped → LineItem.strobe ∉ t.lineOut) ∧
        (LineItem.strobe ∉ t.lineOut →
          (∀ o, s.hci.tag.ordinal = some o → gone o → t.hci.tag = { s.hci.tag with stale := true }) ∧
          ((∀ o, s.hci.tag.ordinal = some o → ¬gone o) → t.hci.tag = s.hci.tag)) ∧
        (s.run.state ≠ .stopped → s.shb.target = none →
          kept s.shb.buffer0 t.shb.buffer0 ∧ kept s.shb.buffer1 t.shb.buffer1 ∧
          ∀ k : ChainIdx,
            let c := s.hci.chains[k]
            (∀ o dg, c.phase = .ready o dg → gone o → t.hci.chains[k] = { c with phase := .idle }) ∧
            ((∀ o dg, c.phase = .ready o dg → ¬gone o) → t.hci.chains[k] = c))) ∧
    (s.run.state = .weaving ∨ s.run.state = .stopping →
      ∃ t, exec .flush s = .next t ∧ ChangedOnly [.dlp] s t ∧
        LinkLeft (s.dlp.taken rest (commandAnswer 6 .state [])) t)

/-! ### Tables -/

/-- TABLE_SECTIONS, TABLE_EFFECTS, TABLE_WEAVES accepted in OFFLINE (02 R28, R31, R32, R33, R35). -/
def Obligations.PatternTablesAreWritten : Prop :=
  ∀ (s : State) (p : List Byte) (rest : List RxFrame), s.run.state = .offline →
    (Taking (.table .sections) p rest s → sectionLengthOk p = true → firstBad (sectionChecks p) = none →
      PatternWritten .tableSections
        { s.tbm with sections := s.tbm.sections.setIfInBounds (tableIndex p) (sectionOf p) } p rest s) ∧
    (Taking (.table .effects) p rest s → presenceLengthOk 6 p = true → firstBad (effectChecks p) = none →
      PatternWritten .tableEffects
        { s.tbm with effects := s.tbm.effects.setIfInBounds (tableIndex p) (effectOf p) } p rest s) ∧
    (Taking (.table .weaves) p rest s → weaveLengthOk p = true → firstBad (weaveChecks p) = none →
      PatternWritten .tableWeaves
        { s.tbm with weaves := s.tbm.weaves.setIfInBounds (tableIndex p) (weaveOf p) } p rest s)

/-- TABLE_MACHINE accepted (02 R30, R35): the record is replaced; a first write or a change of N or O makes the tracker
UNHOMED at p = 0 with its deviations, travel and T_rev cleared; a first write or a change of M0 to M3 re-forms the
module status table; the low-water warning follows the new M. That a new scale lets INDEX_MISSING be raised again is
log 10. -/
def Obligations.MachineRecordIsWritten : Prop :=
  ∀ (s : State) (p : List Byte) (rest : List RxFrame),
    let m := machineRecordOf p
    Taking (.table .machine) p rest s → s.run.state = .offline → machineLengthOk p = true →
    firstBad (machineChecks p) = none →
    ∃ t, exec .tableMachine s = .next t ∧ ChangedOnly [.dlp, .tbm, .psq, .shb, .hci, .stk] s t ∧
      t.tbm = { s.tbm with machine := some m, epoch := s.tbm.epoch + 1 } ∧
      t.psq = { s.psq with warningReady := decide (0 < m.lowWater ∧ m.lowWater ≤ s.heldAhead) } ∧
      t.shb = { buffer0 := .empty, buffer1 := .empty, target := none } ∧
      (∀ k : ChainIdx, (t.hci.chains[k]).phase = .idle) ∧
      t.hci.tag = { s.hci.tag with stale := s.hci.tag.stale || s.hci.tag.ordinal.isSome } ∧
      ((∀ old, s.tbm.machine = some old → old.counts ≠ m.counts ∨ old.offset ≠ m.offset) →
        t.stk =
          { s.stk with
            position := 0, homing := .unhomed, revTime := none, revTimer := none, lastDeviation := none,
            largestDeviation := none, netTravel := 0, indexMissingRaised := false }) ∧
      (∀ old, s.tbm.machine = some old → old.counts = m.counts → old.offset = m.offset → t.stk = s.stk) ∧
      ((∀ old, s.tbm.machine = some old → old.modules ≠ m.modules) →
        ∀ k : ChainIdx, (t.hci.chains[k]).lengthFlag = false ∧
          (t.hci.chains[k]).entries = List.replicate (m.modulesOf k) ModuleEntry.fresh) ∧
      (∀ old, s.tbm.machine = some old → old.modules = m.modules →
        ∀ k : ChainIdx, (t.hci.chains[k]).lengthFlag = (s.hci.chains[k]).lengthFlag ∧
          (t.hci.chains[k]).entries = (s.hci.chains[k]).entries) ∧
      LinkLeft (s.dlp.taken rest (tableOk p (s.tbm.epoch + 1))) t

/-- TABLE_PROFILES, TABLE_WEFTS, TABLE_DRIVERS accepted in any run state (02 R36 to R40): the record is replaced and
nothing else changes, the epoch among it. -/
def Obligations.LiveTablesAreWritten : Prop :=
  ∀ (s : State) (p : List Byte) (rest : List RxFrame),
    (Taking (.table .profiles) p rest s → profileLengthOk p = true → firstBad (profileChecks s.armLimit p) = none →
      ∃ t, exec .tableProfiles s = .next t ∧ ChangedOnly [.dlp, .tbm] s t ∧
        t.tbm = { s.tbm with profiles := s.tbm.profiles.setIfInBounds (tableIndex p) (profileOf p) } ∧
        LinkLeft (s.dlp.taken rest (tableOk p s.tbm.epoch)) t) ∧
    (Taking (.table .wefts) p rest s → weftLengthOk p = true → firstBad (weftChecks p) = none →
      ∃ t, exec .tableWefts s = .next t ∧ ChangedOnly [.dlp, .tbm] s t ∧
        t.tbm = { s.tbm with wefts := s.tbm.wefts.setIfInBounds (tableIndex p - 1) (weftOf p) } ∧
        LinkLeft (s.dlp.taken rest (tableOk p s.tbm.epoch)) t) ∧
    (Taking (.table .drivers) p rest s → driverLengthOk p = true → firstBad (driverChecks p) = none →
      ∃ t, exec .tableDrivers s = .next t ∧ ChangedOnly [.dlp, .tbm] s t ∧
        t.tbm = { s.tbm with drivers := s.tbm.drivers.setIfInBounds (tableIndex p) (driverOf p) } ∧
        LinkLeft (s.dlp.taken rest (tableOk p s.tbm.epoch)) t)

/-- A refused table write (02 R28): UNKNOWN, STATE, FORMAT, RANGE in this order, with the table id and record index as
received and for RANGE the first field out of range; nothing else changes. For PROFILES the refusal of an ON with no
OFF as the next action of its target, and the field it names, are log 12; record index 0 of a frame too short for one
is log 8. -/
def Obligations.TableWritesAreRefused : Prop :=
  ∀ (s : State) (p : List Byte) (rest : List RxFrame),
    let refused (c : Instr) (r : Result) (extra : List Byte) :=
      ∃ t, exec c s = .next t ∧ ChangedOnly [.dlp] s t ∧
        LinkLeft
          (s.dlp.taken rest
            { kind := .table, code := p.getD 0 0, result := r, data := enc16 (tableIndex p) ++ extra }) t
    (Taking .tableUnknown p rest s → refused .tableUnknown .unknown []) ∧
    ∀ id : TableId, Taking (.table id) p rest s →
      (isPattern id = true ∧ s.run.state ≠ .offline → refused (tableCommand id) .state []) ∧
      (¬(isPattern id = true ∧ s.run.state ≠ .offline) →
        (tableLengthOk p id = false → refused (tableCommand id) .format []) ∧
        (tableLengthOk p id = true →
          ∀ field, firstBad (tableChecks s.armLimit p id) = some field →
            refused (tableCommand id) .range (enc8 field)))

/-! ### Run control -/

/-- ARM (09 R162, 02 R42, R43): in OFFLINE the nine checks are made in order; the first that fails, at its lowest
record, answers TABLE with the table id and record (HELD_PICKS with the ordinal), nothing changed; with none failing OK
and STOPPED, the permit dropped and the causes kept. Outside OFFLINE STATE. DISARM (09 R163): in STOPPED answered OK
and OFFLINE, with the pick run, the tables and the tag kept, no target, and a running test going on; elsewhere STATE. -/
def Obligations.ArmAndDisarm : Prop :=
  (∀ (s : State) (p : List Byte) (rest : List RxFrame), Taking .arm p rest s →
      let refused (id record : Nat) := Answered .arm (commandAnswer 1 .table (enc8 id ++ enc16 record)) rest s
      (s.run.state = .offline →
        (s.tbm.machine = none → refused 1 0) ∧
        ∀ m, s.tbm.machine = some m →
          (∀ check i, ArmFault s.tbm m check i → (∀ j < i, ¬ArmFault s.tbm m check j) →
            (∀ earlier < check, ∀ j, ¬ArmFault s.tbm m earlier j) → refused (armFaultTable check) i) ∧
          ((∀ check i, ¬ArmFault s.tbm m check i) →
            (∀ before r after, s.psq.runRecords = before ++ r :: after →
              (∀ x ∈ before, x.effects.length = m.width) → r.effects.length ≠ m.width → refused 8 r.ordinal.toNat) ∧
            ((∀ r ∈ s.psq.runRecords, r.effects.length = m.width) →
              ∃ t, exec .arm s = .next t ∧ ChangedOnly [.lines, .dlp, .shb, .hci, .drv, .run] s t ∧
                t.run = { s.run with state := .stopped, permit := false } ∧
                (∀ dc : DriverIdx, t.drv.channels[dc] = (s.drv.channels[dc]).switchedOff) ∧
                t.drv.test = s.drv.test ∧
                LinkLeft
                  ((s.dlp.taken rest (commandAnswer 1 .ok [])).post
                    (.runState .stopped .offline s.run.firstStop s.run.haltCause none)) t))) ∧
      (s.run.state ≠ .offline → Answered .arm (commandAnswer 1 .state []) rest s)) ∧
  (∀ (s : State) (p : List Byte) (rest : List RxFrame), Taking .disarm p rest s →
      (s.run.state = .stopped →
        ∃ t, exec .disarm s = .next t ∧ ChangedOnly [.lines, .dlp, .shb, .hci, .drv, .run] s t ∧
          t.run = { s.run with state := .offline, permit := false } ∧ t.shb.target = none ∧ t.hci.tag = s.hci.tag ∧
          t.hci.required = none ∧
          (∀ dc : DriverIdx, t.drv.channels[dc] = (s.drv.channels[dc]).switchedOff) ∧ t.drv.test = s.drv.test ∧
          (∀ dc : DriverIdx, (s.drv.channels[dc]).phase = .testing → t.drv.channels[dc] = s.drv.channels[dc]) ∧
          LinkLeft
            ((s.dlp.taken rest (commandAnswer 2 .ok [])).post
              (.runState .offline .stopped s.run.firstStop s.run.haltCause none)) t) ∧
      (s.run.state ≠ .stopped → Answered .disarm (commandAnswer 2 .state []) rest s))

/-- START refused (09 R164): STATE, NOT_HOMED, MOVING, BUSY in this order, with nothing changed. -/
def Obligations.StartIsRefused : Prop :=
  ∀ (s : State) (p : List Byte) (rest : List RxFrame) (taken : CausesTaken), Taking .start p rest s →
    (s.run.state ≠ .stopped → Answered (.start taken) (commandAnswer 3 .state []) rest s) ∧
    (s.run.state = .stopped → s.stk.homing ≠ .homed →
      Answered (.start taken) (commandAnswer 3 .notHomed []) rest s) ∧
    (s.run.state = .stopped → s.stk.homing = .homed → s.stk.motion = .moving →
      Answered (.start taken) (commandAnswer 3 .moving []) rest s) ∧
    (s.run.state = .stopped → s.stk.homing = .homed → s.stk.motion = .standstill → s.drv.test ≠ none →
      Answered (.start taken) (commandAnswer 3 .busy []) rest s)

/-- START taken (09 R164, R165, 06 R107, R111 to R113): the causes become NONE, the run state WEAVING with the permit
asserted, the reverse count 0, and the START snapshot has no advance. CURRENT is armed when PENDING below the arming
limit: an empty pick becomes INSERTED, a pick with a usable channel and profile becomes ARMED with its armed part, and
one without becomes FAULTED, its stop cause, taken as part of START, taking the part through STOPPING to STOPPED
(R169). -/
def Obligations.StartWeaves : Prop :=
  ∀ (s : State) (p : List Byte) (rest : List RxFrame) (m : MachineRecord) (a : Nat)
    (taken : CausesTaken), Taking .start p rest s → NoneTaken taken s → s.run.state = .stopped →
    s.stk.homing = .homed → s.stk.motion = .standstill → s.drv.test = none → s.tbm.machine = some m → s.angle = some a →
    let arms := s.currentPending = true ∧ a < m.armLimit
    let snapshot : Snapshot := { entry := .start, hookAdvance := 0, latchAngle := m.latchAngle, armed := none }
    let weaving : Dlp := (s.dlp.taken rest (commandAnswer 3 .ok [])).post (.runState .weaving .stopped none none none)
    let started : Run := { state := .weaving, permit := true, firstStop := none, haltCause := none,
                           lastLater := none, handed := s.run.handed }
    ∃ t, exec (.start taken) s = .next t ∧ t.resetLine = s.resetLine ∧ t.tbm = s.tbm ∧ t.drv.test = none ∧
      t.stk = { s.stk with reverseCount := 0 } ∧ t.pending = s.pending ∧
      (¬arms →
        t.run = started ∧ t.psq = s.psq ∧ t.asc.snapshot = some snapshot ∧ t.wfm = s.wfm ∧ t.drv = s.drv ∧
        LinkLeft weaving t) ∧
      (∀ r, s.psq.current = some r → arms → r.weft = 0 →
        t.run = started ∧ t.psq = { s.psq with current := some { r with state := .inserted } } ∧
        t.asc.snapshot = some snapshot ∧ t.wfm = s.wfm ∧ t.drv = s.drv ∧ LinkLeft weaving t) ∧
      (∀ r w prof, s.psq.current = some r → arms → r.weft ≠ 0 → s.tbm.weftRecord r.weft = some w →
        w.enabled = true → s.tbm.profiles[r.profile] = some prof →
        t.run = started ∧ t.wfm = s.wfm ∧ t.drv = s.drv ∧ LinkLeft weaving t ∧
        ∃ part, ArmedFrom s.tbm m (fun _ => 0) r.ordinal w prof part ∧ part.openHanded = false ∧
          part.closeHanded = false ∧ (∀ x ∈ part.actions, x.fired = false) ∧
          t.asc.snapshot = some { snapshot with armed := some part } ∧
          t.psq = { s.psq with current := some { r with state := .armed, clipped := part.clipped } }) ∧
      (∀ r reason, s.psq.current = some r → arms → r.weft ≠ 0 →
        (reason = .channelAbsent ∧ s.tbm.weftRecord r.weft = none) ∨
        (∃ w, s.tbm.weftRecord r.weft = some w ∧
          ((reason = .channelDisabled ∧ w.enabled = false) ∨
           (reason = .profileAbsent ∧ w.enabled = true ∧ s.tbm.profiles[r.profile] = none))) →
        t.run = { started with state := .stopped, permit := false, firstStop := some (.weftChannel r.ordinal) } ∧
        t.psq = { s.psq with current := some { r with state := .faulted, cause := some .channel } } ∧
        t.asc.snapshot = some snapshot ∧ t.wfm.weftFaults = satInc 4294967295 s.wfm.weftFaults ∧
        LinkLeft
          (weaving.posts
            [ .weftFault r.ordinal r.row r.weft a r.arrival (.channel reason),
              .runState .stopping .weaving (some (.weftChannel r.ordinal)) none none,
              .runState .stopped .stopping (some (.weftChannel r.ordinal)) none none ]) t)

/-- STOP (09 R161, R166, R167, 06 R119): in WEAVING it is the stop cause STOP_COMMAND: STOPPING (or on to STOPPED at
standstill, R169), the permit dropped, the armed part removed, an ARMED pick INTERRUPTED, every driving channel off.
Elsewhere OK with no effect. -/
def Obligations.StopEndsTheRun : Prop :=
  ∀ (s : State) (p : List Byte) (rest : List RxFrame) (taken : CausesTaken), Taking .stop p rest s →
    (s.run.state = .weaving → NoneTaken taken s →
      ∃ t, exec (.stop taken) s = .next t ∧ t.resetLine = s.resetLine ∧ t.tbm = s.tbm ∧ t.stk = s.stk ∧
        t.pending = s.pending ∧
        t.psq = { s.psq with current := s.psq.current.map PickRecord.interrupt } ∧
        t.asc.snapshot = s.asc.snapshot.map (fun x => { x with armed := none }) ∧
        t.wfm = { s.wfm with window := none, capture := none, watch := none } ∧
        (∀ dc : DriverIdx, t.drv.channels[dc] = (s.drv.channels[dc]).switchedOff) ∧ t.drv.test = s.drv.test ∧
        (s.stk.motion = .moving →
          t.run = { s.run with state := .stopping, permit := false, firstStop := some .stopCommand } ∧
          LinkLeft
            ((s.dlp.taken rest (commandAnswer 4 .ok [])).post
              (.runState .stopping .weaving (some .stopCommand) s.run.haltCause none)) t) ∧
        (s.stk.motion = .standstill →
          t.run = { s.run with state := .stopped, permit := false, firstStop := some .stopCommand } ∧
          LinkLeft
            ((s.dlp.taken rest (commandAnswer 4 .ok [])).posts
              [ .runState .stopping .weaving (some .stopCommand) s.run.haltCause none,
                .runState .stopped .stopping (some .stopCommand) s.run.haltCause none ]) t)) ∧
    (s.run.state ≠ .weaving → Answered (.stop taken) (commandAnswer 4 .ok []) rest s)

/-- CLEAR (09 R172, 08 R151): in HALTED, HOMED and at standstill, OK: every block released, STOPPED, the causes kept;
else STATE, NOT_HOMED or MOVING with nothing changed. -/
def Obligations.ClearReleasesAndStops : Prop :=
  ∀ (s : State) (p : List Byte) (rest : List RxFrame), Taking .clear p rest s →
    (s.run.state = .halted → s.stk.homing = .homed → s.stk.motion = .standstill →
      ∃ t, exec .clear s = .next t ∧ ChangedOnly [.lines, .dlp, .shb, .hci, .drv, .run] s t ∧
        t.run = { s.run with state := .stopped, permit := false } ∧
        (∀ dc : DriverIdx, t.drv.channels[dc] = ((s.drv.channels[dc]).released).switchedOff) ∧
        t.drv.test = s.drv.test ∧
        LinkLeft
          ((s.dlp.taken rest (commandAnswer 5 .ok [])).post
            (.runState .stopped .halted s.run.firstStop s.run.haltCause none)) t) ∧
    (s.run.state ≠ .halted → Answered .clear (commandAnswer 5 .state []) rest s) ∧
    (s.run.state = .halted → s.stk.homing ≠ .homed →
      Answered .clear (commandAnswer 5 .notHomed []) rest s) ∧
    (s.run.state = .halted → s.stk.homing = .homed → s.stk.motion = .moving →
      Answered .clear (commandAnswer 5 .moving []) rest s)

/-- HOME (05 R91): in OFFLINE, STOPPED and HALTED with a machine record OK and HOMING, the deviations none and the net
travel 0, T_rev dropped when it leaves HOMED; without a record TABLE; elsewhere STATE. That the refusal with TABLE (10
R185) names MACHINE, record 0, in its data is the model's reading, log 8: R195 gives such data to ARM alone. -/
def Obligations.HomeStartsHoming : Prop :=
  ∀ (s : State) (p : List Byte) (rest : List RxFrame), Taking .home p rest s →
    (s.run.state ≠ .weaving → s.run.state ≠ .stopping →
      (s.tbm.machine = none → Answered .home (commandAnswer 7 .table [1, 0, 0]) rest s) ∧
      (∀ m, s.tbm.machine = some m →
        ∃ t, exec .home s = .next t ∧ ChangedOnly [.lines, .dlp, .shb, .hci, .stk] s t ∧ t.hci.required = none ∧
          t.stk =
            { s.stk with
              homing := .homing, lastDeviation := none, largestDeviation := none, netTravel := 0
              revTime := if s.stk.homing = .homed then none else s.stk.revTime
              revTimer := if s.stk.homing = .homed then none else s.stk.revTimer } ∧
          LinkLeft (s.dlp.taken rest (commandAnswer 7 .ok [])) t)) ∧
    (s.run.state = .weaving ∨ s.run.state = .stopping →
      Answered .home (commandAnswer 7 .state []) rest s)

/-- SOFT_RESET (09 R176, 10 R188, 01 R26, 02 R45, 03 R62, 04 R85, 05 R105, 06 R122, 07 R139, 08 R158): every block takes
its SOFT_RESET values in every run state; the tables and the Shaft Tracker are kept, the sensor levels too; the answer
OK goes before RUN_STATE with OFFLINE and the state before; the receiver is CLOSED. That it drops the causes waiting
for RUN, and the transmitter's held-back choice, is the model's choice, logs 6 and 11. -/
def Obligations.SoftResetKeepsTablesAndShaft : Prop :=
  ∀ (s : State) (p : List Byte) (rest : List RxFrame), Taking .softReset p rest s →
    ∃ t, exec .softReset s = .next t ∧ t.pending = s.pending ∧ t.resetLine = s.resetLine ∧ t.tbm = s.tbm ∧
      t.stk = s.stk ∧ t.psq = Psq.hardReset ∧ t.shb = Shb.hardReset ∧ t.asc = Asc.hardReset ∧ t.drv = Drv.hardReset ∧
      t.run = Run.hardReset ∧ t.wfm = { Wfm.hardReset with arv := s.wfm.arv, feeders := s.wfm.feeders } ∧
      t.hci.tag = { ordinal := none, stale := false, degraded := false } ∧ t.hci.required = none ∧
      (∀ k : ChainIdx, (t.hci.chains[k]).phase = .idle ∧ (t.hci.chains[k]).lengthFlag = false ∧
        (t.hci.chains[k]).entries = (s.hci.chains[k]).entries.map (fun _ => ModuleEntry.fresh)) ∧
      LinkLeft
        { Dlp.hardReset with
          answer := some (commandAnswer 8 .ok [])
          events := [.runState .offline s.run.state none none none]
          transmitter := s.dlp.transmitter.map (fun f => { f with beforeReset := true }) } t

/-! ### Queries, tests and flags -/

/-- QUERY with a known selector (10 R186, R187, R190, R197, 09 R174, 01 R24, 03 R61, 04 R84, 05 R103, 06 R121, 07 R137,
08 R156): answered OK in every run state with its content as it stands, field by field, and no other change. Fields
whose presence or width the rules leave open stand as log 8 reads them. -/
def Obligations.QueriesAnswerAndChangeNothing : Prop :=
  (∀ (s : State) (p : List Byte) (rest : List RxFrame),
    let ok (c : Instr) (data : List Byte) := Answered c (commandAnswer 9 .ok data) rest s
    let channel (dc : DriverIdx) : List Byte := enc8 dc.val
    let level (l : Option Level) : List Byte := match l with | some .low => [0] | some .high => [1] | none => [2]
    let outcome (r : PickRecord) : List Byte :=
      encOpt enc16 r.arrival ++ encOpt enc32 r.revTime ++ encOpt (fun x => enc8 (FaultCause.code x)) r.cause
        ++ encBool r.clipped
    let action (x : ArmedAction) : List Byte :=
      (match x.switching with | .on => [0] | .off => [1]) ++ channel x.channel ++ enc16 x.nominal
        ++ enc16 x.advance ++ enc16 x.effective ++ encBool x.fired
    let armed (a : ArmedPart) : List Byte :=
      encWord a.ordinal ++ channel a.weft.selector ++ encBool a.clipped ++ enc16 a.windowOpen ++ encBool a.openHanded
        ++ enc16 a.windowClose ++ encBool a.closeHanded ++ encList action a.actions
    let snapshot (x : Snapshot) : List Byte :=
      enc8 x.entry.code ++ enc16 x.hookAdvance ++ enc16 x.latchAngle ++ encOpt armed x.armed
    (Taking .queryRun p rest s →
      ok .queryRun
        ([1] ++ enc8 s.run.state.code ++ (if s.run.permit then [0] else [1])
          ++ (match s.run.firstStop with | none => [0, 0, 0, 0] | some c => encStopCause c)
          ++ (match s.run.haltCause with | none => [0, 0, 0, 0] | some c => encHaltCause c)
          ++ (match s.run.lastLater with
              | none => [0, 0, 0, 0]
              | some (.stop c) => encStopCause c
              | some (.halt c) => encHaltCause c)
          ++ encWord s.tbm.epoch ++ encOpt snapshot s.asc.snapshot
          ++ (match s.wfm.window with | none => [0] | some o => [1] ++ encWord o) ++ encOpt enc16 s.wfm.capture
          ++ (match s.wfm.watch with | none => [0] | some f => [1] ++ enc8 (f.val + 1)) ++ level s.wfm.arv
          ++ s.wfm.feeders.toList.flatMap level)) ∧
    (Taking .querySlots p rest s →
      let slot (r : PickRecord) : List Byte :=
        encWord r.ordinal ++ encWord r.row ++ enc8 r.weft.val ++ enc8 r.profile.val ++ enc8 r.state.code
          ++ enc8 r.weaveCount ++ outcome r
      let ordinal (r : PickRecord) : List Byte := encWord r.ordinal
      let buffer (b : Buffer) : List Byte :=
        match b with
        | .empty => [0]
        | .filling o _ _ _ => [1] ++ encWord o
        | .held o e _ => [2] ++ encWord o ++ encWord e
      ok .querySlots
        ([2] ++ encOpt slot s.psq.current ++ encOpt slot s.psq.nextPick
          ++ enc8 s.psq.history.length ++ enc8 s.psq.replay.length ++ enc8 s.psq.queue.length
          ++ encOpt ordinal s.psq.history.head? ++ encOpt ordinal s.psq.history.getLast?
          ++ encOpt ordinal s.psq.replay.head? ++ encOpt ordinal s.psq.queue.head?
          ++ encOpt ordinal s.psq.queue.getLast? ++ enc8 (s.psq.replay.length + s.psq.queue.length)
          ++ encWord s.psq.expected ++ enc8 s.psq.depth ++ encBool s.psq.warningReady
          ++ buffer s.shb.buffer0 ++ buffer s.shb.buffer1 ++ encOpt encWord s.shb.target
          ++ encOpt encWord s.hci.tag.ordinal ++ encBool s.hci.tag.stale ++ encBool s.hci.tag.degraded
          ++ (if s.run.state = .stopped then encOpt encWord s.hci.required else []))) ∧
    (Taking .queryTracker p rest s →
      ok .queryTracker
        ([3] ++ enc8 s.stk.homing.code ++ enc16 (if s.tbm.machine = none then 0 else s.stk.position)
          ++ encOpt enc16 s.angle
          ++ encOpt (fun m => enc16 (angleOf (MachineRecord.counts m) (m.counts - 1))) s.tbm.machine
          ++ enc8 s.stk.direction.code ++ enc8 s.stk.motion.code ++ encOpt enc32 s.stk.revTime
          ++ encOpt encInt s.stk.lastDeviation ++ encOpt encInt s.stk.largestDeviation ++ encInt s.stk.netTravel
          ++ enc16 s.stk.reverseCount ++ enc16 s.stk.illegalCount ++ level s.stk.encA ++ level s.stk.encB
          ++ level s.stk.encZ)) ∧
    (∀ k : ChainIdx, Taking .queryModules p rest s → byteAt p 2 = k.val →
      let c := s.hci.chains[k]
      let flags (f : ModuleFlags) : List Byte :=
        enc8 ((if f.supplyLow then 1 else 0) + (if f.overtemp then 2 else 0) + (if f.magnetOpen then 4 else 0))
      let entry (e : ModuleEntry) : List Byte :=
        enc8 e.lastAnswer.code ++ flags e.lastFlags ++ flags e.sticky ++ enc8 e.consecutive ++ enc8 e.total
      let state : List Byte :=
        match c.phase with
        | .idle => [0, 0, 0]
        | .shifting o => [1, 1] ++ encWord o ++ [0]
        | .checking o _ => [2, 1] ++ encWord o ++ [0]
        | .ready o degraded => [3, 1] ++ encWord o ++ encBool degraded
      ok .queryModules
        ([(4 : Byte)] ++ state ++ enc8 (match s.tbm.machine with | none => (0 : Nat) | some m => m.modulesOf k)
          ++ encBool c.lengthFlag ++ encList entry c.entries)) ∧
    (Taking .queryDrivers p rest s →
      let report (dc : DriverIdx) : List Byte :=
        let c := s.drv.channels[dc]
        enc8 c.phase.code
          ++ (if c.phase = .blocked then
                (match c.block with | none => [(0 : Byte)] | some .perPick => [1] | some .latch => [2])
              else [])
          ++ encOpt (fun d => enc8 (DriveMode.code (DriverSettings.mode d))) s.tbm.drivers[dc]
          ++ (if c.phase.driving then
                (match c.inUse with | none => [(0 : Byte)] | some u => encBool u.fromSnapshot)
              else [])
          ++ enc8 ((if c.flagOvercurrent then 1 else 0) + (if c.flagOpenLoad then 2 else 0)) ++ enc8 c.faultCount
          ++ enc8 c.lastTest.code
      ok .queryDrivers
        ([5] ++ (List.finRange 20).flatMap report ++ encOpt (fun x => channel (OffTest.channel x)) s.drv.test)) ∧
    (Taking .queryCounters p rest s →
      ok .queryCounters
        ([6] ++ enc32 s.psq.picksEntered ++ enc32 s.wfm.weftFaults ++ enc32 s.psq.dwells ++ enc32 s.wfm.spurious
          ++ enc16 s.dlp.linkErrors))) ∧
  [RunState.offline, .stopped, .weaving, .stopping, .halted].map RunState.code = List.range 5 ∧
  [PickState.pending, .armed, .inserted, .faulted, .unwoven].map PickState.code = List.range 5 ∧
  [FaultCause.missing, .feeder, .driver, .channel, .interrupted].map FaultCause.code = List.range 5 ∧
  [SnapshotEntry.forward, .backward, .start].map SnapshotEntry.code = List.range 3 ∧
  [Homing.unhomed, .homing, .homed].map Homing.code = List.range 3 ∧
  [Direction.forward, .backward].map Direction.code = List.range 2 ∧
  [Motion.moving, .standstill].map Motion.code = List.range 2 ∧
  [LastAnswer.none, .ack, .nak, .silent].map LastAnswer.code = List.range 4 ∧
  [DrivePhase.idle, .peak, .holdOn, .holdOff, .directOn, .blocked, .testing].map DrivePhase.code = List.range 7 ∧
  [DriveMode.off, .direct, .peakHold].map DriveMode.code = List.range 3 ∧
  [TestResult.none, .loadPresent, .open, .shorted].map TestResult.code = List.range 4 ∧
  [StopCause.stopCommand, .starved, .encoderFault, .indexMissing, .reverseInRun].map encStopCause
    = [[1, 0, 0, 0], [7, 0, 0, 0], [9, 0, 0, 0], [10, 0, 0, 0], [11, 0, 0, 0]] ∧
  (∀ o : Sys2Proof.Ordinal,
    [StopCause.weftMissing o, .feederBreak o, .weftDriver o, .weftChannel o, .lateImage o].map encStopCause
      = [(2 : Byte), 3, 4, 5, 6].map fun code => code :: encWord o ++ [0]) ∧
  (∀ (k : ChainIdx) (j : Nat), encStopCause (.chainFault k j) = 8 :: enc8 k.val ++ enc8 j ++ [0]) ∧
  (∀ dc : DriverIdx, encHaltCause (.driverLatch dc) = 12 :: enc8 dc.val ++ [0, 0]) ∧
  [HaltCause.encoderFault, .indexMismatch].map encHaltCause = [[13, 0, 0, 0], [14, 0, 0, 0]]

/-- 10 R185, R186, 04 R84: a QUERY with an unknown selector is answered UNKNOWN, a chain above 3 RANGE; a COMMAND frame
without a code FORMAT with code 0 echoed, with an unknown code UNKNOWN, with a wrong length FORMAT. -/
def Obligations.BadQueriesAndCommandsAreAnswered : Prop :=
  ∀ (s : State) (p : List Byte) (rest : List RxFrame),
    (Taking .queryUnknown p rest s → Answered .queryUnknown (commandAnswer 9 .unknown []) rest s) ∧
    (Taking .queryModules p rest s → 3 < byteAt p 2 →
      Answered .queryModules (commandAnswer 9 .range []) rest s) ∧
    (Taking .unknownCommand [] rest s →
      Answered .unknownCommand { kind := .command, code := 0, result := .format, data := [] } rest s) ∧
    (∀ (code : Byte) (args : List Byte), Taking .unknownCommand (code :: args) rest s →
      Answered .unknownCommand
        { kind := .command, code := code, data := []
          result := if 1 ≤ code.toNat ∧ code.toNat ≤ 11 then .format else .unknown } rest s)

/-- OFFSTATE_TEST (08 R154): STATE, RANGE, BUSY, BUSY in this order; else OK, the channel TESTING with the overcurrent
level of its record, or code 15, as the short level. -/
def Obligations.OffstateTestStarts : Prop :=
  ∀ (s : State) (p : List Byte) (rest : List RxFrame), Taking .offstateTest p rest s →
    let quiet := s.run.state ≠ .weaving ∧ s.run.state ≠ .stopping
    (¬quiet → Answered .offstateTest (commandAnswer 10 .state []) rest s) ∧
    (quiet → 19 < byteAt p 1 → Answered .offstateTest (commandAnswer 10 .range []) rest s) ∧
    (∀ dc : DriverIdx, quiet → byteAt p 1 = dc.val →
      (s.drv.test ≠ none ∨ (s.drv.channels[dc]).phase ≠ .idle →
        Answered .offstateTest (commandAnswer 10 .busy []) rest s) ∧
      (s.drv.test = none → (s.drv.channels[dc]).phase = .idle →
        ∃ t, exec .offstateTest s = .next t ∧ ChangedOnly [.dlp, .drv] s t ∧
          t.drv.channels = s.drv.channels.set dc.val { s.drv.channels[dc] with phase := .testing } ∧
          t.drv.test =
            some { channel := dc
                   shortLevel := match s.tbm.drivers[dc] with | none => 15 | some d => d.overcurrentLevel } ∧
          LinkLeft (s.dlp.taken rest (commandAnswer 10 .ok [])) t))

/-- CLEAR_MODULE_FLAGS (04 R82): answered OK in every run state; the sticky flags of every entry are cleared and
nothing else changes. -/
def Obligations.ClearModuleFlagsClearsSticky : Prop :=
  ∀ (s : State) (p : List Byte) (rest : List RxFrame), Taking .clearModuleFlags p rest s →
    ∃ t, exec .clearModuleFlags s = .next t ∧ ChangedOnly [.dlp, .hci] s t ∧ t.hci.tag = s.hci.tag ∧
      t.hci.required = s.hci.required ∧
      (∀ k : ChainIdx, t.hci.chains[k] =
        { s.hci.chains[k] with
          entries := (s.hci.chains[k]).entries.map (fun e => { e with sticky := ⟨false, false, false⟩ }) }) ∧
      LinkLeft (s.dlp.taken rest (commandAnswer 11 .ok [])) t

/-! ### The Shaft Tracker and the sensors -/

/-- Levels are acquired once a machine record is present (05 R87, 07 R125), with no step, pulse or rise; a feeder line
acquired at BREAK alarms unless watched (07 R126). ENCZ_FALL, ARV_FALL and FEEDER_CLEAR change the level alone
(05 R86, 07 R125, R126). -/
def Obligations.LevelsAreAcquiredAndFall : Prop :=
  ∀ (s : State) (m : MachineRecord) (l : Level) (f : FeederIdx) (taken : CausesTaken), s.Ready →
    NoneTaken taken s → s.tbm.machine = some m →
    let tracker (c : Instr) (k : Stk) :=
      ∃ t, exec c s = .next t ∧ ChangedOnly [.dlp, .stk] s t ∧ t.stk = k ∧ LinkLeft s.dlp t
    let monitor (c : Instr) (w : Wfm) (d : Dlp) :=
      ∃ t, exec c s = .next t ∧ ChangedOnly [.dlp, .wfm] s t ∧ t.wfm = w ∧ LinkLeft d t
    let feeder (x : Level) : Wfm := { s.wfm with feeders := s.wfm.feeders.set f.val (some x) }
    (s.stk.encA = none → tracker (.encoderLevelAcquired .encA l) { s.stk with encA := some l }) ∧
    (s.stk.encB = none → tracker (.encoderLevelAcquired .encB l) { s.stk with encB := some l }) ∧
    (s.stk.encZ = none → tracker (.encoderLevelAcquired .encZ l) { s.stk with encZ := some l }) ∧
    (s.stk.encZ = some .high → tracker .enczFall { s.stk with encZ := some .low }) ∧
    (s.wfm.arv = none → monitor (.sensorLevelAcquired .arv l taken) { s.wfm with arv := some l } s.dlp) ∧
    (s.wfm.arv = some .high → monitor .arvFall { s.wfm with arv := some .low } s.dlp) ∧
    (s.wfm.feeders[f] = none → monitor (.sensorLevelAcquired (.feeder f) .low taken) (feeder .low) s.dlp) ∧
    (s.wfm.feeders[f] = none → s.wfm.watch ≠ some f →
      monitor (.sensorLevelAcquired (.feeder f) .high taken) (feeder .high)
        (s.dlp.post
          (.feederAlarm f s.angle s.run.state (s.psq.current.map fun r => (r.ordinal, r.weft))))) ∧
    (s.wfm.feeders[f] = some .high → monitor (.feederClear f) (feeder .low) s.dlp)

/-- ENCODER_STEP (05 R88, R90, R94, R99 to R102), whatever the order of the crossings: p moves by one modulo N, the
direction is the step's, motion and the standstill timer restart, and net travel, reverse count, T_rev and the
revolution timer follow. Off HOMED and not reversing in WEAVING nothing else changes but what the SHB does on a change
of direction (R55, R97). HOMED, a step that takes the net travel above 3N/2 since the last index pulse posts
ENCODER_FAULT of kind INDEX_MISSING and hands its stop cause, once (R94); in WEAVING a backward step that takes the
reverse count above the reverse tolerance hands REVERSE_IN_RUN (R102). -/
def Obligations.EncoderStepCounts : Prop :=
  ∀ (s : State) (m : MachineRecord) (line : EncLine) (elapsed : Nat) (order : List Nat) (taken : CausesTaken)
    (a b : Level),
    s.Ready → s.tbm.machine = some m → s.stk.position < m.counts → s.stk.encA = some a → s.stk.encB = some b →
    let a' := if line = .encA then flipLevel a else a
    let b' := if line = .encB then flipLevel b else b
    let forward := ((a, b), (a', b')) ∈ forwardPairs
    ∃ t, exec (.encoderStep line elapsed order taken) s = .next t ∧ Undisturbed s t ∧
      t.stk.encA = some a' ∧ t.stk.encB = some b' ∧ t.stk.encZ = s.stk.encZ ∧
      t.stk.homing = s.stk.homing ∧ t.stk.motion = .moving ∧ t.stk.standstillTimer = some m.standstillMs ∧
      t.stk.illegalCount = s.stk.illegalCount ∧ t.stk.lastDeviation = s.stk.lastDeviation ∧
      t.stk.largestDeviation = s.stk.largestDeviation ∧
      (s.stk.homing ≠ .homed → t.stk.netTravel = s.stk.netTravel) ∧
      (forward →
        t.stk.position = (s.stk.position + 1) % m.counts ∧ t.stk.direction = .forward ∧ t.stk.reverseCount = 0 ∧
        (s.stk.homing = .homed → t.stk.netTravel = min 32767 (max (-32767) (s.stk.netTravel + 1))) ∧
        (s.stk.homing = .homed → s.stk.position + 1 = m.counts →
          t.stk.revTimer = some 0 ∧
          t.stk.revTime =
            (match s.stk.revTimer with | some x => some (min (x + elapsed) 16777215) | none => s.stk.revTime)) ∧
        (¬(s.stk.homing = .homed ∧ s.stk.position + 1 = m.counts) →
          t.stk.revTimer = s.stk.revTimer.map (· + elapsed) ∧ t.stk.revTime = s.stk.revTime)) ∧
      (¬forward →
        t.stk.position = (s.stk.position + m.counts - 1) % m.counts ∧ t.stk.direction = .backward ∧
        t.stk.revTime = none ∧ t.stk.revTimer = none ∧
        (s.stk.homing = .homed → t.stk.netTravel = min 32767 (max (-32767) (s.stk.netTravel - 1))) ∧
        t.stk.reverseCount =
          (if s.run.state = .weaving ∧ s.stk.reverseCount < 256 then s.stk.reverseCount + 1
           else s.stk.reverseCount)) ∧
      (s.stk.homing ≠ .homed → (s.run.state ≠ .weaving ∨ forward) →
        s.run.handed = [] ∨ (taken = .only [] ∧ 0 ∉ order) →
        ChangedOnly [.lines, .dlp, .shb, .hci, .stk] s t ∧ LinkLeft s.dlp t) ∧
      (let missing : Prop :=
         s.stk.homing = .homed ∧ s.stk.indexMissingRaised = false ∧ 2 * s.stk.netTravel.natAbs ≤ 3 * m.counts ∧
           3 * m.counts < 2 * t.stk.netTravel.natAbs
       let reverse : Prop :=
         ¬forward ∧ s.run.state = .weaving ∧ s.stk.reverseCount ≤ m.reverseTolerance ∧
           m.reverseTolerance < t.stk.reverseCount
       (missing → t.stk.indexMissingRaised = true) ∧
       (¬missing → t.stk.indexMissingRaised = s.stk.indexMissingRaised) ∧
       (taken = .only [] → 0 ∉ order →
         (.stop .indexMissing ∈ t.run.handed ↔ .stop .indexMissing ∈ s.run.handed ∨ missing) ∧
         (.stop .reverseInRun ∈ t.run.handed ↔ .stop .reverseInRun ∈ s.run.handed ∨ reverse) ∧
         (missing → s.dlp.transmitter ≠ none →
           Posted (.indexMissing t.stk.position t.stk.netTravel) t)))

/-- ILLEGAL_TRANSITION (05 R89, 09 R168 to R171): no step; the pair and the count change, ENCODER_FAULT is posted, and
a cause is handed, which may wait (log 6). When RUN takes it, it is a later one where it changes no state, else HALT
mode halts and STOP mode stops WEAVING, on to STOPPED at standstill. -/
def Obligations.IllegalTransitionMakesNoStep : Prop :=
  ∀ (s : State) (m : MachineRecord) (a b : Level), s.Ready → s.tbm.machine = some m → s.stk.encA = some a →
    s.stk.encB = some b →
    let record : Event :=
      .encoderIllegal s.stk.position (some (flipLevel a)) (some (flipLevel b)) s.stk.homing
    let later (c : Cause) : Event := .runState s.run.state s.run.state s.run.firstStop s.run.haltCause (some c)
    let tracker : Stk :=
      { s.stk with
        encA := some (flipLevel a), encB := some (flipLevel b), illegalCount := satInc 65535 s.stk.illegalCount }
    let cause : Cause := match m.encoderMode with | .halt => .halt .encoderFault | .stop => .stop .encoderFault
    (∃ t, exec (.illegalTransition (.only [])) s = .next t ∧ ChangedOnly [.dlp, .stk, .run] s t ∧ t.stk = tracker ∧
      t.run = { s.run with handed := s.run.handed ++ [cause] } ∧ LinkLeft (s.dlp.post record) t) ∧
    (s.run.handed = [] →
      ∃ t, exec (.illegalTransition .every) s = .next t ∧ Undisturbed s t ∧ t.stk = tracker ∧
        (m.encoderMode = .stop → s.run.state ≠ .weaving →
          ChangedOnly [.dlp, .stk, .run] s t ∧ t.run = { s.run with lastLater := some (.stop .encoderFault) } ∧
          LinkLeft (s.dlp.posts [record, later (.stop .encoderFault)]) t) ∧
        (m.encoderMode = .stop → s.run.state = .weaving → s.stk.motion = .moving →
          t.run = { s.run with state := .stopping, permit := false, firstStop := some .encoderFault } ∧
          LinkLeft
            (s.dlp.posts [record, .runState .stopping .weaving (some .encoderFault) s.run.haltCause none]) t) ∧
        (m.encoderMode = .stop → s.run.state = .weaving → s.stk.motion = .standstill →
          t.run = { s.run with state := .stopped, permit := false, firstStop := some .encoderFault } ∧
          LinkLeft
            (s.dlp.posts
              [ record, .runState .stopping .weaving (some .encoderFault) s.run.haltCause none,
                .runState .stopped .stopping (some .encoderFault) s.run.haltCause none ]) t) ∧
        (m.encoderMode = .halt → s.run.state = .offline ∨ s.run.state = .halted →
          ChangedOnly [.dlp, .stk, .run] s t ∧ t.run = { s.run with lastLater := some (.halt .encoderFault) } ∧
          LinkLeft (s.dlp.posts [record, later (.halt .encoderFault)]) t) ∧
        (m.encoderMode = .halt → s.run.state ≠ .offline → s.run.state ≠ .halted →
          t.run = { s.run with state := .halted, permit := false, haltCause := some .encoderFault } ∧
          t.shb.target = none ∧
          LinkLeft
            (s.dlp.posts [record, .runState .halted s.run.state s.run.firstStop (some .encoderFault) none]) t))

/-- INDEX_PULSE (05 R92 to R94, 09 R170, R171): UNHOMED no change; HOMING sets p to O with no crossing and becomes
HOMED; HOMED checks the folded deviation against the tolerance, and a failed check makes the tracker UNHOMED, posts
ENCODER_FAULT of kind INDEX_MISMATCH and hands the halting cause, which may wait (log 6). That the pulse lets
INDEX_MISSING be raised again is R94's "once" as log 10 reads it. -/
def Obligations.IndexPulseHomesOrChecks : Prop :=
  ∀ (s : State) (m : MachineRecord), s.Ready → s.tbm.machine = some m → s.stk.encZ = some .low →
    let r : Int := ((s.stk.position : Int) - (m.offset : Int)) % (m.counts : Int)
    let d : Int := if 2 * r ≤ (m.counts : Int) then r else r - (m.counts : Int)
    0 < m.counts →
    let record : Event := .indexMismatch s.stk.position m.offset d
    let lost : Stk := { s.stk with encZ := some .high, homing := .unhomed, revTime := none, revTimer := none }
    (∀ taken, NoneTaken taken s →
      ∃ t, exec (.indexPulse taken) s = .next t ∧ Undisturbed s t ∧
        (s.stk.homing = .unhomed →
          ChangedOnly [.dlp, .stk] s t ∧ t.stk = { s.stk with encZ := some .high } ∧ LinkLeft s.dlp t) ∧
        (s.stk.homing = .homing →
          ChangedOnly [.lines, .dlp, .shb, .hci, .stk] s t ∧
          t.stk =
            { s.stk with
              encZ := some .high, position := m.offset, homing := .homed, netTravel := 0
              indexMissingRaised := false } ∧
          LinkLeft (s.dlp.post (.homed m.offset s.stk.position s.stk.direction)) t) ∧
        (s.stk.homing = .homed → d.natAbs ≤ m.indexTolerance →
          ChangedOnly [.dlp, .stk] s t ∧
          t.stk =
            { s.stk with
              encZ := some .high, lastDeviation := some d, netTravel := 0, indexMissingRaised := false
              largestDeviation :=
                match s.stk.largestDeviation with
                | none => some d
                | some h => if h.natAbs < d.natAbs then some d else some h } ∧
          LinkLeft s.dlp t)) ∧
    (s.stk.homing = .homed → m.indexTolerance < d.natAbs →
      (∃ t, exec (.indexPulse (.only [])) s = .next t ∧ ChangedOnly [.lines, .dlp, .shb, .hci, .stk, .run] s t ∧
        t.stk = lost ∧ t.hci.required = none ∧
        t.run = { s.run with handed := s.run.handed ++ [.halt .indexMismatch] } ∧ LinkLeft (s.dlp.post record) t) ∧
      (s.run.handed = [] →
        ∃ t, exec (.indexPulse .every) s = .next t ∧ Undisturbed s t ∧ t.stk = lost ∧
          (s.run.state = .offline ∨ s.run.state = .halted →
            t.run = { s.run with lastLater := some (.halt .indexMismatch) } ∧
            LinkLeft
              (s.dlp.posts
                [ record,
                  .runState s.run.state s.run.state s.run.firstStop s.run.haltCause
                    (some (.halt .indexMismatch)) ]) t) ∧
          (s.run.state ≠ .offline → s.run.state ≠ .halted →
            t.run = { s.run with state := .halted, permit := false, haltCause := some .indexMismatch } ∧
            LinkLeft
              (s.dlp.posts
                [record, .runState .halted s.run.state s.run.firstStop (some .indexMismatch) none]) t)))

/-- STANDSTILL (05 R100, R101, 09 R169): the motion state becomes STANDSTILL and T_rev unknown; in STOPPING the run
state becomes STOPPED, the first stop cause kept, and in every other state it does not change. -/
def Obligations.StandstillIsDeclared : Prop :=
  ∀ (s : State) (ms : Nat), s.Ready → s.stk.standstillTimer = some ms →
    ∃ t, exec .standstill s = .next t ∧ Undisturbed s t ∧
      t.stk = { s.stk with motion := .standstill, standstillTimer := none, revTime := none, revTimer := none } ∧
      (s.run.state ≠ .stopping → ChangedOnly [.dlp, .stk] s t ∧ LinkLeft s.dlp t) ∧
      (s.run.state = .stopping →
        ChangedOnly [.lines, .dlp, .shb, .hci, .stk, .drv, .run] s t ∧
        t.run = { s.run with state := .stopped, permit := false } ∧
        LinkLeft (s.dlp.post (.runState .stopped .stopping s.run.firstStop s.run.haltCause none)) t)

/-- ARV_RISE (07 R128): in an OPEN window with no capture and the tracker HOMED the angle is captured and written into
CURRENT; with a capture already set the rise is ignored; otherwise it is counted as spurious. -/
def Obligations.ArvRiseIsCapturedOrSpurious : Prop :=
  ∀ (s : State) (m : MachineRecord), s.Ready → s.tbm.machine = some m → s.wfm.arv = some .low →
    ∃ t, exec .arvRise s = .next t ∧ ChangedOnly [.dlp, .psq, .wfm] s t ∧ LinkLeft s.dlp t ∧
      (s.wfm.window = none ∨ (s.wfm.capture = none ∧ s.angle = none) →
        t.psq = s.psq ∧
        t.wfm = { s.wfm with arv := some .high, spurious := satInc 4294967295 s.wfm.spurious }) ∧
      (∀ o a, s.wfm.window = some o → s.wfm.capture = some a →
        t.psq = s.psq ∧ t.wfm = { s.wfm with arv := some .high }) ∧
      (∀ o a, s.wfm.window = some o → s.wfm.capture = none → s.angle = some a →
        t.psq = { s.psq with current := s.psq.current.map fun r => { r with arrival := some a } } ∧
        t.wfm = { s.wfm with arv := some .high, capture := some a })

/-- FEEDER_BREAK (07 R126, R134, R135, 09 R167, R169): a line that is not watched alarms; the watched line faults an
ARMED pick and hands FEEDER_BREAK, which may wait (log 6) or at once ends WEAVING, in STOPPING or at standstill in
STOPPED; with no ARMED pick the watch ends and nothing is posted. The angle WEFT_FAULT carries while the tracker is not
HOMED is that of the position count: the model's reading, log 8. -/
def Obligations.FeederBreakAlarmsOrFaults : Prop :=
  ∀ (s : State) (m : MachineRecord) (f : FeederIdx), s.Ready → s.tbm.machine = some m →
    s.wfm.feeders[f] = some .low →
    let broken : Wfm := { s.wfm with feeders := s.wfm.feeders.set f.val (some .high) }
    (∀ taken, NoneTaken taken s →
      ∃ t, exec (.feederBreak f taken) s = .next t ∧ t.tbm = s.tbm ∧ t.stk = s.stk ∧ t.pending = s.pending ∧
        (s.wfm.watch ≠ some f →
          ChangedOnly [.dlp, .wfm] s t ∧ t.wfm = broken ∧
          LinkLeft
            (s.dlp.post
              (.feederAlarm f s.angle s.run.state (s.psq.current.map fun r => (r.ordinal, r.weft)))) t) ∧
        (s.wfm.watch = some f → s.currentArmed = false →
          ChangedOnly [.dlp, .wfm] s t ∧ t.wfm = { broken with watch := none } ∧ LinkLeft s.dlp t)) ∧
    (∀ r, s.wfm.watch = some f → s.psq.current = some r → r.state = .armed →
      let fault : Event := .weftFault r.ordinal r.row r.weft s.countAngle r.arrival (.feeder f)
      let faulted : Psq := { s.psq with current := some { r with state := .faulted, cause := some .feeder } }
      let counted : Wfm := { broken with watch := none, weftFaults := satInc 4294967295 s.wfm.weftFaults }
      let cause : StopCause := .feederBreak r.ordinal
      (∃ t, exec (.feederBreak f (.only [])) s = .next t ∧ ChangedOnly [.dlp, .psq, .wfm, .run] s t ∧
        t.psq = faulted ∧ t.wfm = counted ∧ t.run = { s.run with handed := s.run.handed ++ [.stop cause] } ∧
        LinkLeft (s.dlp.post fault) t) ∧
      (s.run.state = .weaving → s.run.handed = [] →
        ∃ t, exec (.feederBreak f .every) s = .next t ∧ t.tbm = s.tbm ∧ t.stk = s.stk ∧ t.pending = s.pending ∧
          t.psq = faulted ∧ t.wfm = { counted with window := none, capture := none } ∧
          (s.stk.motion = .moving →
            t.run = { s.run with state := .stopping, permit := false, firstStop := some cause } ∧
            LinkLeft
              (s.dlp.posts [fault, .runState .stopping .weaving (some cause) s.run.haltCause none]) t) ∧
          (s.stk.motion = .standstill →
            t.run = { s.run with state := .stopped, permit := false, firstStop := some cause } ∧
            LinkLeft
              (s.dlp.posts
                [ fault, .runState .stopping .weaving (some cause) s.run.haltCause none,
                  .runState .stopped .stopping (some cause) s.run.haltCause none ]) t)))

/-! ### Crossings of the pick boundary and of the effective latch angle -/

/-- A forward boundary crossing (01 R3, R5, R14 to R17, R22, 06 R107, R111, R112, R115, 08 R150), the step's crossings
taken in the default order (log 6). With D above 0 it falls by one; with NEXT named by the tag CURRENT enters PH with
PICK_DONE, the oldest of sixteen leaving, NEXT becomes CURRENT and is filled from RL, else PQ, with LOW_WATER where
held ahead falls below the mark; otherwise a dwell is counted. Every PER_PICK block is released. The FORWARD snapshot
takes its advance from the T_rev of this crossing. In WEAVING a PENDING pick promoted is armed, an action or window
angle clipped to 0 being taken in the same step, or settled: INSERTED without a channel, FAULTED with cause CHANNEL
where its channel or profile cannot be used. -/
def Obligations.ForwardBoundaryMovesTheRun : Prop :=
  ∀ (s : State) (m : MachineRecord) (line : EncLine) (elapsed : Nat),
    StepReady m line .forward s → s.stk.position + 1 = m.counts →
    let named (n : PickRecord) := s.hci.tag.ordinal = some n.ordinal ∧ s.hci.tag.stale = false
    let woven (c : PickRecord) : PickRecord :=
      { c with state := if c.state = .pending then .unwoven else c.state, weaveCount := satInc 255 c.weaveCount }
    let advance :=
      advanceOf (match s.stk.revTimer with | some x => some (min (x + elapsed) 16777215) | none => s.stk.revTime)
    let snapshot (a : Option ArmedPart) : Snapshot :=
      { entry := .forward, hookAdvance := advance m.hookLatency, latchAngle := m.latchAngle - advance m.hookLatency
        armed := a }
    (∀ taken, NoneTaken taken s →
      ∃ t, exec (.encoderStep line elapsed [] taken) s = .next t ∧ Undisturbed s t ∧ t.psq.expected = s.psq.expected ∧
        (0 < s.psq.depth →
          t.psq.depth = s.psq.depth - 1 ∧ t.psq.history = s.psq.history ∧ t.psq.nextPick = s.psq.nextPick ∧
          t.psq.replay = s.psq.replay ∧ t.psq.queue = s.psq.queue ∧ t.currentOrdinal = s.currentOrdinal ∧
          t.psq.dwells = s.psq.dwells ∧ t.psq.picksEntered = s.psq.picksEntered) ∧
        (∀ n, s.psq.depth = 0 → s.psq.nextPick = some n → named n →
          t.psq.depth = 0 ∧ t.currentOrdinal = some n.ordinal ∧ t.psq.dwells = s.psq.dwells ∧
          t.psq.nextPick.toList ++ t.psq.replay ++ t.psq.queue = s.psq.replay ++ s.psq.queue ∧
          (t.psq.nextPick = none → t.psq.replay = [] ∧ t.psq.queue = []) ∧
          (s.psq.current = none →
            t.psq.history = s.psq.history ∧ t.psq.picksEntered = s.psq.picksEntered) ∧
          (∀ c, s.psq.current = some c →
            t.psq.history =
              (if 16 ≤ s.psq.history.length then s.psq.history.drop 1 else s.psq.history) ++ [woven c] ∧
            t.psq.picksEntered = satInc 4294967295 s.psq.picksEntered)) ∧
        (s.psq.depth = 0 → (∀ n, s.psq.nextPick = some n → ¬named n) →
          t.psq.depth = 0 ∧ t.psq.history = s.psq.history ∧ t.psq.nextPick = s.psq.nextPick ∧
          t.psq.replay = s.psq.replay ∧ t.psq.queue = s.psq.queue ∧ t.currentOrdinal = s.currentOrdinal ∧
          t.psq.dwells = satInc 4294967295 s.psq.dwells ∧ t.psq.picksEntered = s.psq.picksEntered)) ∧
    (∃ t, exec (.encoderStep line elapsed [] (.only [])) s = .next t ∧
      t.run = { s.run with handed := t.run.handed } ∧
      t.asc.snapshot = some (snapshot t.armedPart) ∧
      (∀ dc : DriverIdx,
        let c := s.drv.channels[dc]
        (c.phase = .blocked → c.block = some .perPick →
          (t.drv.channels[dc]).phase ≠ .blocked ∧ (t.drv.channels[dc]).block = none ∧
          (t.armedPart = none → t.drv.channels[dc] = { c with phase := .idle, block := none })) ∧
        (c.phase = .blocked → c.block ≠ some .perPick → t.drv.channels[dc] = c) ∧
        (c.phase ≠ .blocked → t.armedPart = none → t.drv.channels[dc] = c)) ∧
      (0 < s.psq.depth ∨ (∀ n, s.psq.nextPick = some n → ¬named n) →
        t.armedPart = none ∧ t.psq.current = s.psq.current ∧ t.psq.warningReady = s.psq.warningReady) ∧
      (∀ n, s.psq.depth = 0 → s.psq.nextPick = some n → named n →
        (∀ c, s.psq.current = some c → s.dlp.transmitter ≠ none → Posted (.pickDone (woven c)) t) ∧
        (s.psq.warningReady = true → s.heldAhead = m.lowWater → 0 < m.lowWater →
          t.psq.warningReady = false ∧
          (s.dlp.transmitter ≠ none → Posted (.lowWater (m.lowWater - 1) s.psq.expected) t)) ∧
        (¬(s.psq.warningReady = true ∧ s.heldAhead = m.lowWater ∧ 0 < m.lowWater) →
          t.psq.warningReady = s.psq.warningReady) ∧
        (s.run.state ≠ .weaving ∨ n.state ≠ .pending → t.armedPart = none ∧ t.psq.current = some n) ∧
        (s.run.state = .weaving → n.state = .pending → n.weft = 0 →
          t.armedPart = none ∧ t.psq.current = some { n with state := .inserted }) ∧
        (∀ w prof, s.run.state = .weaving → n.state = .pending → n.weft ≠ 0 →
          s.tbm.weftRecord n.weft = some w → w.enabled = true → s.tbm.profiles[n.profile] = some prof →
          prof.actions.length ≤ 8 →
          ∃ part, ArmedFrom s.tbm m advance n.ordinal w prof part ∧
            t.armedPart =
              some
                { part with
                  actions := part.actions.map fun x => { x with fired := decide (x.effective = 0) }
                  openHanded := decide (part.windowOpen = 0), closeHanded := decide (part.windowClose = 0) } ∧
            ((∀ x ∈ part.actions, 0 < x.effective) → 0 < part.windowOpen → 0 < part.windowClose →
              t.psq.current = some { n with state := .armed, clipped := part.clipped })) ∧
        (∀ reason, s.run.state = .weaving → n.state = .pending → n.weft ≠ 0 →
          (reason = .channelAbsent ∧ s.tbm.weftRecord n.weft = none) ∨
          (∃ w, s.tbm.weftRecord n.weft = some w ∧
            ((reason = .channelDisabled ∧ w.enabled = false) ∨
             (reason = .profileAbsent ∧ w.enabled = true ∧ s.tbm.profiles[n.profile] = none))) →
          t.armedPart = none ∧ t.psq.current = some { n with state := .faulted, cause := some .channel } ∧
          t.wfm.weftFaults = satInc 4294967295 s.wfm.weftFaults ∧ .stop (.weftChannel n.ordinal) ∈ t.run.handed ∧
          (s.dlp.transmitter ≠ none → Posted (.weftFault n.ordinal n.row n.weft 0 n.arrival (.channel reason)) t))))

/-- A backward boundary crossing (01 R6, R18, R19, R22, 06 R107, R120, 07 R130), in the default order (log 6): an armed
part is disarmed, OFF going to every channel it reaches and the window closing unjudged, and an ARMED CURRENT becomes
PENDING with its outcome cleared. With PH non-empty the run is unwound and CURRENT is the newest record of PH as it
was; with PH empty D rises, at most to 255. BACKSTEP is posted, and the BACKWARD snapshot has no advance. -/
def Obligations.BackwardBoundaryUnwindsTheRun : Prop :=
  ∀ (s : State) (m : MachineRecord) (line : EncLine) (elapsed : Nat) (taken : CausesTaken),
    StepReady m line .backward s → s.stk.position = 0 → NoneTaken taken s →
    let disarmed (r : PickRecord) : PickRecord := if r.state = .armed then r.unwound else r
    ∃ t, exec (.encoderStep line elapsed [] taken) s = .next t ∧ Undisturbed s t ∧ t.psq.queue = s.psq.queue ∧
      t.psq.expected = s.psq.expected ∧ t.psq.dwells = s.psq.dwells ∧ t.psq.picksEntered = s.psq.picksEntered ∧
      t.asc.snapshot = some { entry := .backward, hookAdvance := 0, latchAngle := m.latchAngle, armed := none } ∧
      (∀ a, s.armedPart = some a →
        t.wfm = { s.wfm with window := none, capture := none, watch := none } ∧
        (∀ dc : DriverIdx, (∃ x ∈ a.actions, x.channel = dc) →
          t.drv.channels[dc] = (s.drv.channels[dc]).switchedOff) ∧
        (taken = .only [] → ∀ dc : DriverIdx, (∀ x ∈ a.actions, x.channel ≠ dc) →
          t.drv.channels[dc] = s.drv.channels[dc])) ∧
      (s.armedPart = none → taken = .only [] → t.wfm = s.wfm ∧ t.drv = s.drv) ∧
      (∀ newest, s.psq.history.getLast? = some newest →
        t.psq.history = s.psq.history.dropLast ∧ t.currentOrdinal = some newest.ordinal ∧
        (taken = .only [] ∨ newest.state ≠ .armed → t.psq.current = some newest) ∧
        t.psq.nextPick = s.psq.current.map PickRecord.unwound ∧
        t.psq.replay = s.psq.nextPick.toList ++ s.psq.replay ∧ t.psq.depth = s.psq.depth ∧
        t.psq.warningReady =
          (s.psq.warningReady || decide (0 < m.lowWater ∧ m.lowWater ≤ t.psq.replay.length + t.psq.queue.length)) ∧
        (s.dlp.transmitter ≠ none →
          Posted (.backstep (some (newest.ordinal, newest.state)) s.currentOrdinal s.psq.depth) t)) ∧
      (s.psq.history = [] →
        t.psq.history = [] ∧ t.psq.nextPick = s.psq.nextPick ∧ t.psq.replay = s.psq.replay ∧
        t.psq.depth = satInc 255 s.psq.depth ∧ t.psq.warningReady = s.psq.warningReady ∧
        t.psq.current = s.psq.current.map disarmed ∧
        (s.dlp.transmitter ≠ none →
          Posted
            (.backstep (s.psq.current.map fun r => (r.ordinal, (disarmed r).state)) s.nextOrdinal
              (satInc 255 s.psq.depth)) t))

/-- A crossing of the effective latch angle in WEAVING or STOPPING (04 R71 to R73, R75, 06 R117), in the default order
(log 6): a forward request is for NEXT, a backward one for CURRENT. With every used chain READY with it one strobe sets
the tag; with the slot empty, or a chain not READY, no strobe is driven, the tag stays and LATE_IMAGE is posted. The
NOT_READY record lists the chains with modules in increasing chain number, with no chain number (the model's choice, log
22). A forward miss in WEAVING alone hands STARVED or LATE_IMAGE, and RUN taking it stops the loom. In STOPPED (R76, R77) a
crossing of L or of angle 0 evaluates the required pick, and a latch that is due fires when every used chain is READY. -/
def Obligations.LatchRequestFiresOrStops : Prop :=
  (∀ (s : State) (m : MachineRecord) (line : EncLine) (elapsed : Nat) (dir : Direction) (sn : Snapshot),
    StepReady m line dir s →
    let target : Option PickRecord := match dir with | .forward => s.psq.nextPick | .backward => s.psq.current
    let crossed : Prop :=
      match dir with
      | .forward =>
        s.stk.position + 1 < m.counts ∧ angleOf m.counts s.stk.position < sn.latchAngle ∧
          sn.latchAngle ≤ angleOf m.counts (s.stk.position + 1)
      | .backward =>
        0 < s.stk.position ∧ angleOf m.counts (s.stk.position - 1) < sn.latchAngle ∧
          sn.latchAngle ≤ angleOf m.counts s.stk.position
    crossed → s.asc.snapshot = some sn → s.run.state = .weaving ∨ s.run.state = .stopping →
    let stops : Prop := dir = .forward ∧ s.run.state = .weaving
    let starved : Prop := target = none
    let late (o : Sys2Proof.Ordinal) : Prop := ∃ n, target = some n ∧ n.ordinal = o ∧ s.allReady o = false
    (∃ t, exec (.encoderStep line elapsed [] (.only [])) s = .next t ∧ Undisturbed s t ∧
      t.run = { s.run with handed := t.run.handed } ∧ { t.psq with current := s.psq.current } = s.psq ∧
      t.asc.snapshot.map (fun x => { x with armed := none }) = some { sn with armed := none } ∧
      (∀ n, target = some n → s.allReady n.ordinal = true →
        t.hci.tag = { ordinal := some n.ordinal, stale := false, degraded := s.anyDegraded } ∧
        t.lineOut.filter (fun x => x = .strobe) = [.strobe]) ∧
      (∀ o, late o →
        t.hci.tag = s.hci.tag ∧ LineItem.strobe ∉ t.lineOut ∧
        (s.dlp.transmitter ≠ none →
          Posted
            (.lateNotReady dir o s.hci.tag s.run.state
              (t.usedChains.map fun k =>
                { state := (t.hci.chains[k]).phase.name, ordinal := (t.hci.chains[k]).phase.ordinal? })) t)) ∧
      (starved →
        t.hci.tag = s.hci.tag ∧ LineItem.strobe ∉ t.lineOut ∧
        (s.dlp.transmitter ≠ none → Posted (.lateStarved dir s.hci.tag s.run.state) t)) ∧
      (.stop .starved ∈ t.run.handed ↔ .stop .starved ∈ s.run.handed ∨ (starved ∧ stops)) ∧
      (∀ o, .stop (.lateImage o) ∈ t.run.handed ↔ .stop (.lateImage o) ∈ s.run.handed ∨ (late o ∧ stops))) ∧
    (stops → s.run.handed = [] → ∀ cause, (cause = .starved ∧ starved) ∨ (∃ o, cause = .lateImage o ∧ late o) →
      ∃ t, exec (.encoderStep line elapsed [] .every) s = .next t ∧ t.hci.tag = s.hci.tag ∧
        LineItem.strobe ∉ t.lineOut ∧ t.run.state = .stopping ∧ t.run.permit = false ∧
        t.run.firstStop = some cause)) ∧
  (∀ (s : State) (m : MachineRecord) (line : EncLine) (elapsed : Nat) (dir : Direction),
    StepReady m line dir s → s.run.state = .stopped →
    let info := stepInfo m.counts s.stk.position dir
    info.crosses 0 = true ∨ info.crosses m.latchAngle = true →
    ∃ t, exec (.encoderStep line elapsed [] (.only [])) s = .next t ∧ t.run = { s.run with handed := t.run.handed } ∧
      t.hci.required =
        (if angleOf m.counts t.stk.position < m.latchAngle then t.currentOrdinal else t.nextOrdinal) ∧
      (∀ o, t.hci.required = some o → t.allReady o = true → t.tagNames o = true) ∧
      (∀ n, info.wrap = false → s.stk.direction = dir →
        (match dir with | .forward => s.psq.nextPick | .backward => s.psq.current) = some n →
        (s.allReady n.ordinal = true → s.tagNames n.ordinal = false →
          LineItem.strobe ∈ t.lineOut ∧
          t.hci.tag = { ordinal := some n.ordinal, stale := false, degraded := s.anyDegraded }) ∧
        (s.allReady n.ordinal = false ∨ s.tagNames n.ordinal = true →
          LineItem.strobe ∉ t.lineOut ∧ t.hci.tag = s.hci.tag)))

/-- A forward step in WEAVING with an armed part, off the boundary and the effective latch angle (06 R114 to R116, 07
R127, R129, R132, R133, 08 R141, R142), in the default order (log 6): every action whose effective angle is crossed has
fired; a channel that one of them reaches goes on from IDLE by its settings, or off, and others do not change (a
blanking of 0 is log 18). The first SELECTOR ON of the part begins the watch of the channel's feeder line, and a line
then at BREAK faults an ARMED pick. Each window angle crossed is handed: an opening opens the window for CURRENT, and a
closing ends window and watch and judges an ARMED pick, INSERTED with a capture, else FAULTED with cause MISSING, whose
stop cause, taken, stops the loom. -/
def Obligations.ArmedPartIsWorkedThrough : Prop :=
  ∀ (s : State) (m : MachineRecord) (line : EncLine) (elapsed : Nat) (sn : Snapshot) (part : ArmedPart),
    let crossed (angle : Nat) : Bool :=
      decide (angleOf m.counts s.stk.position < angle ∧ angle ≤ angleOf m.counts (s.stk.position + 1))
    let fires (x : ArmedAction) : Prop := x.fired = false ∧ crossed x.effective = true
    let selects (x : ArmedAction) : Prop := x.viaSelector = true ∧ x.switching = .on
    let starts : Prop :=
      part.closeHanded = false ∧ (∀ x ∈ part.actions, selects x → x.fired = false) ∧
        ∃ x ∈ part.actions, selects x ∧ fires x
    let broken : Prop := starts ∧ ∃ f, part.weft.feeder = some f ∧ s.wfm.feeders[f] = some .high
    let opens : Prop := part.openHanded = false ∧ crossed part.windowOpen = true
    let closes : Prop := part.closeHanded = false ∧ crossed part.windowClose = true
    let angle := angleOf m.counts (s.stk.position + 1)
    let missed (r : PickRecord) : Prop :=
      closes ∧ ¬broken ∧ s.psq.current = some r ∧ r.state = .armed ∧
        (opens ∨ (part.openHanded = true ∧ s.wfm.window ≠ none ∧ s.wfm.capture = none))
    StepReady m line .forward s → s.stk.position + 1 < m.counts → s.run.state = .weaving →
    s.asc.snapshot = some sn → sn.armed = some part → part.actions.length ≤ 8 → crossed sn.latchAngle = false →
    (∃ t, exec (.encoderStep line elapsed [] (.only [])) s = .next t ∧ Undisturbed s t ∧
      t.run = { s.run with handed := t.run.handed } ∧ { t.psq with current := s.psq.current } = s.psq ∧
      t.asc.snapshot =
        some
          { sn with
            armed :=
              some
                { part with
                  actions := part.actions.map fun x => { x with fired := x.fired || crossed x.effective }
                  openHanded := part.openHanded || crossed part.windowOpen
                  closeHanded := part.closeHanded || crossed part.windowClose } } ∧
      t.drv.test = s.drv.test ∧
      (∀ dc : DriverIdx, (∀ x ∈ part.actions, x.channel = dc → ¬fires x) →
        t.drv.channels[dc] = s.drv.channels[dc]) ∧
      (∀ (before after : List ArmedAction) (x : ArmedAction), part.actions = before ++ x :: after → fires x →
        (∀ y ∈ before ++ after, y.channel = x.channel → ¬fires y) →
        let c := s.drv.channels[x.channel]
        let d := (part.copies.find? fun y => y.channel = x.channel).bind SettingsCopy.settings
        let on (d : DriverSettings) (phase : DrivePhase) : DriverChannel :=
          { c with
            phase := phase, inUse := some { settings := d, fromSnapshot := true }, flagOvercurrent := false
            flagOpenLoad := false, offTimer := none, deglitchTimer := none
            peakTimer := if d.openLoadMode = .disabled then none else some d.peakTimeLimit
            blankTimer := if d.blanking = 0 then none else some d.blanking }
        (x.switching = .off → t.drv.channels[x.channel] = c.switchedOff) ∧
        (∀ d', x.switching = .on → c.phase = .idle → d = some d' →
          (d'.mode = .peakHold → t.drv.channels[x.channel] = on d' .peak) ∧
          (d'.mode = .direct → t.drv.channels[x.channel] = on d' .directOn) ∧
          (d'.mode = .off → t.drv.channels[x.channel] = c)) ∧
        (x.switching = .on → c.phase ≠ .idle → t.drv.channels[x.channel] = c) ∧
        (x.switching = .on → (∃ y ∈ part.copies, y.channel = x.channel) → d = none →
          t.drv.channels[x.channel] = c)) ∧
      (¬closes →
        (∀ r, opens → s.psq.current = some r → t.wfm.window = some r.ordinal ∧ t.wfm.capture = none) ∧
        (¬opens → t.wfm.window = s.wfm.window ∧ t.wfm.capture = s.wfm.capture) ∧
        (¬starts ∨ part.weft.feeder = none → t.wfm.watch = s.wfm.watch) ∧
        (∀ f, starts → part.weft.feeder = some f →
          (s.wfm.feeders[f] ≠ some .high → t.wfm.watch = some f) ∧
          (s.wfm.feeders[f] = some .high → t.wfm.watch = none))) ∧
      (∀ f r, starts → part.weft.feeder = some f → s.wfm.feeders[f] = some .high → s.psq.current = some r →
        r.state = .armed →
        t.psq.current = some { r with state := .faulted, cause := some .feeder } ∧
        t.wfm.weftFaults = satInc 4294967295 s.wfm.weftFaults ∧ .stop (.feederBreak r.ordinal) ∈ t.run.handed ∧
        (s.dlp.transmitter ≠ none → Posted (.weftFault r.ordinal r.row r.weft angle r.arrival (.feeder f)) t)) ∧
      (closes → t.wfm.window = none ∧ t.wfm.capture = none ∧ t.wfm.watch = none) ∧
      (∀ r, s.psq.current = some r →
        ((¬closes ∧ ¬broken) ∨ r.state ≠ .armed →
          t.psq.current = some r ∧ t.wfm.weftFaults = s.wfm.weftFaults) ∧
        (∀ a, closes → ¬broken → ¬opens → r.state = .armed → s.wfm.window ≠ none → s.wfm.capture = some a →
          t.psq.current = some { r with state := .inserted, revTime := s.stk.revTime } ∧
          t.wfm.weftFaults = s.wfm.weftFaults) ∧
        (missed r →
          t.psq.current = some { r with state := .faulted, cause := some .missing } ∧
          t.wfm.weftFaults = satInc 4294967295 s.wfm.weftFaults ∧ .stop (.weftMissing r.ordinal) ∈ t.run.handed ∧
          (s.dlp.transmitter ≠ none → Posted (.weftFault r.ordinal r.row r.weft angle r.arrival .missing) t)))) ∧
    (∀ r, missed r → s.run.handed = [] →
      ∃ t, exec (.encoderStep line elapsed [] .every) s = .next t ∧
        t.psq.current = some { r with state := .faulted, cause := some .missing } ∧ t.wfm.window = none ∧
        t.run.state = .stopping ∧ t.run.permit = false ∧ t.run.firstStop = some (.weftMissing r.ordinal))

/-! ### Driver channels -/

/-- Current shaping (08 R143 to R145, R147): each event changes one driving channel as stated and nothing else. `c` is
the channel, `d` its settings in use; currents are in mA, a level code is 250 mA (log 3). That the peak level takes an
unblanked channel on to HOLD_OFF in the same step is log 17; the hold comparison and the deglitch time kept at a
blanking of 0 are log 18. -/
def Obligations.CurrentIsShaped : Prop :=
  ∀ (s : State) (dc : DriverIdx) (c : DriverChannel) (u : InUse) (current : Nat),
    let d := u.settings
    let becomes (i : Instr) (c' : DriverChannel) :=
      ∃ t, exec i s = .next t ∧ ChangedOnly [.dlp, .drv] s t ∧
        t.drv = { s.drv with channels := s.drv.channels.set dc.val c' } ∧ LinkLeft s.dlp t
    s.Ready → s.drv.channels[dc] = c → c.inUse = some u →
    (c.phase = .peak → c.blankTimer = none → d.holdLevel ≤ d.peakLevel →
      becomes (.peakLevelReached dc)
        { c with phase := .holdOff, peakTimer := none, offTimer := some d.chopOffTime }) ∧
    (c.phase = .peak → c.blankTimer ≠ none →
      becomes (.peakLevelReached dc) { c with phase := .holdOn, peakTimer := none }) ∧
    (c.phase = .holdOn → c.blankTimer = none →
      becomes (.holdLevelReached dc) { c with phase := .holdOff, offTimer := some d.chopOffTime }) ∧
    (c.phase = .holdOn → c.blankTimer ≠ none → becomes (.holdLevelReached dc) c) ∧
    (c.phase = .directOn → becomes (.directLoadReached dc) { c with peakTimer := none }) ∧
    (c.phase = .holdOff → c.offTimer ≠ none → 0 < d.blanking →
      becomes (.chopOffTimeEnd dc current)
        { c with phase := .holdOn, offTimer := none, blankTimer := some d.blanking, deglitchTimer := none }) ∧
    (c.phase = .holdOff → c.offTimer ≠ none → d.blanking = 0 → current < 250 * d.holdLevel →
      becomes (.chopOffTimeEnd dc current) { c with phase := .holdOn, offTimer := none, blankTimer := none }) ∧
    (c.phase = .holdOff → c.offTimer ≠ none → d.blanking = 0 → 250 * d.holdLevel ≤ current →
      becomes (.chopOffTimeEnd dc current) { c with blankTimer := none, offTimer := some d.chopOffTime }) ∧
    (c.phase.driving = true → c.blankTimer ≠ none →
      let deglitch :=
        if 250 * d.overcurrentLevel ≤ current ∧ c.deglitchTimer = none ∧ d.overcurrentMode ≠ .disabled then
          some d.deglitch
        else c.deglitchTimer
      (c.phase = .holdOn ∧ 250 * d.holdLevel ≤ current →
        becomes (.blankingEnd dc current)
          { c with
            blankTimer := none, phase := .holdOff, offTimer := some d.chopOffTime, deglitchTimer := deglitch }) ∧
      (¬(c.phase = .holdOn ∧ 250 * d.holdLevel ≤ current) →
        becomes (.blankingEnd dc current) { c with blankTimer := none, deglitchTimer := deglitch })) ∧
    (c.phase.driving = true → c.blankTimer = none → c.deglitchTimer = none → d.overcurrentMode ≠ .disabled →
      becomes (.overcurrentRise dc) { c with deglitchTimer := some d.deglitch }) ∧
    (c.phase.driving = true → c.blankTimer ≠ none ∨ d.overcurrentMode = .disabled →
      becomes (.overcurrentRise dc) c) ∧
    (c.phase.driving = true → becomes (.overcurrentFall dc) { c with deglitchTimer := none })

/-- PEAK_TIME_LIMIT_END and DEGLITCH_END (08 R146 to R149, R153, 07 R136, 09 R167, R169, R170) by the fault mode in
use: REPORT records the fault once a switch-on; PER_PICK blocks the affected channels, and where an armed part, an
ARMED pick and a blocked channel it relies on come together the pick is FAULTED and WEFT_DRIVER handed, else nothing
more; LATCH blocks them and hands DRIVER_LATCH. A cause handed may wait (log 6), the other channels driving on; taken
at once it ends or halts the run. The angle WEFT_FAULT carries off HOMED is log 8. -/
def Obligations.DriverFaultsAreHandled : Prop :=
  ∀ (s : State) (dc : DriverIdx) (kind : DriverFaultKind) (c : DriverChannel) (u : InUse),
    let d := u.settings
    let affected (i : DriverIdx) : Prop :=
      i = dc ∨ (d.scope = .group ∧ ∃ x, s.tbm.drivers[i] = some x ∧ x.group = d.group)
    let event (mode : FaultMode) (blocked : List DriverIdx) : Event :=
      .driverFault dc kind mode d.scope blocked c.phase s.run.state s.currentOrdinal s.angle
    let relied (i : DriverIdx) : Prop :=
      affected i ∧ ∃ part, s.armedPart = some part ∧ (part.weft.selector = i ∨ ∃ x ∈ part.actions, x.channel = i)
    let relies : Prop := s.currentArmed = true ∧ ∃ i, relied i
    let blocks (b : BlockKind) (t : State) : Prop :=
      t.drv.test = s.drv.test ∧ (t.drv.channels[dc]).phase = .blocked ∧ (t.drv.channels[dc]).block = some b ∧
      (t.drv.channels[dc]).faultCount = satInc 255 c.faultCount ∧ (t.drv.channels[dc]).hasFlag kind = true ∧
      (∀ i, i ≠ dc → affected i → t.drv.channels[i] = (s.drv.channels[i]).blockedBy b) ∧
      (∀ i, ¬affected i → t.drv.channels[i] = s.drv.channels[i])
    s.Ready → s.run.state = .weaving → s.drv.channels[dc] = c → c.inUse = some u → c.phase.driving = true →
    DriverChannel.timerOf c kind ≠ none →
    let c0 := DriverChannel.timerOut c kind
    (∀ taken, NoneTaken taken s →
      ∃ t, exec (faultCommand dc taken kind) s = .next t ∧ Undisturbed s t ∧ t.stk = s.stk ∧
        (d.modeOf kind = .report → c.hasFlag kind = true →
          ChangedOnly [.dlp, .drv] s t ∧ t.drv = { s.drv with channels := s.drv.channels.set dc.val c0 } ∧
          LinkLeft s.dlp t) ∧
        (d.modeOf kind = .report → c.hasFlag kind = false →
          ChangedOnly [.dlp, .drv] s t ∧
          t.drv = { s.drv with channels := s.drv.channels.set dc.val (c0.recordFault kind) } ∧
          LinkLeft (s.dlp.post (event .report [])) t) ∧
        (d.modeOf kind = .perPick → ¬relies →
          ChangedOnly [.dlp, .drv] s t ∧ blocks .perPick t ∧
          ∃ blocked : List DriverIdx, (∀ i, i ∈ blocked ↔ affected i) ∧
            LinkLeft (s.dlp.post (event .perPick blocked)) t)) ∧
    (∃ t, exec (faultCommand dc (.only []) kind) s = .next t ∧
      (d.modeOf kind = .latch →
        ChangedOnly [.dlp, .drv, .run] s t ∧ blocks .latch t ∧
        t.run = { s.run with handed := s.run.handed ++ [.halt (.driverLatch dc)] } ∧
        ∃ blocked : List DriverIdx, (∀ i, i ∈ blocked ↔ affected i) ∧
          LinkLeft (s.dlp.post (event .latch blocked)) t) ∧
      (∀ r, d.modeOf kind = .perPick → relies → s.psq.current = some r →
        ChangedOnly [.dlp, .psq, .wfm, .drv, .run] s t ∧ blocks .perPick t ∧
        t.psq = { s.psq with current := some { r with state := .faulted, cause := some .driver } } ∧
        t.wfm = { s.wfm with weftFaults := satInc 4294967295 s.wfm.weftFaults } ∧
        t.run = { s.run with handed := s.run.handed ++ [.stop (.weftDriver r.ordinal)] } ∧
        ∃ blocked named : List DriverIdx, (∀ i, i ∈ blocked ↔ affected i) ∧ (∀ i, i ∈ named ↔ relied i) ∧
          LinkLeft
            (s.dlp.posts
              [event .perPick blocked, .weftFault r.ordinal r.row r.weft s.countAngle r.arrival (.driver named)])
            t)) ∧
    (s.run.handed = [] →
      ∃ t, exec (faultCommand dc .every kind) s = .next t ∧ Undisturbed s t ∧ t.stk = s.stk ∧
        t.drv.test = s.drv.test ∧
        (∀ r, d.modeOf kind = .perPick → relies → s.psq.current = some r →
          t.psq = { s.psq with current := some { r with state := .faulted, cause := some .driver } } ∧
          t.run =
            { s.run with
              state := if s.stk.motion = .moving then .stopping else .stopped
              permit := false, firstStop := some (.weftDriver r.ordinal) } ∧
          t.wfm.weftFaults = satInc 4294967295 s.wfm.weftFaults ∧
          (t.drv.channels[dc]).phase = .blocked ∧ (t.drv.channels[dc]).block = some .perPick) ∧
        (d.modeOf kind = .latch →
          t.run = { s.run with state := .halted, permit := false, haltCause := some (.driverLatch dc) } ∧
          t.psq = { s.psq with current := s.psq.current.map PickRecord.interrupt } ∧ t.armedPart = none ∧
          (t.drv.channels[dc]).phase = .blocked ∧ (t.drv.channels[dc]).block = some .latch ∧
          (t.drv.channels[dc]).faultCount = satInc 255 c.faultCount ∧
          (∀ i, i ≠ dc → affected i →
            t.drv.channels[i] = ((s.drv.channels[i]).blockedBy .latch).switchedOff) ∧
          (∀ i, ¬affected i → t.drv.channels[i] = (s.drv.channels[i]).switchedOff)))

/-- TEST_END (08 R155): SHORTED at or above the short level, LOAD_PRESENT at 20 mA or more, else OPEN; the channel is
IDLE again with its result and TEST_DONE is posted. -/
def Obligations.TestEndJudges : Prop :=
  ∀ (s : State) (test : OffTest) (current : Nat), s.Ready → s.drv.test = some test →
    let result : TestResult :=
      if 250 * test.shortLevel ≤ current then .shorted else if 20 ≤ current then .loadPresent else .open
    ∃ t, exec (.testEnd current) s = .next t ∧ ChangedOnly [.dlp, .drv] s t ∧
      t.drv =
        { channels :=
            s.drv.channels.set test.channel.val
              { s.drv.channels[test.channel] with phase := .idle, lastTest := result }
          test := none } ∧
      LinkLeft (s.dlp.post (.testDone test.channel result)) t

/-! ### The shed -/

/-- EXPANSION_COMPLETE (03 R58, 04 R65): the FILLING buffer becomes HELD with the image and the epoch of its start, and
every used chain that is IDLE or READY with another ordinal starts a shift with the shift-start mark (10 R198); one
READY with it is left. That the image is formed from the tables as they stand at the completion, where R52 reads them
at the start, is the model's choice, log 19: no write falls between. -/
def Obligations.ExpansionIsHeldAndShifted : Prop :=
  ∀ (s : State) (o : Sys2Proof.Ordinal) (epoch row : Word16) (effects : List (Fin 16)), s.Ready →
    s.shb.buffer0 = .filling o epoch row effects ∨
      (s.shb.buffer0.isFilling = false ∧ s.shb.buffer1 = .filling o epoch row effects) →
    let image := expandImage s.tbm row effects
    ∃ t, exec .expansionComplete s = .next t ∧ ChangedOnly [.lines, .dlp, .shb, .hci] s t ∧ LinkLeft s.dlp t ∧
      (s.shb.buffer0 = .filling o epoch row effects → t.shb = { s.shb with buffer0 := .held o epoch image }) ∧
      (s.shb.buffer0.isFilling = false → t.shb = { s.shb with buffer1 := .held o epoch image }) ∧
      t.hci.tag = s.hci.tag ∧ t.hci.required = s.hci.required ∧
      (∀ k : ChainIdx,
        let c := s.hci.chains[k]
        (s.modulesOn k ≠ 0 → c.phase = .idle ∨ (∃ x dg, c.phase = .ready x dg ∧ x ≠ o) →
          t.hci.chains[k] = { c with phase := .shifting o } ∧ LineItem.mark k 225 ∈ t.lineOut) ∧
        (s.modulesOn k = 0 ∨ (∃ dg, c.phase = .ready o dg) → t.hci.chains[k] = c))

/-- SEGMENTS_SENT (03 R46, 04 R63, R65, 10 R198): a segment for each of the chain's modules in order, 16 bytes of the
module's 128 lift values, the first in bit 7, and their CRC-8; then the check call, byte 60, and CHECKING with no
answers. That the segments are listed whole at this event is the model's choice, log 5. MODULE_ANSWER (04 R66): a
CHECKING chain collects the character, any other ignores it. -/
def Obligations.ShiftIsSentAndAnswersCollected : Prop :=
  (∀ (s : State) (k : ChainIdx), s.Ready →
    let c := s.hci.chains[k]
    (∀ o, c.phase = .shifting o →
      ∃ t, exec (.segmentsSent k) s = .next t ∧ ChangedOnly [.lines, .dlp, .hci] s t ∧ LinkLeft s.dlp t ∧
        t.hci = { s.hci with chains := s.hci.chains.set k.val { c with phase := .checking o [] } } ∧
        (∀ (m : MachineRecord) (e : Word16) (image : List Bool), s.tbm.machine = some m →
          s.shb.buffer0 = .held o e image ∨ (s.shb.buffer0.ordinal? ≠ some o ∧ s.shb.buffer1 = .held o e image) →
          ∃ segments : List (List Byte), t.lineOut = segments.map (LineItem.segment k) ++ [.mark k 60] ∧
            segments.length = m.modulesOf k ∧
            ∀ (j : Nat) (bytes : List Byte), segments[j]? = some bytes →
              bytes.length = 17 ∧ bytes.getD 16 0 = crc8 (bytes.take 16) ∧
              ∀ i < 16, ∀ b < 8,
                (bytes.getD i 0).getLsbD (7 - b) =
                  image.getD (128 * (m.modulesBefore k + j) + 8 * i + b) false)) ∧
    (∀ position byte stopBit,
      (∀ o answers, c.phase = .checking o answers →
        ∃ t, exec (.moduleAnswer k position byte stopBit) s = .next t ∧ ChangedOnly [.dlp, .hci] s t ∧
          LinkLeft s.dlp t ∧
          t.hci =
            { s.hci with
              chains :=
                s.hci.chains.set k.val
                  { c with
                    phase :=
                      .checking o (answers ++ [{ position := position, byte := byte, stopBit := stopBit }]) } }) ∧
      ((∀ o answers, c.phase ≠ .checking o answers) →
        ∃ t, exec (.moduleAnswer k position byte stopBit) s = .next t ∧ ChangedOnly [.dlp] s t ∧
          LinkLeft s.dlp t))) ∧
  (let divide (x : Byte) : Byte := if x.msb then (x <<< 1) ^^^ 0x1D#8 else x <<< 1
   crc8 [] = 0xFF ∧
   ∀ (bytes : List Byte) (b : Byte),
     crc8 (bytes ++ [b]) =
       divide (divide (divide (divide (divide (divide (divide (divide (crc8 bytes ^^^ b)))))))))

/-- END_OF_CHECKING (04 R66, R77, R80 to R83, 10 R198): a module is ACK or NAK by bits 7 and 6 of the one good
character in its position, its flags bits 2 to 0, else SILENT; its entry and the LENGTH flag follow. CHAIN_ERROR names
the lowest failing module, or Mk for a LENGTH error alone, and the number failing; MODULE_ALARM follows for each module
that gains a sticky flag, in increasing module index (that order is the model's choice, log 21). The chain is READY,
degraded when a check failed. In mode STOP-after-K the lowest module at K or more hands CHAIN_FAULT, which may wait
(log 6), or taken in WEAVING stops the loom. In STOPPED a due latch fires when this chain was the last. -/
def Obligations.EndOfCheckingJudges : Prop :=
  ∀ (s : State) (m : MachineRecord) (k : ChainIdx) (o : Sys2Proof.Ordinal) (answers : List AnswerChar),
    let c := s.hci.chains[k]
    let n := c.entries.length
    let silent : LastAnswer × ModuleFlags := (.silent, ⟨false, false, false⟩)
    let verdict (j : Nat) : LastAnswer × ModuleFlags :=
      match answers.filter fun x => x.position = j with
      | [x] =>
        if x.stopBit = .high ∧ x.byte.getLsbD 7 ≠ x.byte.getLsbD 6 then
          (if x.byte.getLsbD 7 then .ack else .nak, ⟨x.byte.getLsbD 2, x.byte.getLsbD 1, x.byte.getLsbD 0⟩)
        else silent
      | _ => silent
    let fails (j : Nat) : Bool := (verdict j).1 ≠ .ack
    let failing := (List.range n).filter fails
    let tooLong := answers.any fun x => n ≤ x.position
    let failed := tooLong || !failing.isEmpty
    let updated (e : ModuleEntry) (j : Nat) : ModuleEntry :=
      let f := (verdict j).2
      { lastAnswer := (verdict j).1, lastFlags := f
        sticky :=
          ⟨e.sticky.supplyLow || f.supplyLow, e.sticky.overtemp || f.overtemp, e.sticky.magnetOpen || f.magnetOpen⟩
        consecutive := if fails j then satInc 15 e.consecutive else 0
        total := if fails j then satInc 255 e.total else e.total }
    let errors : List Event :=
      if failed then [.chainError k o (failing.headD n) (failing.length + tooLong.toNat)] else []
    let alarm (x : ModuleEntry × Nat) : Option Event :=
      let f := (verdict x.2).2
      let raised : ModuleFlags :=
        ⟨f.supplyLow && !x.1.sticky.supplyLow, f.overtemp && !x.1.sticky.overtemp,
         f.magnetOpen && !x.1.sticky.magnetOpen⟩
      if raised = ⟨false, false, false⟩ then none else some (.moduleAlarm k x.2 raised (verdict x.2).1)
    let reports : Dlp := s.dlp.posts (errors ++ c.entries.zipIdx.filterMap alarm)
    let faulty (limit j : Nat) : Prop := ∃ e, c.entries[j]? = some e ∧ limit ≤ (updated e j).consecutive
    s.Ready → s.tbm.machine = some m → c.phase = .checking o answers →
    (∃ t, exec (.endOfChecking k (.only [])) s = .next t ∧ Undisturbed s t ∧
      ChangedOnly [.lines, .dlp, .shb, .hci, .run] s t ∧ LinkLeft reports t ∧
      (t.hci.chains[k]).entries = c.entries.zipIdx.map (fun x => updated x.1 x.2) ∧
      (t.hci.chains[k]).lengthFlag = tooLong ∧
      (m.chainMode = .report → t.run = s.run) ∧
      (∀ limit j, m.chainMode = .stopAfter limit → faulty limit j → (∀ i < j, ¬faulty limit i) →
        t.run = { s.run with handed := s.run.handed ++ [.stop (.chainFault k j)] }) ∧
      (∀ limit, m.chainMode = .stopAfter limit → (∀ j, ¬faulty limit j) → t.run = s.run) ∧
      (s.run.state ≠ .stopped → t.hci.tag = s.hci.tag ∧ t.hci.required = s.hci.required) ∧
      (s.run.state ≠ .stopped → s.shb.target = s.newTarget →
        ChangedOnly [.dlp, .hci, .run] s t ∧ (t.hci.chains[k]).phase = .ready o failed) ∧
      (s.run.state = .stopped → s.hci.required = some o → s.tagNames o = false →
        s.modulesOn k ≠ 0 → (∀ j ∈ s.usedChains, j ≠ k → (s.hci.chains[j]).phase.readyWith o = true) →
        t.hci.tag.ordinal = some o ∧ t.hci.tag.stale = false ∧ LineItem.strobe ∈ t.lineOut)) ∧
    (∀ limit j, m.chainMode = .stopAfter limit → faulty limit j → (∀ i < j, ¬faulty limit i) →
      s.run.handed = [] → s.run.state = .weaving → s.stk.motion = .moving →
      ∃ t, exec (.endOfChecking k .every) s = .next t ∧
        t.run = { s.run with state := .stopping, permit := false, firstStop := some (.chainFault k j) } ∧
        LinkLeft
          (reports.post (.runState .stopping .weaving (some (.chainFault k j)) s.run.haltCause none)) t)

/-! ### Arithmetic -/

/-- The advance of a latency (06 R108): 0 with T_rev unknown or above 2,000,000; else latency times 3,600 over the
larger of T_rev and 20,000, rounded up, at most 900. -/
def Obligations.AdvanceOfALatency : Prop :=
  (∀ l, advanceOf none l = 0) ∧ (∀ t l, 2000000 < t → advanceOf (some t) l = 0) ∧
  (∀ t l, t ≤ 2000000 →
    let used := max t 20000
    (900 * used ≤ l * 3600 → advanceOf (some t) l = 900) ∧
    (l * 3600 < 900 * used →
      l * 3600 ≤ advanceOf (some t) l * used ∧ advanceOf (some t) l * used < l * 3600 + used)) ∧
  (∀ t l, advanceOf t l ≤ 900) ∧ (∀ t, advanceOf t 0 = 0) ∧
  (∀ t l, t ≤ 2000000 → 1 ≤ l → 1 ≤ advanceOf (some t) l)

/-- The column position of a hook in a FIGURE section (03 R48). -/
def Obligations.ColumnPositionOfAHook : Prop :=
  (∀ span o, columnPosition .straight span o = o % span) ∧ (∀ o, columnPosition .pointed 1 o = 0) ∧
  (∀ span o, 2 ≤ span →
    let period := 2 * span - 2
    let q := o % period
    (q < span → columnPosition .pointed span o = q) ∧
    (span ≤ q → columnPosition .pointed span o = period - q)) ∧
  (∀ layout span o, 1 ≤ span → columnPosition layout span o < span) ∧
  (∀ span o, columnPosition .straight span (o + span) = columnPosition .straight span o) ∧
  (∀ span o, 2 ≤ span → columnPosition .pointed span (o + (2 * span - 2)) = columnPosition .pointed span o) ∧
  (∀ o, columnPosition .pointed 2 o = columnPosition .straight 2 o)

/-- The design column of a column position (03 R49): the non-negative remainder of C0 plus or minus k, below W;
distinct positions of a span not above W reach distinct columns. -/
def Obligations.DesignColumnOfAPosition : Prop :=
  ∀ (direction : ColumnDir) (origin width : Nat), origin < width →
    (∀ k, designColumn .ascending origin width k = (origin + k) % width) ∧
    (∀ k, (designColumn .descending origin width k : Int) = ((origin : Int) - (k : Int)) % (width : Int)) ∧
    (∀ k, designColumn direction origin width k < width) ∧
    (∀ span j k, span ≤ width → j < span → k < span →
      designColumn direction origin width j = designColumn direction origin width k → j = k) ∧
    (∀ c, c < width → ∃ k, k < width ∧ designColumn direction origin width k = c)

/-- The image of a pick (03 R46, R47, R50, R51): H lift values; a hook in no section is down, in LIFT up, in DOWN down;
in FIGURE an UP effect lifts it and a DOWN effect does not; in SELVEDGE it takes the weave's cell at its offset. -/
def Obligations.ImageOfAPick : Prop :=
  ∀ (t : Tbm) (m : MachineRecord) (row : Word16) (effects : List (Fin 16)), t.machine = some m →
    (expandImage t row effects).length = 128 * (m.modulesOf 0 + m.modulesOf 1 + m.modulesOf 2 + m.modulesOf 3) ∧
    ∀ h lift, (expandImage t row effects)[h]? = some lift →
      (t.sectionAt h = none → lift = false) ∧
      (∀ x, t.sectionAt h = some x →
        (x.kind = .lift → lift = true) ∧ (x.kind = .down → lift = false) ∧
        (∀ origin span layout direction code,
          x.kind = .figure origin span layout direction →
          effects[designColumn direction origin m.width (columnPosition layout span (h - x.first))]? = some code →
          (t.effects[code] = some .up → lift = true) ∧ (t.effects[code] = some .down → lift = false) ∧
          (∀ w a b invert wv cell, t.effects[code] = some (.weave w a b invert) →
            t.weaves.toList.getD w none = some wv →
            wv.cell? ((row.toNat + a) % wv.height)
              ((designColumn direction origin m.width (columnPosition layout span (h - x.first)) + b) % wv.width)
              = some cell →
            lift = (if invert then !cell else cell))) ∧
        (∀ w a b wv cell, x.kind = .selvedge w a b → t.weaves.toList.getD w none = some wv →
          wv.cell? ((row.toNat + a) % wv.height) ((h - x.first + b) % wv.width) = some cell → lift = cell))

/-! ### What every step keeps -/

/-- 01 R8: the ordinals of the run stay consecutive, and the expected ordinal follows the last. -/
def Obligations.PickRunStaysInOrder : Prop :=
  ∀ s t : State, s.psq.inOrder = true → step s = .next t → t.psq.inOrder = true

/-- 01 R9: PH and RL together hold at most 16, PQ at most 32, and PH is empty while D is above 0; with R13, R14 and R18
on which parts stand empty together. -/
def Obligations.PickRunStaysBounded : Prop :=
  ∀ s t : State, s.psq.bounded = true → step s = .next t → t.psq.bounded = true

/-- 01 R1, R4: NEXT, RL and PQ hold PENDING records, PH holds INSERTED, FAULTED and UNWOVEN ones, ARMED is a state of
CURRENT alone, and a record has a fault cause exactly when FAULTED. It is kept together with what makes an ARMED pick
meet its window closing before the next boundary (02 R37, R38, 05 R88, 06 R116). -/
def Obligations.RecordsStayPlaced : Prop :=
  ∀ s t : State,
    let held (x : State) := x.psq.placed = true ∧ x.onScale = true ∧ x.insertionSound = true
    held s → step s = .next t → held t

/-- 09 R160: RUN PERMIT is asserted exactly while the run state is WEAVING. -/
def Obligations.PermitFollowsTheRunState : Prop :=
  ∀ s t : State, s.run.permitted = true → step s = .next t → t.run.permitted = true

/-- 10 R180, R183, R184: the receive buffer keeps to its two places and the event queue to 32, and the transmitter is
never IDLE with something to send, unless it holds its choice back (log 11). -/
def Obligations.LinkStaysBounded : Prop :=
  ∀ s t : State,
    let held (x : State) :=
      x.dlp.bounded = true ∧
        (x.dlp.transmitter = none → x.dlp.choiceWait = 0 → x.dlp.answer = none ∧ x.dlp.events = [])
    held s → step s = .next t → held t

/-- 05 R88, R99 to R102, 02 R29, R30: p stays on the scale of a valid machine record, the tracker's counts in their
ranges, and T_rev known only while the revolution timer runs. -/
def Obligations.ShaftStaysOnScale : Prop :=
  ∀ s t : State, s.onScale = true ∧ s.stk.ranged = true → step s = .next t →
    t.onScale = true ∧ t.stk.ranged = true

/-- 06 R106, 08 R140, R152, R154: an armed part and a driving channel belong to WEAVING, a channel has settings in use
exactly when driving and a block kind exactly when BLOCKED, and no test runs in WEAVING or STOPPING. -/
def Obligations.ActuatorsStaySafe : Prop :=
  ∀ s t : State,
    let safe (x : State) :=
      x.armedInWeaving = true ∧ x.drivenInWeaving = true ∧ x.testSound = true ∧
        (x.drv.channels.toList.all DriverChannel.sound) = true
    safe s → step s = .next t → safe t

/-- 03 R54, R55: after every step the preparation target is the one its inputs give. 04 R76: the required pick of shed
keeping is the one the angle gives. -/
def Obligations.TargetAndRequiredPickStayInForce : Prop :=
  (∀ s t : State, s.targetInForce = true → step s = .next t → t.targetInForce = true) ∧
  (∀ s t : State, s.onScale = true ∧ s.requiredInForce = true → step s = .next t →
    t.onScale = true ∧ t.requiredInForce = true)

/-- 03 R53, 02 R35, 04 R65, R67: at most one buffer is FILLING, for the target; the buffers are of the epoch in force
and hold distinct ordinals; a chain shifts or checks for the target alone. -/
def Obligations.ImagesStaySound : Prop :=
  ∀ s t : State, s.imagesSound = true → step s = .next t → t.imagesSound = true

/-- The state after reset meets every one of these. -/
def Obligations.ResetMeetsEveryInvariant : Prop :=
  State.reset.psq.inOrder = true ∧ State.reset.psq.bounded = true ∧ State.reset.psq.placed = true ∧
  State.reset.run.permitted = true ∧ State.reset.dlp.bounded = true ∧ State.reset.dlp.events = [] ∧
  State.reset.dlp.answer = none ∧ State.reset.onScale = true ∧ State.reset.stk.ranged = true ∧
  State.reset.armedInWeaving = true ∧ State.reset.drivenInWeaving = true ∧ State.reset.testSound = true ∧
  (State.reset.drv.channels.toList.all DriverChannel.sound) = true ∧ State.reset.targetInForce = true ∧
  State.reset.requiredInForce = true ∧ State.reset.imagesSound = true ∧ State.reset.insertionSound = true

/-! ### Over all commands -/

/-- 02 R34, R35: while RESETn is high, a command taken outside OFFLINE changes no pattern table and not the epoch,
unless it is the hard reset. -/
def Obligations.PatternTablesAreFixedOutsideOffline : Prop :=
  ∀ (c : Instr) (s t : State), c ≠ .hardReset → s.resetLine = .high → s.run.state ≠ .offline →
    exec c s = .next t →
    t.tbm.machine = s.tbm.machine ∧ t.tbm.sections = s.tbm.sections ∧ t.tbm.effects = s.tbm.effects ∧
    t.tbm.weaves = s.tbm.weaves ∧ t.tbm.epoch = s.tbm.epoch

/-- 09 R159, R161, R165: only START enters WEAVING, from STOPPED with the tracker HOMED and at standstill and no test
running. -/
def Obligations.OnlyStartEntersWeaving : Prop :=
  ∀ (c : Instr) (s t : State), exec c s = .next t → t.run.state = .weaving → s.run.state ≠ .weaving →
    (∃ taken, c = .start taken) ∧ s.run.state = .stopped ∧ s.stk.homing = .homed ∧ s.stk.motion = .standstill ∧
    s.drv.test = none

/-- 04 R71, R79: a command that begins and ends in OFFLINE or HALTED drives no strobe. -/
def Obligations.NoStrobeInOfflineOrHalted : Prop :=
  ∀ (c : Instr) (s t : State),
    let still (x : State) := x.run.state = .offline ∨ x.run.state = .halted
    s.resetLine = .high → exec c s = .next t → still s → still t → LineItem.strobe ∉ t.lineOut
end

