-- ==== Sys2Proof/Laws/Arm.lean ====
section
/-! SUPPORT. What the validation of ARM names (02 R42): the stages of `armFailure` against `ArmFault`. And what the
Angle Scheduler builds at arming (06 R111) against `ArmedFrom`. -/

namespace Sys2Proof.Machine

/-! ### The lowest record of a table that fails -/

/-- Taking the present records first, and looking for the failing one among them, changes nothing. -/
theorem firstPresent_of_offset {α : Type} (bad : α × Nat → Bool) : ∀ (l : List (Option α)) (k : Nat),
    (((l.zipIdx k).filterMap fun x => x.1.map fun r => (r, x.2)).find? bad).map Prod.snd =
      ((l.zipIdx k).find? fun x => x.1.any fun r => bad (r, x.2)).map Prod.snd
  | [], _ => rfl
  | none :: l, k => by
    simp only [List.zipIdx_cons, List.filterMap_cons, Option.map_none, List.find?_cons, Option.any_none]
    exact firstPresent_of_offset bad l (k + 1)
  | some x :: l, k => by
    simp only [List.zipIdx_cons, List.filterMap_cons, Option.map_some, List.find?_cons, Option.any_some]
    cases bad (x, k) with
    | true => rfl
    | false => exact firstPresent_of_offset bad l (k + 1)

/-- The first failing record of a table is the lowest index that holds one. -/
theorem firstFailing_eq {α : Type} {n : Nat} (v : Vector (Option α) n) (bad : α × Nat → Bool) :
    firstFailing (presentRecords v) bad =
      (v.toList.zipIdx.find? fun x => x.1.any fun r => bad (r, x.2)).map Prod.snd :=
  firstPresent_of_offset bad v.toList 0

/-- A search by place answers the lowest place that passes. -/
theorem findIndex_some {α : Type} (p : α × Nat → Bool) : ∀ (l : List α) (k i : Nat),
    ((l.zipIdx k).find? p).map Prod.snd = some i ↔
      (∃ j x, i = k + j ∧ l[j]? = some x ∧ p (x, i) = true ∧ ∀ j' < j, ∀ y, l[j']? = some y → p (y, k + j') = false)
  | [], k, i => by simp
  | a :: l, k, i => by
    have ih := findIndex_some p l (k + 1) i
    by_cases h : p (a, k) = true
    · simp only [List.zipIdx_cons, List.find?_cons, h, Option.map_some, Option.some.injEq]
      constructor
      · rintro rfl; exact ⟨0, a, rfl, rfl, h, by simp⟩
      · rintro ⟨j, x, rfl, hx, hp, hm⟩
        cases j with
        | zero => rfl
        | succ j => have := hm 0 (by omega) a rfl; simp [h] at this
    · have h' : p (a, k) = false := by simpa using h
      simp only [List.zipIdx_cons, List.find?_cons, h', ih]
      constructor
      · rintro ⟨j, x, rfl, hx, hp, hm⟩
        refine ⟨j + 1, x, by omega, by simpa using hx, hp, ?_⟩
        intro j' hj y hy
        cases j' with
        | zero => simp at hy; subst hy; simpa using h'
        | succ j' => have := hm j' (by omega) y (by simpa using hy); rw [← this]; congr 2; omega
      · rintro ⟨j, x, rfl, hx, hp, hm⟩
        cases j with
        | zero => simp at hx; subst hx; simp [h'] at hp
        | succ j =>
          refine ⟨j, x, by omega, by simpa using hx, hp, ?_⟩
          intro j' hj y hy
          have := hm (j' + 1) (by omega) y (by simpa using hy)
          rw [← this]; congr 2; omega

/-- The record named fails, and none below it does. -/
theorem firstFailing_some {α : Type} {n : Nat} (v : Vector (Option α) n) (bad : α × Nat → Bool) (i : Nat) :
    firstFailing (presentRecords v) bad = some i ↔
      (∃ x, v[i]? = some (some x) ∧ bad (x, i) = true) ∧
        ∀ j < i, ∀ y, v[j]? = some (some y) → bad (y, j) = false := by
  rw [firstFailing_eq, findIndex_some]
  simp only [Vector.getElem?_toList, Nat.zero_add]
  constructor
  · rintro ⟨j, x, rfl, hx, hp, hm⟩
    cases x with
    | none => simp at hp
    | some x => exact ⟨⟨x, hx, hp⟩, fun j' hj y hy => by simpa using hm j' hj (some y) hy⟩
  · rintro ⟨⟨x, hx, hp⟩, hm⟩
    refine ⟨i, some x, rfl, hx, hp, fun j' hj y hy => ?_⟩
    cases y with
    | none => rfl
    | some y => exact hm j' hj y hy

/-- The present records are those at their indices. -/
theorem mem_presentRecords {α : Type} {n : Nat} (v : Vector (Option α) n) (x : α) (i : Nat) :
    (x, i) ∈ presentRecords v ↔ v[i]? = some (some x) := by
  simp [presentRecords, List.mem_zipIdx_iff_getElem?]

/-- No record is named exactly when none fails. -/
theorem firstFailing_none {α : Type} {n : Nat} (v : Vector (Option α) n) (bad : α × Nat → Bool) :
    firstFailing (presentRecords v) bad = none ↔ ∀ i x, v[i]? = some (some x) → bad (x, i) = false := by
  simp only [firstFailing, Option.map_eq_none_iff, List.find?_eq_none, Prod.forall, Bool.not_eq_true,
    mem_presentRecords]
  constructor
  · intro h i x hx; exact h x i hx
  · intro h x i hx; exact h i x hx

/-! ### The checks of ARM -/

/-- 02 R42: the record that check 2 to 8 of ARM names. -/
def armStage (t : Tbm) (m : MachineRecord) : Nat → Option Nat
  | 2 => firstFailing (presentRecords t.sections) fun x => m.hooks < x.1.first + x.1.count
  | 3 =>
    firstFailing (presentRecords t.sections) fun x =>
      (presentRecords t.sections).any fun y => y.2 < x.2 && x.1.overlaps y.1
  | 4 => firstFailing (presentRecords t.sections) fun x => !x.1.figureOk m.width
  | 5 => firstFailing (presentRecords t.sections) fun x => !x.1.selvedgeOk t
  | 6 => missingEffect t
  | 7 => firstFailing (presentRecords t.effects) fun x => !x.1.weaveOk t
  | 8 => firstFailing (presentRecords t.profiles) fun x => !x.1.anglesOk m.armLimit
  | _ => none

/-- `armFailure` is the first of the stages that names a record, and after them HELD_PICKS. -/
theorem armFailure_stages (t : Tbm) (m : MachineRecord) (run : List PickRecord) (h : t.machine = some m) :
    armFailure t run =
      firstNamed
        ([2, 3, 4, 5, 6, 7, 8].map (fun c => (armFaultTable c, armStage t m c)) ++
          [(8, (run.find? fun r => r.effects.length != m.width).map fun r => r.ordinal.toNat)]) := by
  simp only [armFailure, h]
  rfl

/-- A weave index that names no record. -/
theorem hasWeave_false (t : Tbm) (w : Nat) : t.hasWeave w = false ↔ t.NoWeave w := by
  simp only [Tbm.hasWeave, Tbm.NoWeave, List.getD_eq_getElem?_getD, Vector.getElem?_toList]
  cases t.weaves[w]? with
  | none => simp
  | some x => cases x <;> simp

/-- An option that holds the least number with a property, and nothing where no number has it. -/
def LeastOf (P : Nat → Prop) (o : Option Nat) : Prop :=
  (∀ i, o = some i ↔ P i ∧ ∀ j < i, ¬P j) ∧ (o = none ↔ ∀ i, ¬P i)

/-- What `firstFailing` finds, for any way to say that a record fails. -/
theorem firstFailing_least {α : Type} {n : Nat} (v : Vector (Option α) n) (bad : α × Nat → Bool) (P : Nat → Prop)
    (h : ∀ i, P i ↔ ∃ x, v[i]? = some (some x) ∧ bad (x, i) = true) :
    LeastOf P (firstFailing (presentRecords v) bad) := by
  refine ⟨fun i => ?_, ?_⟩
  · rw [firstFailing_some, h i]
    refine and_congr_right fun _ => forall_congr' fun j => imp_congr_right fun _ => ?_
    rw [h j]; simp
  · rw [firstFailing_none]
    refine forall_congr' fun i => ?_
    rw [h i]; simp

/-- 02 R42 check 6. -/
theorem missingEffect_least (t : Tbm) (m : MachineRecord) : LeastOf (ArmFault t m 6) (missingEffect t) := by
  have hf : (presentRecords t.sections).any (fun x => x.1.isFigure) = true ↔
      ∃ (j : Nat) (x : HarnessSection) (origin span : Nat) (layout : Layout) (direction : ColumnDir),
        t.sections[j]? = some (some x) ∧ x.kind = .figure origin span layout direction := by
    simp only [List.any_eq_true, Prod.exists, mem_presentRecords]
    constructor
    · rintro ⟨x, j, hx, hk⟩
      unfold HarnessSection.isFigure at hk
      split at hk
      · exact ⟨j, x, _, _, _, _, hx, ‹_›⟩
      · simp at hk
    · rintro ⟨j, x, o, sp, l, d, hx, hk⟩
      exact ⟨x, j, hx, by simp [HarnessSection.isFigure, hk]⟩
  unfold missingEffect LeastOf
  simp only [ArmFault, ← hf]
  cases (presentRecords t.sections).any fun x => x.1.isFigure with
  | false => simp
  | true =>
    simp only [if_true, and_true, findIndex_some, Option.map_eq_none_iff, List.find?_eq_none]
    refine ⟨fun i => ?_, ?_⟩
    · constructor
      · rintro ⟨j, x, rfl, hx, hp, hm⟩
        simp only [Nat.zero_add, Vector.getElem?_toList, Option.isNone_iff_eq_none] at *
        subst hp
        exact ⟨hx, fun k hk he => by simpa using hm k hk none he⟩
      · rintro ⟨hx, hm⟩
        refine ⟨i, none, by simp, by simpa using hx, rfl, fun j hj y hy => ?_⟩
        cases y with
        | none => exact absurd (by simpa using hy) (hm j hj)
        | some y => rfl
    · constructor
      · intro h i hi
        exact h (none, i) (by simpa [List.mem_zipIdx_iff_getElem?] using hi) rfl
      · rintro h ⟨x, i⟩ hx hn
        simp only [List.mem_zipIdx_iff_getElem?, Vector.getElem?_toList, Option.isNone_iff_eq_none] at hx hn
        exact h i (by rw [hx, hn])

/-- 02 R42: the stage of a check names the lowest record that fails it. -/
theorem armStage_least (t : Tbm) (m : MachineRecord) (check : Nat) :
    LeastOf (ArmFault t m check) (armStage t m check) := by
  match check with
  | 2 => exact firstFailing_least _ _ _ fun i => by simp [ArmFault]
  | 3 =>
    refine firstFailing_least _ _ _ fun i => ?_
    simp only [ArmFault, HarnessSection.overlaps, List.any_eq_true, Prod.exists, mem_presentRecords,
      Bool.and_eq_true, decide_eq_true_eq]
    constructor
    · rintro ⟨x, j, y, hx, hj, hy, h1, h2⟩; exact ⟨x, hx, y, j, hy, hj, h1, h2⟩
    · rintro ⟨x, hx, y, j, hy, hj, h1, h2⟩; exact ⟨x, j, y, hx, hj, hy, h1, h2⟩
  | 4 =>
    refine firstFailing_least _ _ _ fun i => ?_
    simp only [ArmFault]
    constructor
    · rintro ⟨x, o, sp, l, d, hx, hk, h⟩
      refine ⟨x, hx, ?_⟩
      simp only [HarnessSection.figureOk, hk]; simp; omega
    · rintro ⟨x, hx, h⟩
      unfold HarnessSection.figureOk at h
      split at h
      · refine ⟨x, _, _, _, _, hx, ‹_›, ?_⟩
        simp at h; omega
      · simp at h
  | 5 =>
    refine firstFailing_least _ _ _ fun i => ?_
    simp only [ArmFault, ← hasWeave_false]
    constructor
    · rintro ⟨x, w, a, b, hx, hk, h⟩
      exact ⟨x, hx, by simp [HarnessSection.selvedgeOk, hk, h]⟩
    · rintro ⟨x, hx, h⟩
      unfold HarnessSection.selvedgeOk at h
      split at h
      · exact ⟨x, _, _, _, hx, ‹_›, by simpa using h⟩
      · simp at h
  | 6 => exact missingEffect_least t m
  | 7 =>
    refine firstFailing_least _ _ _ fun i => ?_
    simp only [ArmFault, ← hasWeave_false]
    constructor
    · rintro ⟨w, a, b, v, hx, h⟩
      exact ⟨_, hx, by simp [Effect.weaveOk, h]⟩
    · rintro ⟨x, hx, h⟩
      cases x with
      | up => simp [Effect.weaveOk] at h
      | down => simp [Effect.weaveOk] at h
      | weave w a b v => exact ⟨w, a, b, v, hx, by simpa [Effect.weaveOk] using h⟩
  | 8 =>
    refine firstFailing_least _ _ _ fun i => ?_
    simp only [ArmFault, Profile.anglesOk]
    refine exists_congr fun x => and_congr_right fun _ => ?_
    simp [or_assoc]
  | 0 => simp [armStage, ArmFault, LeastOf]
  | 1 => simp [armStage, ArmFault, LeastOf]
  | n + 9 => simp [armStage, ArmFault, LeastOf]

/-! ### Arming -/

/-- 06 R109 to R111: an entry of the action list. -/
theorem armAction_fields (t : Tbm) (advance : Nat → Nat) (highest : Nat) (w : WeftChannel) (x : ProfileAction) :
    let y := armAction t advance highest w x
    y.switching = x.switching ∧ (y.viaSelector = true ↔ x.target = .selector) ∧
      y.channel = (match x.target with | .selector => w.selector | .channel dc => dc) ∧ y.nominal = x.angle ∧
      y.latency = (match t.drivers[y.channel] with | none => 0 | some d => d.latency) ∧
      y.advance = advance y.latency ∧ (x.angle ≤ y.advance → y.effective = 0) ∧
      (y.advance ≤ x.angle → y.effective = min (x.angle - y.advance) highest) ∧ y.fired = false := by
  refine ⟨rfl, by simp [armAction], ?_, rfl, ?_, rfl, fun h => ?_, fun _ => rfl, rfl⟩
  · simp only [armAction]
    cases x.target <;> rfl
  · simp only [armAction]
    cases t.drivers[x.target.resolve w] <;> rfl
  · simp only [armAction] at h ⊢
    omega

/-- 06 R106, R108 to R111: what arming builds from the tables in force. -/
theorem buildArmed_armedFrom (t : Tbm) (m : MachineRecord) (advance : Nat → Nat) (o : Ordinal) (w : WeftChannel)
    (p : Profile) : ArmedFrom t m advance o w p (buildArmed t advance m.highestAngle o w p) := by
  refine ⟨rfl, rfl, rfl, rfl, by simp [buildArmed], ?_, ?_, ?_⟩
  · intro i x y hx hy
    simp only [buildArmed, List.getElem?_map, hx, Option.map_some, Option.some.injEq] at hy
    obtain ⟨h1, h2, h3, h4, h5, h6, h7, h8, _⟩ := armAction_fields t advance m.highestAngle w x
    subst hy
    exact ⟨h1, h2, h3, h4, h5, h6, h7, h8⟩
  · rintro ⟨dc, d⟩
    simp only [buildArmed, settingsCopies, List.mem_map, List.mem_filter, List.any_eq_true, decide_eq_true_eq]
    constructor
    · rintro ⟨dc', ⟨_, y, hy, he⟩, h⟩
      cases h
      exact ⟨rfl, y, by simpa using hy, he⟩
    · rintro ⟨h, y, hy, he⟩
      refine ⟨dc, ⟨?_, y, by simpa using hy, he⟩, by simp_all⟩
      simp [driverList]
  · simp [buildArmed, ArmedAction.wasClipped]

/-- 06 R111: a part is built with no angle handed and no action fired. -/
theorem buildArmed_fresh (t : Tbm) (advance : Nat → Nat) (highest : Nat) (o : Ordinal) (w : WeftChannel) (p : Profile) :
    let a := buildArmed t advance highest o w p
    a.openHanded = false ∧ a.closeHanded = false ∧ ∀ x ∈ a.actions, x.fired = false := by
  refine ⟨rfl, rfl, fun x hx => ?_⟩
  simp only [buildArmed, List.mem_map] at hx
  obtain ⟨y, _, rfl⟩ := hx
  rfl

end Sys2Proof.Machine
end

