-- ==== Sys2Proof/Laws/Ops.lean ====
section
/-! SUPPORT. What each shared operation leaves as it was: one lemma an operation, every unchanged block in it. -/

namespace Sys2Proof.Machine

/-- A fold keeps what every one of its steps keeps. -/
theorem foldl_keeps {α β γ : Type} (g : γ → α) (f : γ → β → γ) (h : ∀ s x, g (f s x) = g s) (l : List β) (s : γ) :
    g (l.foldl f s) = g s := by
  induction l generalizing s with
  | nil => rfl
  | cons x xs ih => rw [List.foldl_cons, ih, h]

@[simp] theorem post_frame (e : Event) (s : State) :
    (post e s).pending = s.pending ∧ (post e s).resetLine = s.resetLine ∧ (post e s).lineOut = s.lineOut ∧
    (post e s).tbm = s.tbm ∧ (post e s).psq = s.psq ∧ (post e s).shb = s.shb ∧ (post e s).hci = s.hci ∧
    (post e s).stk = s.stk ∧ (post e s).asc = s.asc ∧ (post e s).wfm = s.wfm ∧ (post e s).drv = s.drv ∧
    (post e s).run = s.run := by
  refine ⟨?_, ?_, ?_, ?_, ?_, ?_, ?_, ?_, ?_, ?_, ?_, ?_⟩ <;> (unfold post; split <;> simp)

@[simp] theorem hand_frame (c : Cause) (s : State) :
    (hand c s).pending = s.pending ∧ (hand c s).resetLine = s.resetLine ∧ (hand c s).lineOut = s.lineOut ∧
    (hand c s).dlp = s.dlp ∧ (hand c s).tbm = s.tbm ∧ (hand c s).psq = s.psq ∧ (hand c s).shb = s.shb ∧
    (hand c s).hci = s.hci ∧ (hand c s).stk = s.stk ∧ (hand c s).asc = s.asc ∧ (hand c s).wfm = s.wfm ∧
    (hand c s).drv = s.drv := ⟨rfl, rfl, rfl, rfl, rfl, rfl, rfl, rfl, rfl, rfl, rfl, rfl⟩

@[simp] theorem emit_frame (x : LineItem) (s : State) :
    (emit x s).pending = s.pending ∧ (emit x s).resetLine = s.resetLine ∧ (emit x s).dlp = s.dlp ∧
    (emit x s).tbm = s.tbm ∧ (emit x s).psq = s.psq ∧ (emit x s).shb = s.shb ∧ (emit x s).hci = s.hci ∧
    (emit x s).stk = s.stk ∧ (emit x s).asc = s.asc ∧ (emit x s).wfm = s.wfm ∧ (emit x s).drv = s.drv ∧
    (emit x s).run = s.run := ⟨rfl, rfl, rfl, rfl, rfl, rfl, rfl, rfl, rfl, rfl, rfl, rfl⟩

@[simp] theorem modCurrent_frame (f : PickRecord → PickRecord) (s : State) :
    (modCurrent f s).pending = s.pending ∧ (modCurrent f s).resetLine = s.resetLine ∧
    (modCurrent f s).lineOut = s.lineOut ∧ (modCurrent f s).dlp = s.dlp ∧ (modCurrent f s).tbm = s.tbm ∧
    (modCurrent f s).shb = s.shb ∧ (modCurrent f s).hci = s.hci ∧ (modCurrent f s).stk = s.stk ∧
    (modCurrent f s).asc = s.asc ∧ (modCurrent f s).wfm = s.wfm ∧ (modCurrent f s).drv = s.drv ∧
    (modCurrent f s).run = s.run := ⟨rfl, rfl, rfl, rfl, rfl, rfl, rfl, rfl, rfl, rfl, rfl, rfl⟩

@[simp] theorem modChains_frame (f : ChainIdx → Chain → Chain) (s : State) :
    (modChains f s).pending = s.pending ∧ (modChains f s).resetLine = s.resetLine ∧
    (modChains f s).lineOut = s.lineOut ∧ (modChains f s).dlp = s.dlp ∧ (modChains f s).tbm = s.tbm ∧
    (modChains f s).psq = s.psq ∧ (modChains f s).shb = s.shb ∧ (modChains f s).stk = s.stk ∧
    (modChains f s).asc = s.asc ∧ (modChains f s).wfm = s.wfm ∧ (modChains f s).drv = s.drv ∧
    (modChains f s).run = s.run := ⟨rfl, rfl, rfl, rfl, rfl, rfl, rfl, rfl, rfl, rfl, rfl, rfl⟩

@[simp] theorem setChain_frame (k : ChainIdx) (c : Chain) (s : State) :
    (setChain k c s).pending = s.pending ∧ (setChain k c s).resetLine = s.resetLine ∧
    (setChain k c s).lineOut = s.lineOut ∧ (setChain k c s).dlp = s.dlp ∧ (setChain k c s).tbm = s.tbm ∧
    (setChain k c s).psq = s.psq ∧ (setChain k c s).shb = s.shb ∧ (setChain k c s).stk = s.stk ∧
    (setChain k c s).asc = s.asc ∧ (setChain k c s).wfm = s.wfm ∧ (setChain k c s).drv = s.drv ∧
    (setChain k c s).run = s.run := ⟨rfl, rfl, rfl, rfl, rfl, rfl, rfl, rfl, rfl, rfl, rfl, rfl⟩

@[simp] theorem modChannels_frame (f : DriverIdx → DriverChannel → DriverChannel) (s : State) :
    (modChannels f s).pending = s.pending ∧ (modChannels f s).resetLine = s.resetLine ∧
    (modChannels f s).lineOut = s.lineOut ∧ (modChannels f s).dlp = s.dlp ∧ (modChannels f s).tbm = s.tbm ∧
    (modChannels f s).psq = s.psq ∧ (modChannels f s).shb = s.shb ∧ (modChannels f s).hci = s.hci ∧
    (modChannels f s).stk = s.stk ∧ (modChannels f s).asc = s.asc ∧ (modChannels f s).wfm = s.wfm ∧
    (modChannels f s).run = s.run := by simp [modChannels]

@[simp] theorem setChannel_frame (dc : DriverIdx) (c : DriverChannel) (s : State) :
    (setChannel dc c s).pending = s.pending ∧ (setChannel dc c s).resetLine = s.resetLine ∧
    (setChannel dc c s).lineOut = s.lineOut ∧ (setChannel dc c s).dlp = s.dlp ∧
    (setChannel dc c s).tbm = s.tbm ∧ (setChannel dc c s).psq = s.psq ∧ (setChannel dc c s).shb = s.shb ∧
    (setChannel dc c s).hci = s.hci ∧ (setChannel dc c s).stk = s.stk ∧ (setChannel dc c s).asc = s.asc ∧
    (setChannel dc c s).wfm = s.wfm ∧ (setChannel dc c s).run = s.run :=
  ⟨rfl, rfl, rfl, rfl, rfl, rfl, rfl, rfl, rfl, rfl, rfl, rfl⟩

@[simp] theorem handChain_frame (o : Ordinal) (s : State) (k : ChainIdx) :
    (handChain o s k).pending = s.pending ∧ (handChain o s k).resetLine = s.resetLine ∧
    (handChain o s k).dlp = s.dlp ∧ (handChain o s k).tbm = s.tbm ∧ (handChain o s k).psq = s.psq ∧
    (handChain o s k).shb = s.shb ∧ (handChain o s k).stk = s.stk ∧ (handChain o s k).asc = s.asc ∧
    (handChain o s k).wfm = s.wfm ∧ (handChain o s k).drv = s.drv ∧ (handChain o s k).run = s.run := by
  refine ⟨?_, ?_, ?_, ?_, ?_, ?_, ?_, ?_, ?_, ?_, ?_⟩ <;> (unfold handChain; dsimp only; (repeat' split) <;> simp)

@[simp] theorem handOver_frame (o : Ordinal) (s : State) :
    (handOver o s).pending = s.pending ∧ (handOver o s).resetLine = s.resetLine ∧ (handOver o s).dlp = s.dlp ∧
    (handOver o s).tbm = s.tbm ∧ (handOver o s).psq = s.psq ∧ (handOver o s).shb = s.shb ∧
    (handOver o s).stk = s.stk ∧ (handOver o s).asc = s.asc ∧ (handOver o s).wfm = s.wfm ∧
    (handOver o s).drv = s.drv ∧ (handOver o s).run = s.run := by
  unfold handOver
  refine ⟨?_, ?_, ?_, ?_, ?_, ?_, ?_, ?_, ?_, ?_, ?_⟩ <;>
    exact foldl_keeps _ _ (by intros; simp) _ _

@[simp] theorem setBuffer_frame (i : BufferIdx) (b : Buffer) (s : State) :
    (setBuffer i b s).pending = s.pending ∧ (setBuffer i b s).resetLine = s.resetLine ∧
    (setBuffer i b s).lineOut = s.lineOut ∧ (setBuffer i b s).dlp = s.dlp ∧ (setBuffer i b s).tbm = s.tbm ∧
    (setBuffer i b s).psq = s.psq ∧ (setBuffer i b s).hci = s.hci ∧ (setBuffer i b s).stk = s.stk ∧
    (setBuffer i b s).asc = s.asc ∧ (setBuffer i b s).wfm = s.wfm ∧ (setBuffer i b s).drv = s.drv ∧
    (setBuffer i b s).run = s.run := by
  refine ⟨?_, ?_, ?_, ?_, ?_, ?_, ?_, ?_, ?_, ?_, ?_, ?_⟩ <;> (unfold setBuffer; split <;> simp)

@[simp] theorem startExpansion_frame (o : Ordinal) (s : State) :
    (startExpansion o s).pending = s.pending ∧ (startExpansion o s).resetLine = s.resetLine ∧
    (startExpansion o s).lineOut = s.lineOut ∧ (startExpansion o s).dlp = s.dlp ∧
    (startExpansion o s).tbm = s.tbm ∧ (startExpansion o s).psq = s.psq ∧ (startExpansion o s).hci = s.hci ∧
    (startExpansion o s).stk = s.stk ∧ (startExpansion o s).asc = s.asc ∧ (startExpansion o s).wfm = s.wfm ∧
    (startExpansion o s).drv = s.drv ∧ (startExpansion o s).run = s.run := by
  refine ⟨?_, ?_, ?_, ?_, ?_, ?_, ?_, ?_, ?_, ?_, ?_, ?_⟩ <;> (unfold startExpansion; split <;> simp)

@[simp] theorem takeUp_frame (o : Ordinal) (s : State) :
    (takeUp o s).pending = s.pending ∧ (takeUp o s).resetLine = s.resetLine ∧ (takeUp o s).dlp = s.dlp ∧
    (takeUp o s).tbm = s.tbm ∧ (takeUp o s).psq = s.psq ∧ (takeUp o s).stk = s.stk ∧ (takeUp o s).asc = s.asc ∧
    (takeUp o s).wfm = s.wfm ∧ (takeUp o s).drv = s.drv ∧ (takeUp o s).run = s.run := by
  refine ⟨?_, ?_, ?_, ?_, ?_, ?_, ?_, ?_, ?_, ?_⟩ <;> (unfold takeUp; split <;> simp)

@[simp] theorem abortChain_frame (s : State) (k : ChainIdx) :
    (abortChain s k).pending = s.pending ∧ (abortChain s k).resetLine = s.resetLine ∧
    (abortChain s k).dlp = s.dlp ∧ (abortChain s k).tbm = s.tbm ∧ (abortChain s k).psq = s.psq ∧
    (abortChain s k).shb = s.shb ∧ (abortChain s k).stk = s.stk ∧ (abortChain s k).asc = s.asc ∧
    (abortChain s k).wfm = s.wfm ∧ (abortChain s k).drv = s.drv ∧ (abortChain s k).run = s.run := by
  refine ⟨?_, ?_, ?_, ?_, ?_, ?_, ?_, ?_, ?_, ?_, ?_⟩ <;> (unfold abortChain; dsimp only; (repeat' split) <;> simp)

@[simp] theorem abortShifts_frame (s : State) :
    (abortShifts s).pending = s.pending ∧ (abortShifts s).resetLine = s.resetLine ∧
    (abortShifts s).dlp = s.dlp ∧ (abortShifts s).tbm = s.tbm ∧ (abortShifts s).psq = s.psq ∧
    (abortShifts s).shb = s.shb ∧ (abortShifts s).stk = s.stk ∧ (abortShifts s).asc = s.asc ∧
    (abortShifts s).wfm = s.wfm ∧ (abortShifts s).drv = s.drv ∧ (abortShifts s).run = s.run := by
  unfold abortShifts
  refine ⟨?_, ?_, ?_, ?_, ?_, ?_, ?_, ?_, ?_, ?_, ?_⟩ <;>
    exact foldl_keeps _ _ (by intros; simp) _ _

@[simp] theorem abandonExpansion_frame (s : State) :
    (abandonExpansion s).pending = s.pending ∧ (abandonExpansion s).resetLine = s.resetLine ∧
    (abandonExpansion s).lineOut = s.lineOut ∧ (abandonExpansion s).dlp = s.dlp ∧
    (abandonExpansion s).tbm = s.tbm ∧ (abandonExpansion s).psq = s.psq ∧ (abandonExpansion s).hci = s.hci ∧
    (abandonExpansion s).stk = s.stk ∧ (abandonExpansion s).asc = s.asc ∧ (abandonExpansion s).wfm = s.wfm ∧
    (abandonExpansion s).drv = s.drv ∧ (abandonExpansion s).run = s.run :=
  ⟨rfl, rfl, rfl, rfl, rfl, rfl, rfl, rfl, rfl, rfl, rfl, rfl⟩

@[simp] theorem evalTarget_frame (s : State) :
    (evalTarget s).pending = s.pending ∧ (evalTarget s).resetLine = s.resetLine ∧ (evalTarget s).dlp = s.dlp ∧
    (evalTarget s).tbm = s.tbm ∧ (evalTarget s).psq = s.psq ∧ (evalTarget s).stk = s.stk ∧
    (evalTarget s).asc = s.asc ∧ (evalTarget s).wfm = s.wfm ∧ (evalTarget s).drv = s.drv ∧
    (evalTarget s).run = s.run := by
  refine ⟨?_, ?_, ?_, ?_, ?_, ?_, ?_, ?_, ?_, ?_⟩ <;> (unfold evalTarget; dsimp only; (repeat' split) <;> simp)

@[simp] theorem fireLatch_frame (o : Ordinal) (s : State) :
    (fireLatch o s).pending = s.pending ∧ (fireLatch o s).resetLine = s.resetLine ∧
    (fireLatch o s).dlp = s.dlp ∧ (fireLatch o s).tbm = s.tbm ∧ (fireLatch o s).psq = s.psq ∧
    (fireLatch o s).shb = s.shb ∧ (fireLatch o s).stk = s.stk ∧ (fireLatch o s).asc = s.asc ∧
    (fireLatch o s).wfm = s.wfm ∧ (fireLatch o s).drv = s.drv ∧ (fireLatch o s).run = s.run :=
  ⟨rfl, rfl, rfl, rfl, rfl, rfl, rfl, rfl, rfl, rfl, rfl⟩

@[simp] theorem evalRequired_frame (s : State) :
    (evalRequired s).pending = s.pending ∧ (evalRequired s).resetLine = s.resetLine ∧
    (evalRequired s).lineOut = s.lineOut ∧ (evalRequired s).dlp = s.dlp ∧ (evalRequired s).tbm = s.tbm ∧
    (evalRequired s).psq = s.psq ∧ (evalRequired s).shb = s.shb ∧ (evalRequired s).stk = s.stk ∧
    (evalRequired s).asc = s.asc ∧ (evalRequired s).wfm = s.wfm ∧ (evalRequired s).drv = s.drv ∧
    (evalRequired s).run = s.run := ⟨rfl, rfl, rfl, rfl, rfl, rfl, rfl, rfl, rfl, rfl, rfl, rfl⟩

@[simp] theorem latchIfDue_frame (s : State) :
    (latchIfDue s).pending = s.pending ∧ (latchIfDue s).resetLine = s.resetLine ∧ (latchIfDue s).dlp = s.dlp ∧
    (latchIfDue s).tbm = s.tbm ∧ (latchIfDue s).psq = s.psq ∧ (latchIfDue s).shb = s.shb ∧
    (latchIfDue s).stk = s.stk ∧ (latchIfDue s).asc = s.asc ∧ (latchIfDue s).wfm = s.wfm ∧
    (latchIfDue s).drv = s.drv ∧ (latchIfDue s).run = s.run := by
  refine ⟨?_, ?_, ?_, ?_, ?_, ?_, ?_, ?_, ?_, ?_, ?_⟩ <;>
    (cases s <;> unfold latchIfDue <;> dsimp only <;> (repeat' split) <;> simp)

@[simp] theorem settle_frame (s : State) :
    (settle s).pending = s.pending ∧ (settle s).resetLine = s.resetLine ∧ (settle s).dlp = s.dlp ∧
    (settle s).tbm = s.tbm ∧ (settle s).psq = s.psq ∧ (settle s).stk = s.stk ∧ (settle s).asc = s.asc ∧
    (settle s).wfm = s.wfm ∧ (settle s).drv = s.drv ∧ (settle s).run = s.run := by simp [settle]

@[simp] theorem latchRequest_frame (dir : Direction) (s : State) :
    (latchRequest dir s).pending = s.pending ∧ (latchRequest dir s).resetLine = s.resetLine ∧
    (latchRequest dir s).tbm = s.tbm ∧ (latchRequest dir s).psq = s.psq ∧ (latchRequest dir s).stk = s.stk ∧
    (latchRequest dir s).asc = s.asc ∧ (latchRequest dir s).wfm = s.wfm ∧ (latchRequest dir s).drv = s.drv := by
  refine ⟨?_, ?_, ?_, ?_, ?_, ?_, ?_, ?_⟩ <;> (unfold latchRequest; dsimp only; (repeat' split) <;> simp)

@[simp] theorem dropRecord_frame (o : Ordinal) (s : State) :
    (dropRecord o s).pending = s.pending ∧ (dropRecord o s).resetLine = s.resetLine ∧
    (dropRecord o s).lineOut = s.lineOut ∧ (dropRecord o s).dlp = s.dlp ∧ (dropRecord o s).tbm = s.tbm ∧
    (dropRecord o s).psq = s.psq ∧ (dropRecord o s).stk = s.stk ∧ (dropRecord o s).asc = s.asc ∧
    (dropRecord o s).wfm = s.wfm ∧ (dropRecord o s).drv = s.drv ∧ (dropRecord o s).run = s.run :=
  ⟨rfl, rfl, rfl, rfl, rfl, rfl, rfl, rfl, rfl, rfl, rfl⟩

@[simp] theorem staleIfCarries_frame (o : Ordinal) (s : State) :
    (staleIfCarries o s).pending = s.pending ∧ (staleIfCarries o s).resetLine = s.resetLine ∧
    (staleIfCarries o s).lineOut = s.lineOut ∧ (staleIfCarries o s).dlp = s.dlp ∧
    (staleIfCarries o s).tbm = s.tbm ∧ (staleIfCarries o s).psq = s.psq ∧ (staleIfCarries o s).shb = s.shb ∧
    (staleIfCarries o s).stk = s.stk ∧ (staleIfCarries o s).asc = s.asc ∧ (staleIfCarries o s).wfm = s.wfm ∧
    (staleIfCarries o s).drv = s.drv ∧ (staleIfCarries o s).run = s.run := by
  refine ⟨?_, ?_, ?_, ?_, ?_, ?_, ?_, ?_, ?_, ?_, ?_, ?_⟩ <;> (unfold staleIfCarries; split <;> simp)

@[simp] theorem patternWrite_frame (s : State) :
    (patternWrite s).pending = s.pending ∧ (patternWrite s).resetLine = s.resetLine ∧
    (patternWrite s).dlp = s.dlp ∧ (patternWrite s).psq = s.psq ∧ (patternWrite s).stk = s.stk ∧
    (patternWrite s).asc = s.asc ∧ (patternWrite s).wfm = s.wfm ∧ (patternWrite s).drv = s.drv ∧
    (patternWrite s).run = s.run := by simp [patternWrite]

@[simp] theorem closeWindow_frame (s : State) :
    (closeWindow s).pending = s.pending ∧ (closeWindow s).resetLine = s.resetLine ∧
    (closeWindow s).lineOut = s.lineOut ∧ (closeWindow s).dlp = s.dlp ∧ (closeWindow s).tbm = s.tbm ∧
    (closeWindow s).psq = s.psq ∧ (closeWindow s).shb = s.shb ∧ (closeWindow s).hci = s.hci ∧
    (closeWindow s).stk = s.stk ∧ (closeWindow s).asc = s.asc ∧ (closeWindow s).drv = s.drv ∧
    (closeWindow s).run = s.run := ⟨rfl, rfl, rfl, rfl, rfl, rfl, rfl, rfl, rfl, rfl, rfl, rfl⟩

@[simp] theorem setArmed_frame (a : Option ArmedPart) (s : State) :
    (setArmed a s).pending = s.pending ∧ (setArmed a s).resetLine = s.resetLine ∧
    (setArmed a s).lineOut = s.lineOut ∧ (setArmed a s).dlp = s.dlp ∧ (setArmed a s).tbm = s.tbm ∧
    (setArmed a s).psq = s.psq ∧ (setArmed a s).shb = s.shb ∧ (setArmed a s).hci = s.hci ∧
    (setArmed a s).stk = s.stk ∧ (setArmed a s).wfm = s.wfm ∧ (setArmed a s).drv = s.drv ∧
    (setArmed a s).run = s.run := by
  refine ⟨?_, ?_, ?_, ?_, ?_, ?_, ?_, ?_, ?_, ?_, ?_, ?_⟩ <;> (unfold setArmed; split <;> simp)

@[simp] theorem disarmLeaving_frame (s : State) :
    (disarmLeaving s).pending = s.pending ∧ (disarmLeaving s).resetLine = s.resetLine ∧
    (disarmLeaving s).lineOut = s.lineOut ∧ (disarmLeaving s).dlp = s.dlp ∧ (disarmLeaving s).tbm = s.tbm ∧
    (disarmLeaving s).shb = s.shb ∧ (disarmLeaving s).hci = s.hci ∧ (disarmLeaving s).stk = s.stk ∧
    (disarmLeaving s).drv = s.drv ∧ (disarmLeaving s).run = s.run := by simp [disarmLeaving]

@[simp] theorem switchOffAll_frame (s : State) :
    (switchOffAll s).pending = s.pending ∧ (switchOffAll s).resetLine = s.resetLine ∧
    (switchOffAll s).lineOut = s.lineOut ∧ (switchOffAll s).dlp = s.dlp ∧ (switchOffAll s).tbm = s.tbm ∧
    (switchOffAll s).psq = s.psq ∧ (switchOffAll s).shb = s.shb ∧ (switchOffAll s).hci = s.hci ∧
    (switchOffAll s).stk = s.stk ∧ (switchOffAll s).asc = s.asc ∧ (switchOffAll s).wfm = s.wfm ∧
    (switchOffAll s).run = s.run := by simp [switchOffAll]

@[simp] theorem enterState_frame (st : RunState) (s : State) :
    (enterState st s).pending = s.pending ∧ (enterState st s).resetLine = s.resetLine ∧
    (enterState st s).lineOut = s.lineOut ∧ (enterState st s).dlp = s.dlp ∧ (enterState st s).tbm = s.tbm ∧
    (enterState st s).shb = s.shb ∧ (enterState st s).hci = s.hci := by
  refine ⟨?_, ?_, ?_, ?_, ?_, ?_, ?_⟩ <;> (unfold enterState; dsimp only; (repeat' split) <;> simp)

@[simp] theorem postRunState_frame (before : RunState) (later : Option Cause) (s : State) :
    (postRunState before later s).pending = s.pending ∧ (postRunState before later s).resetLine = s.resetLine ∧
    (postRunState before later s).lineOut = s.lineOut ∧ (postRunState before later s).tbm = s.tbm ∧
    (postRunState before later s).psq = s.psq ∧ (postRunState before later s).shb = s.shb ∧
    (postRunState before later s).hci = s.hci ∧ (postRunState before later s).stk = s.stk ∧
    (postRunState before later s).asc = s.asc ∧ (postRunState before later s).wfm = s.wfm ∧
    (postRunState before later s).drv = s.drv ∧ (postRunState before later s).run = s.run := by simp [postRunState]

@[simp] theorem changeState_frame (st : RunState) (s : State) :
    (changeState st s).pending = s.pending ∧ (changeState st s).resetLine = s.resetLine ∧
    (changeState st s).tbm = s.tbm := by simp [changeState]

@[simp] theorem laterCause_frame (c : Cause) (s : State) :
    (laterCause c s).pending = s.pending ∧ (laterCause c s).resetLine = s.resetLine ∧
    (laterCause c s).lineOut = s.lineOut ∧ (laterCause c s).tbm = s.tbm ∧ (laterCause c s).psq = s.psq ∧
    (laterCause c s).shb = s.shb ∧ (laterCause c s).hci = s.hci ∧ (laterCause c s).stk = s.stk ∧
    (laterCause c s).asc = s.asc ∧ (laterCause c s).wfm = s.wfm ∧ (laterCause c s).drv = s.drv := by simp [laterCause]

@[simp] theorem takeStop_frame (c : StopCause) (s : State) :
    (takeStop c s).pending = s.pending ∧ (takeStop c s).resetLine = s.resetLine ∧ (takeStop c s).tbm = s.tbm := by
  refine ⟨?_, ?_, ?_⟩ <;> (unfold takeStop; dsimp only; (repeat' split) <;> simp)

@[simp] theorem takeHalt_frame (c : HaltCause) (s : State) :
    (takeHalt c s).pending = s.pending ∧ (takeHalt c s).resetLine = s.resetLine ∧ (takeHalt c s).tbm = s.tbm := by
  refine ⟨?_, ?_, ?_⟩ <;> (unfold takeHalt; split <;> simp)

@[simp] theorem takeCause_frame (s : State) (c : Cause) :
    (takeCause s c).pending = s.pending ∧ (takeCause s c).resetLine = s.resetLine ∧ (takeCause s c).tbm = s.tbm := by
  refine ⟨?_, ?_, ?_⟩ <;> (unfold takeCause; split <;> simp)

@[simp] theorem takeAt_frame (s : State) (place : Nat) :
    (takeAt s place).pending = s.pending ∧ (takeAt s place).resetLine = s.resetLine ∧
    (takeAt s place).tbm = s.tbm := by
  refine ⟨?_, ?_, ?_⟩ <;> (unfold takeAt; split <;> simp)

@[simp] theorem drain_frame (s : State) :
    (drain s).pending = s.pending ∧ (drain s).resetLine = s.resetLine ∧ (drain s).tbm = s.tbm := by
  unfold drain
  refine ⟨?_, ?_, ?_⟩ <;>
    exact foldl_keeps _ _ (by intros; simp) _ _

@[simp] theorem takeCauses_frame (taken : CausesTaken) (s : State) :
    (takeCauses taken s).pending = s.pending ∧ (takeCauses taken s).resetLine = s.resetLine ∧
    (takeCauses taken s).tbm = s.tbm := by
  unfold takeCauses
  split
  · simp
  · refine ⟨?_, ?_, ?_⟩ <;> exact foldl_keeps _ _ (by intros; simp) _ _

@[simp] theorem dropRevTime_frame (s : State) :
    (dropRevTime s).pending = s.pending ∧ (dropRevTime s).resetLine = s.resetLine ∧
    (dropRevTime s).lineOut = s.lineOut ∧ (dropRevTime s).dlp = s.dlp ∧ (dropRevTime s).tbm = s.tbm ∧
    (dropRevTime s).psq = s.psq ∧ (dropRevTime s).shb = s.shb ∧ (dropRevTime s).hci = s.hci ∧
    (dropRevTime s).asc = s.asc ∧ (dropRevTime s).wfm = s.wfm ∧ (dropRevTime s).drv = s.drv ∧
    (dropRevTime s).run = s.run := ⟨rfl, rfl, rfl, rfl, rfl, rfl, rfl, rfl, rfl, rfl, rfl, rfl⟩

@[simp] theorem sendFrame_frame (kind : TxKind) (payload : List Byte) (s : State) :
    (sendFrame kind payload s).pending = s.pending ∧ (sendFrame kind payload s).resetLine = s.resetLine ∧
    (sendFrame kind payload s).lineOut = s.lineOut ∧ (sendFrame kind payload s).tbm = s.tbm ∧
    (sendFrame kind payload s).psq = s.psq ∧ (sendFrame kind payload s).shb = s.shb ∧
    (sendFrame kind payload s).hci = s.hci ∧ (sendFrame kind payload s).stk = s.stk ∧
    (sendFrame kind payload s).asc = s.asc ∧ (sendFrame kind payload s).wfm = s.wfm ∧
    (sendFrame kind payload s).drv = s.drv ∧ (sendFrame kind payload s).run = s.run :=
  ⟨rfl, rfl, rfl, rfl, rfl, rfl, rfl, rfl, rfl, rfl, rfl, rfl⟩

@[simp] theorem beginFrame_frame (s : State) :
    (beginFrame s).pending = s.pending ∧ (beginFrame s).resetLine = s.resetLine ∧
    (beginFrame s).lineOut = s.lineOut ∧ (beginFrame s).tbm = s.tbm ∧ (beginFrame s).psq = s.psq ∧
    (beginFrame s).shb = s.shb ∧ (beginFrame s).hci = s.hci ∧ (beginFrame s).stk = s.stk ∧
    (beginFrame s).asc = s.asc ∧ (beginFrame s).wfm = s.wfm ∧ (beginFrame s).drv = s.drv ∧
    (beginFrame s).run = s.run := by
  refine ⟨?_, ?_, ?_, ?_, ?_, ?_, ?_, ?_, ?_, ?_, ?_, ?_⟩ <;>
    (unfold beginFrame; dsimp only; (repeat' split) <;> simp)

@[simp] theorem setChoiceWait_frame (n : Nat) (s : State) :
    (setChoiceWait n s).pending = s.pending ∧ (setChoiceWait n s).resetLine = s.resetLine ∧
    (setChoiceWait n s).lineOut = s.lineOut ∧ (setChoiceWait n s).tbm = s.tbm ∧ (setChoiceWait n s).psq = s.psq ∧
    (setChoiceWait n s).shb = s.shb ∧ (setChoiceWait n s).hci = s.hci ∧ (setChoiceWait n s).stk = s.stk ∧
    (setChoiceWait n s).asc = s.asc ∧ (setChoiceWait n s).wfm = s.wfm ∧ (setChoiceWait n s).drv = s.drv ∧
    (setChoiceWait n s).run = s.run := ⟨rfl, rfl, rfl, rfl, rfl, rfl, rfl, rfl, rfl, rfl, rfl, rfl⟩

@[simp] theorem kickTransmitter_frame (s : State) :
    (kickTransmitter s).pending = s.pending ∧ (kickTransmitter s).resetLine = s.resetLine ∧
    (kickTransmitter s).lineOut = s.lineOut ∧ (kickTransmitter s).tbm = s.tbm ∧
    (kickTransmitter s).psq = s.psq ∧ (kickTransmitter s).shb = s.shb ∧ (kickTransmitter s).hci = s.hci ∧
    (kickTransmitter s).stk = s.stk ∧ (kickTransmitter s).asc = s.asc ∧ (kickTransmitter s).wfm = s.wfm ∧
    (kickTransmitter s).drv = s.drv ∧ (kickTransmitter s).run = s.run := by
  refine ⟨?_, ?_, ?_, ?_, ?_, ?_, ?_, ?_, ?_, ?_, ?_, ?_⟩ <;> (unfold kickTransmitter; repeat' split) <;> simp

@[simp] theorem setAnswer_frame (kind : FrameKind) (code : Byte) (r : Result) (data : List Byte) (s : State) :
    (setAnswer kind code r data s).pending = s.pending ∧
    (setAnswer kind code r data s).resetLine = s.resetLine ∧
    (setAnswer kind code r data s).lineOut = s.lineOut ∧ (setAnswer kind code r data s).tbm = s.tbm ∧
    (setAnswer kind code r data s).psq = s.psq ∧ (setAnswer kind code r data s).shb = s.shb ∧
    (setAnswer kind code r data s).hci = s.hci ∧ (setAnswer kind code r data s).stk = s.stk ∧
    (setAnswer kind code r data s).asc = s.asc ∧ (setAnswer kind code r data s).wfm = s.wfm ∧
    (setAnswer kind code r data s).drv = s.drv ∧ (setAnswer kind code r data s).run = s.run :=
  ⟨rfl, rfl, rfl, rfl, rfl, rfl, rfl, rfl, rfl, rfl, rfl, rfl⟩

@[simp] theorem answerCommand_frame (code : Nat) (r : Result) (data : List Byte) (s : State) :
    (answerCommand code r data s).pending = s.pending ∧ (answerCommand code r data s).resetLine = s.resetLine ∧
    (answerCommand code r data s).lineOut = s.lineOut ∧ (answerCommand code r data s).tbm = s.tbm ∧
    (answerCommand code r data s).psq = s.psq ∧ (answerCommand code r data s).shb = s.shb ∧
    (answerCommand code r data s).hci = s.hci ∧ (answerCommand code r data s).stk = s.stk ∧
    (answerCommand code r data s).asc = s.asc ∧ (answerCommand code r data s).wfm = s.wfm ∧
    (answerCommand code r data s).drv = s.drv ∧ (answerCommand code r data s).run = s.run :=
  ⟨rfl, rfl, rfl, rfl, rfl, rfl, rfl, rfl, rfl, rfl, rfl, rfl⟩

end Sys2Proof.Machine
end

