-- ==== Sys2Proof/Laws/Loom.lean ====
section
/-! SUPPORT. What the operations of the Weft Monitor, the Driver Channels, the Angle Scheduler, the Pick Sequencer and the Shaft
Tracker leave as it was: one lemma an operation, every unchanged block in it. -/

namespace Sys2Proof.Machine

@[simp] theorem weftFault_frame (d : WeftDetail) (c : Ordinal → StopCause) (s : State) :
    (weftFault d c s).pending = s.pending ∧ (weftFault d c s).resetLine = s.resetLine ∧
    (weftFault d c s).lineOut = s.lineOut ∧ (weftFault d c s).tbm = s.tbm ∧ (weftFault d c s).shb = s.shb ∧
    (weftFault d c s).hci = s.hci ∧ (weftFault d c s).stk = s.stk ∧ (weftFault d c s).asc = s.asc ∧
    (weftFault d c s).drv = s.drv := by
  refine ⟨?_, ?_, ?_, ?_, ?_, ?_, ?_, ?_, ?_⟩ <;> (unfold weftFault; split <;> simp)

@[simp] theorem openWindow_frame (s : State) :
    (openWindow s).pending = s.pending ∧ (openWindow s).resetLine = s.resetLine ∧
    (openWindow s).lineOut = s.lineOut ∧ (openWindow s).dlp = s.dlp ∧ (openWindow s).tbm = s.tbm ∧
    (openWindow s).psq = s.psq ∧ (openWindow s).shb = s.shb ∧ (openWindow s).hci = s.hci ∧
    (openWindow s).stk = s.stk ∧ (openWindow s).asc = s.asc ∧ (openWindow s).drv = s.drv ∧
    (openWindow s).run = s.run := by
  refine ⟨?_, ?_, ?_, ?_, ?_, ?_, ?_, ?_, ?_, ?_, ?_, ?_⟩ <;> (unfold openWindow; split <;> simp)

@[simp] theorem insertCurrent_frame (s : State) :
    (insertCurrent s).pending = s.pending ∧ (insertCurrent s).resetLine = s.resetLine ∧
    (insertCurrent s).lineOut = s.lineOut ∧ (insertCurrent s).dlp = s.dlp ∧ (insertCurrent s).tbm = s.tbm ∧
    (insertCurrent s).shb = s.shb ∧ (insertCurrent s).hci = s.hci ∧ (insertCurrent s).stk = s.stk ∧
    (insertCurrent s).asc = s.asc ∧ (insertCurrent s).wfm = s.wfm ∧ (insertCurrent s).drv = s.drv ∧
    (insertCurrent s).run = s.run := ⟨rfl, rfl, rfl, rfl, rfl, rfl, rfl, rfl, rfl, rfl, rfl, rfl⟩

@[simp] theorem judgeWindow_frame (s : State) :
    (judgeWindow s).pending = s.pending ∧ (judgeWindow s).resetLine = s.resetLine ∧
    (judgeWindow s).lineOut = s.lineOut ∧ (judgeWindow s).tbm = s.tbm ∧ (judgeWindow s).shb = s.shb ∧
    (judgeWindow s).hci = s.hci ∧ (judgeWindow s).stk = s.stk ∧ (judgeWindow s).asc = s.asc ∧
    (judgeWindow s).drv = s.drv := by
  refine ⟨?_, ?_, ?_, ?_, ?_, ?_, ?_, ?_, ?_⟩ <;>
    (cases s <;> unfold judgeWindow <;> dsimp only <;> (repeat' split) <;> simp)

@[simp] theorem watchedBreak_frame (f : FeederIdx) (s : State) :
    (watchedBreak f s).pending = s.pending ∧ (watchedBreak f s).resetLine = s.resetLine ∧
    (watchedBreak f s).lineOut = s.lineOut ∧ (watchedBreak f s).tbm = s.tbm ∧ (watchedBreak f s).shb = s.shb ∧
    (watchedBreak f s).hci = s.hci ∧ (watchedBreak f s).stk = s.stk ∧ (watchedBreak f s).asc = s.asc ∧
    (watchedBreak f s).drv = s.drv := by
  refine ⟨?_, ?_, ?_, ?_, ?_, ?_, ?_, ?_, ?_⟩ <;> (unfold watchedBreak; split <;> simp)

@[simp] theorem beginWatch_frame (f : Option FeederIdx) (s : State) :
    (beginWatch f s).pending = s.pending ∧ (beginWatch f s).resetLine = s.resetLine ∧
    (beginWatch f s).lineOut = s.lineOut ∧ (beginWatch f s).tbm = s.tbm ∧ (beginWatch f s).shb = s.shb ∧
    (beginWatch f s).hci = s.hci ∧ (beginWatch f s).stk = s.stk ∧ (beginWatch f s).asc = s.asc ∧
    (beginWatch f s).drv = s.drv := by
  refine ⟨?_, ?_, ?_, ?_, ?_, ?_, ?_, ?_, ?_⟩ <;> (unfold beginWatch; dsimp only; (repeat' split) <;> simp)

@[simp] theorem feederAlarm_frame (f : FeederIdx) (s : State) :
    (feederAlarm f s).pending = s.pending ∧ (feederAlarm f s).resetLine = s.resetLine ∧
    (feederAlarm f s).lineOut = s.lineOut ∧ (feederAlarm f s).tbm = s.tbm ∧ (feederAlarm f s).psq = s.psq ∧
    (feederAlarm f s).shb = s.shb ∧ (feederAlarm f s).hci = s.hci ∧ (feederAlarm f s).stk = s.stk ∧
    (feederAlarm f s).asc = s.asc ∧ (feederAlarm f s).wfm = s.wfm ∧ (feederAlarm f s).drv = s.drv ∧
    (feederAlarm f s).run = s.run := by simp [feederAlarm]

@[simp] theorem feederBroken_frame (f : FeederIdx) (s : State) :
    (feederBroken f s).pending = s.pending ∧ (feederBroken f s).resetLine = s.resetLine ∧
    (feederBroken f s).lineOut = s.lineOut ∧ (feederBroken f s).tbm = s.tbm ∧ (feederBroken f s).shb = s.shb ∧
    (feederBroken f s).hci = s.hci ∧ (feederBroken f s).stk = s.stk ∧ (feederBroken f s).asc = s.asc ∧
    (feederBroken f s).drv = s.drv := by
  refine ⟨?_, ?_, ?_, ?_, ?_, ?_, ?_, ?_, ?_⟩ <;> (unfold feederBroken; split <;> simp)

@[simp] theorem setFeeder_frame (f : FeederIdx) (l : Level) (s : State) :
    (setFeeder f l s).pending = s.pending ∧ (setFeeder f l s).resetLine = s.resetLine ∧
    (setFeeder f l s).lineOut = s.lineOut ∧ (setFeeder f l s).dlp = s.dlp ∧ (setFeeder f l s).tbm = s.tbm ∧
    (setFeeder f l s).psq = s.psq ∧ (setFeeder f l s).shb = s.shb ∧ (setFeeder f l s).hci = s.hci ∧
    (setFeeder f l s).stk = s.stk ∧ (setFeeder f l s).asc = s.asc ∧ (setFeeder f l s).drv = s.drv ∧
    (setFeeder f l s).run = s.run := ⟨rfl, rfl, rfl, rfl, rfl, rfl, rfl, rfl, rfl, rfl, rfl, rfl⟩

@[simp] theorem countSpurious_frame (s : State) :
    (countSpurious s).pending = s.pending ∧ (countSpurious s).resetLine = s.resetLine ∧
    (countSpurious s).lineOut = s.lineOut ∧ (countSpurious s).dlp = s.dlp ∧ (countSpurious s).tbm = s.tbm ∧
    (countSpurious s).psq = s.psq ∧ (countSpurious s).shb = s.shb ∧ (countSpurious s).hci = s.hci ∧
    (countSpurious s).stk = s.stk ∧ (countSpurious s).asc = s.asc ∧ (countSpurious s).drv = s.drv ∧
    (countSpurious s).run = s.run := ⟨rfl, rfl, rfl, rfl, rfl, rfl, rfl, rfl, rfl, rfl, rfl, rfl⟩

@[simp] theorem captureArrival_frame (a : Nat) (s : State) :
    (captureArrival a s).pending = s.pending ∧ (captureArrival a s).resetLine = s.resetLine ∧
    (captureArrival a s).lineOut = s.lineOut ∧ (captureArrival a s).dlp = s.dlp ∧
    (captureArrival a s).tbm = s.tbm ∧ (captureArrival a s).shb = s.shb ∧ (captureArrival a s).hci = s.hci ∧
    (captureArrival a s).stk = s.stk ∧ (captureArrival a s).asc = s.asc ∧ (captureArrival a s).drv = s.drv ∧
    (captureArrival a s).run = s.run := ⟨rfl, rfl, rfl, rfl, rfl, rfl, rfl, rfl, rfl, rfl, rfl⟩

@[simp] theorem blockReport_frame (cs : List DriverIdx) (s : State) :
    (blockReport cs s).pending = s.pending ∧ (blockReport cs s).resetLine = s.resetLine ∧
    (blockReport cs s).lineOut = s.lineOut ∧ (blockReport cs s).tbm = s.tbm ∧ (blockReport cs s).shb = s.shb ∧
    (blockReport cs s).hci = s.hci ∧ (blockReport cs s).stk = s.stk ∧ (blockReport cs s).asc = s.asc ∧
    (blockReport cs s).drv = s.drv := by
  refine ⟨?_, ?_, ?_, ?_, ?_, ?_, ?_, ?_, ?_⟩ <;> (unfold blockReport; dsimp only; (repeat' split) <;> simp)

@[simp] theorem driverOn_frame (dc : DriverIdx) (s : State) :
    (driverOn dc s).pending = s.pending ∧ (driverOn dc s).resetLine = s.resetLine ∧
    (driverOn dc s).lineOut = s.lineOut ∧ (driverOn dc s).dlp = s.dlp ∧ (driverOn dc s).tbm = s.tbm ∧
    (driverOn dc s).psq = s.psq ∧ (driverOn dc s).shb = s.shb ∧ (driverOn dc s).hci = s.hci ∧
    (driverOn dc s).stk = s.stk ∧ (driverOn dc s).asc = s.asc ∧ (driverOn dc s).wfm = s.wfm ∧
    (driverOn dc s).run = s.run := by
  refine ⟨?_, ?_, ?_, ?_, ?_, ?_, ?_, ?_, ?_, ?_, ?_, ?_⟩ <;> (unfold driverOn; dsimp only; (repeat' split) <;> simp)

@[simp] theorem driverOff_frame (dc : DriverIdx) (s : State) :
    (driverOff dc s).pending = s.pending ∧ (driverOff dc s).resetLine = s.resetLine ∧
    (driverOff dc s).lineOut = s.lineOut ∧ (driverOff dc s).dlp = s.dlp ∧ (driverOff dc s).tbm = s.tbm ∧
    (driverOff dc s).psq = s.psq ∧ (driverOff dc s).shb = s.shb ∧ (driverOff dc s).hci = s.hci ∧
    (driverOff dc s).stk = s.stk ∧ (driverOff dc s).asc = s.asc ∧ (driverOff dc s).wfm = s.wfm ∧
    (driverOff dc s).run = s.run := ⟨rfl, rfl, rfl, rfl, rfl, rfl, rfl, rfl, rfl, rfl, rfl, rfl⟩

@[simp] theorem releasePerPick_frame (s : State) :
    (releasePerPick s).pending = s.pending ∧ (releasePerPick s).resetLine = s.resetLine ∧
    (releasePerPick s).lineOut = s.lineOut ∧ (releasePerPick s).dlp = s.dlp ∧ (releasePerPick s).tbm = s.tbm ∧
    (releasePerPick s).psq = s.psq ∧ (releasePerPick s).shb = s.shb ∧ (releasePerPick s).hci = s.hci ∧
    (releasePerPick s).stk = s.stk ∧ (releasePerPick s).asc = s.asc ∧ (releasePerPick s).wfm = s.wfm ∧
    (releasePerPick s).run = s.run := by simp [releasePerPick]

@[simp] theorem releaseAll_frame (s : State) :
    (releaseAll s).pending = s.pending ∧ (releaseAll s).resetLine = s.resetLine ∧
    (releaseAll s).lineOut = s.lineOut ∧ (releaseAll s).dlp = s.dlp ∧ (releaseAll s).tbm = s.tbm ∧
    (releaseAll s).psq = s.psq ∧ (releaseAll s).shb = s.shb ∧ (releaseAll s).hci = s.hci ∧
    (releaseAll s).stk = s.stk ∧ (releaseAll s).asc = s.asc ∧ (releaseAll s).wfm = s.wfm ∧
    (releaseAll s).run = s.run := by simp [releaseAll]

@[simp] theorem postDriverFault_frame (dc : DriverIdx) (k : DriverFaultKind) (d : DriverSettings) (b : List DriverIdx) (ph : DrivePhase)
    (s : State) :
    (postDriverFault dc k d b ph s).pending = s.pending ∧
    (postDriverFault dc k d b ph s).resetLine = s.resetLine ∧
    (postDriverFault dc k d b ph s).lineOut = s.lineOut ∧ (postDriverFault dc k d b ph s).tbm = s.tbm ∧
    (postDriverFault dc k d b ph s).psq = s.psq ∧ (postDriverFault dc k d b ph s).shb = s.shb ∧
    (postDriverFault dc k d b ph s).hci = s.hci ∧ (postDriverFault dc k d b ph s).stk = s.stk ∧
    (postDriverFault dc k d b ph s).asc = s.asc ∧ (postDriverFault dc k d b ph s).wfm = s.wfm ∧
    (postDriverFault dc k d b ph s).drv = s.drv ∧ (postDriverFault dc k d b ph s).run = s.run :=
  by simp [postDriverFault]

@[simp] theorem blockingFault_frame (dc : DriverIdx) (k : DriverFaultKind) (d : DriverSettings) (b : BlockKind) (s : State) :
    (blockingFault dc k d b s).pending = s.pending ∧ (blockingFault dc k d b s).resetLine = s.resetLine ∧
    (blockingFault dc k d b s).lineOut = s.lineOut ∧ (blockingFault dc k d b s).tbm = s.tbm ∧
    (blockingFault dc k d b s).psq = s.psq ∧ (blockingFault dc k d b s).shb = s.shb ∧
    (blockingFault dc k d b s).hci = s.hci ∧ (blockingFault dc k d b s).stk = s.stk ∧
    (blockingFault dc k d b s).asc = s.asc ∧ (blockingFault dc k d b s).wfm = s.wfm ∧
    (blockingFault dc k d b s).run = s.run := by simp [blockingFault]

@[simp] theorem driverFault_frame (dc : DriverIdx) (k : DriverFaultKind) (s : State) :
    (driverFault dc k s).pending = s.pending ∧ (driverFault dc k s).resetLine = s.resetLine ∧
    (driverFault dc k s).lineOut = s.lineOut ∧ (driverFault dc k s).tbm = s.tbm ∧
    (driverFault dc k s).shb = s.shb ∧ (driverFault dc k s).hci = s.hci ∧ (driverFault dc k s).stk = s.stk ∧
    (driverFault dc k s).asc = s.asc := by
  refine ⟨?_, ?_, ?_, ?_, ?_, ?_, ?_, ?_⟩ <;> (unfold driverFault; dsimp only; (repeat' split) <;> simp)

@[simp] theorem makeSnapshot_frame (e : SnapshotEntry) (adv : Nat → Nat) (s : State) :
    (makeSnapshot e adv s).pending = s.pending ∧ (makeSnapshot e adv s).resetLine = s.resetLine ∧
    (makeSnapshot e adv s).lineOut = s.lineOut ∧ (makeSnapshot e adv s).dlp = s.dlp ∧
    (makeSnapshot e adv s).tbm = s.tbm ∧ (makeSnapshot e adv s).psq = s.psq ∧
    (makeSnapshot e adv s).shb = s.shb ∧ (makeSnapshot e adv s).hci = s.hci ∧
    (makeSnapshot e adv s).stk = s.stk ∧ (makeSnapshot e adv s).wfm = s.wfm ∧
    (makeSnapshot e adv s).drv = s.drv ∧ (makeSnapshot e adv s).run = s.run := by
  refine ⟨?_, ?_, ?_, ?_, ?_, ?_, ?_, ?_, ?_, ?_, ?_, ?_⟩ <;> (unfold makeSnapshot; split <;> simp)

@[simp] theorem channelFault_frame (r : ChannelReason) (s : State) :
    (channelFault r s).pending = s.pending ∧ (channelFault r s).resetLine = s.resetLine ∧
    (channelFault r s).lineOut = s.lineOut ∧ (channelFault r s).tbm = s.tbm ∧ (channelFault r s).shb = s.shb ∧
    (channelFault r s).hci = s.hci ∧ (channelFault r s).stk = s.stk ∧ (channelFault r s).asc = s.asc ∧
    (channelFault r s).drv = s.drv := by simp [channelFault]

@[simp] theorem armWith_frame (adv : Nat → Nat) (w : WeftChannel) (p : Profile) (r : PickRecord) (s : State) :
    (armWith adv w p r s).pending = s.pending ∧ (armWith adv w p r s).resetLine = s.resetLine ∧
    (armWith adv w p r s).lineOut = s.lineOut ∧ (armWith adv w p r s).dlp = s.dlp ∧
    (armWith adv w p r s).tbm = s.tbm ∧ (armWith adv w p r s).shb = s.shb ∧ (armWith adv w p r s).hci = s.hci ∧
    (armWith adv w p r s).stk = s.stk ∧ (armWith adv w p r s).wfm = s.wfm ∧ (armWith adv w p r s).drv = s.drv ∧
    (armWith adv w p r s).run = s.run := by simp [armWith]

@[simp] theorem armCurrent_frame (adv : Nat → Nat) (s : State) :
    (armCurrent adv s).pending = s.pending ∧ (armCurrent adv s).resetLine = s.resetLine ∧
    (armCurrent adv s).lineOut = s.lineOut ∧ (armCurrent adv s).tbm = s.tbm ∧ (armCurrent adv s).shb = s.shb ∧
    (armCurrent adv s).hci = s.hci ∧ (armCurrent adv s).stk = s.stk ∧ (armCurrent adv s).drv = s.drv := by
  refine ⟨?_, ?_, ?_, ?_, ?_, ?_, ?_, ?_⟩ <;>
    (cases s <;> unfold armCurrent <;> dsimp only <;> (repeat' split) <;> simp)

@[simp] theorem startSnapshot_frame (s : State) :
    (startSnapshot s).pending = s.pending ∧ (startSnapshot s).resetLine = s.resetLine ∧
    (startSnapshot s).lineOut = s.lineOut ∧ (startSnapshot s).tbm = s.tbm ∧ (startSnapshot s).shb = s.shb ∧
    (startSnapshot s).hci = s.hci ∧ (startSnapshot s).stk = s.stk ∧ (startSnapshot s).drv = s.drv := by
  refine ⟨?_, ?_, ?_, ?_, ?_, ?_, ?_, ?_⟩ <;> (unfold startSnapshot; dsimp only; (repeat' split) <;> simp)

@[simp] theorem fireOne_frame (s : State) (j : Nat) :
    (fireOne s j).pending = s.pending ∧ (fireOne s j).resetLine = s.resetLine ∧
    (fireOne s j).lineOut = s.lineOut ∧ (fireOne s j).tbm = s.tbm ∧ (fireOne s j).shb = s.shb ∧
    (fireOne s j).hci = s.hci ∧ (fireOne s j).stk = s.stk := by
  refine ⟨?_, ?_, ?_, ?_, ?_, ?_, ?_⟩ <;> (unfold fireOne; dsimp only; (repeat' split) <;> simp)

@[simp] theorem fireAction_frame (x : Nat → Bool) (i : Nat) (s : State) :
    (fireAction x i s).pending = s.pending ∧ (fireAction x i s).resetLine = s.resetLine ∧
    (fireAction x i s).lineOut = s.lineOut ∧ (fireAction x i s).tbm = s.tbm ∧ (fireAction x i s).shb = s.shb ∧
    (fireAction x i s).hci = s.hci ∧ (fireAction x i s).stk = s.stk := by
  refine ⟨?_, ?_, ?_, ?_, ?_, ?_, ?_⟩ <;>
    (unfold fireAction; split <;> first | rfl | exact foldl_keeps _ _ (by intros; simp) _ _)

@[simp] theorem handOpening_frame (x : Nat → Bool) (s : State) :
    (handOpening x s).pending = s.pending ∧ (handOpening x s).resetLine = s.resetLine ∧
    (handOpening x s).lineOut = s.lineOut ∧ (handOpening x s).dlp = s.dlp ∧ (handOpening x s).tbm = s.tbm ∧
    (handOpening x s).psq = s.psq ∧ (handOpening x s).shb = s.shb ∧ (handOpening x s).hci = s.hci ∧
    (handOpening x s).stk = s.stk ∧ (handOpening x s).drv = s.drv ∧ (handOpening x s).run = s.run := by
  refine ⟨?_, ?_, ?_, ?_, ?_, ?_, ?_, ?_, ?_, ?_, ?_⟩ <;>
    (cases s <;> unfold handOpening <;> dsimp only <;> (repeat' split) <;> simp)

@[simp] theorem handClosing_frame (x : Nat → Bool) (s : State) :
    (handClosing x s).pending = s.pending ∧ (handClosing x s).resetLine = s.resetLine ∧
    (handClosing x s).lineOut = s.lineOut ∧ (handClosing x s).tbm = s.tbm ∧ (handClosing x s).shb = s.shb ∧
    (handClosing x s).hci = s.hci ∧ (handClosing x s).stk = s.stk ∧ (handClosing x s).drv = s.drv := by
  refine ⟨?_, ?_, ?_, ?_, ?_, ?_, ?_, ?_⟩ <;> (unfold handClosing; dsimp only; (repeat' split) <;> simp)

@[simp] theorem offReached_frame (a : ArmedPart) (s : State) :
    (offReached a s).pending = s.pending ∧ (offReached a s).resetLine = s.resetLine ∧
    (offReached a s).lineOut = s.lineOut ∧ (offReached a s).dlp = s.dlp ∧ (offReached a s).tbm = s.tbm ∧
    (offReached a s).psq = s.psq ∧ (offReached a s).shb = s.shb ∧ (offReached a s).hci = s.hci ∧
    (offReached a s).stk = s.stk ∧ (offReached a s).asc = s.asc ∧ (offReached a s).wfm = s.wfm ∧
    (offReached a s).run = s.run := by
  unfold offReached
  refine ⟨?_, ?_, ?_, ?_, ?_, ?_, ?_, ?_, ?_, ?_, ?_, ?_⟩ <;>
    exact foldl_keeps _ _ (by intros; simp) _ _

@[simp] theorem disarmBackward_frame (s : State) :
    (disarmBackward s).pending = s.pending ∧ (disarmBackward s).resetLine = s.resetLine ∧
    (disarmBackward s).lineOut = s.lineOut ∧ (disarmBackward s).dlp = s.dlp ∧ (disarmBackward s).tbm = s.tbm ∧
    (disarmBackward s).psq = s.psq ∧ (disarmBackward s).shb = s.shb ∧ (disarmBackward s).hci = s.hci ∧
    (disarmBackward s).stk = s.stk ∧ (disarmBackward s).run = s.run := by
  refine ⟨?_, ?_, ?_, ?_, ?_, ?_, ?_, ?_, ?_, ?_⟩ <;> (unfold disarmBackward; split <;> simp)

@[simp] theorem requestLatch_frame (x : Nat → Bool) (dir : Direction) (s : State) :
    (requestLatch x dir s).pending = s.pending ∧ (requestLatch x dir s).resetLine = s.resetLine ∧
    (requestLatch x dir s).tbm = s.tbm ∧ (requestLatch x dir s).psq = s.psq ∧
    (requestLatch x dir s).stk = s.stk ∧ (requestLatch x dir s).asc = s.asc ∧
    (requestLatch x dir s).wfm = s.wfm ∧ (requestLatch x dir s).drv = s.drv := by
  refine ⟨?_, ?_, ?_, ?_, ?_, ?_, ?_, ?_⟩ <;>
    (cases s <;> unfold requestLatch <;> dsimp only <;> (repeat' split) <;> simp)

@[simp] theorem readyIfReached_frame (s : State) :
    (readyIfReached s).pending = s.pending ∧ (readyIfReached s).resetLine = s.resetLine ∧
    (readyIfReached s).lineOut = s.lineOut ∧ (readyIfReached s).dlp = s.dlp ∧ (readyIfReached s).tbm = s.tbm ∧
    (readyIfReached s).shb = s.shb ∧ (readyIfReached s).hci = s.hci ∧ (readyIfReached s).stk = s.stk ∧
    (readyIfReached s).asc = s.asc ∧ (readyIfReached s).wfm = s.wfm ∧ (readyIfReached s).drv = s.drv ∧
    (readyIfReached s).run = s.run := by
  refine ⟨?_, ?_, ?_, ?_, ?_, ?_, ?_, ?_, ?_, ?_, ?_, ?_⟩ <;> (unfold readyIfReached; split <;> simp)

@[simp] theorem lowWaterAfterFill_frame (s : State) :
    (lowWaterAfterFill s).pending = s.pending ∧ (lowWaterAfterFill s).resetLine = s.resetLine ∧
    (lowWaterAfterFill s).lineOut = s.lineOut ∧ (lowWaterAfterFill s).tbm = s.tbm ∧
    (lowWaterAfterFill s).shb = s.shb ∧ (lowWaterAfterFill s).hci = s.hci ∧ (lowWaterAfterFill s).stk = s.stk ∧
    (lowWaterAfterFill s).asc = s.asc ∧ (lowWaterAfterFill s).wfm = s.wfm ∧ (lowWaterAfterFill s).drv = s.drv ∧
    (lowWaterAfterFill s).run = s.run := by
  refine ⟨?_, ?_, ?_, ?_, ?_, ?_, ?_, ?_, ?_, ?_, ?_⟩ <;> (unfold lowWaterAfterFill; split <;> simp)

@[simp] theorem fillNext_frame (s : State) :
    (fillNext s).pending = s.pending ∧ (fillNext s).resetLine = s.resetLine ∧
    (fillNext s).lineOut = s.lineOut ∧ (fillNext s).tbm = s.tbm ∧ (fillNext s).shb = s.shb ∧
    (fillNext s).hci = s.hci ∧ (fillNext s).stk = s.stk ∧ (fillNext s).asc = s.asc ∧ (fillNext s).wfm = s.wfm ∧
    (fillNext s).drv = s.drv ∧ (fillNext s).run = s.run := by
  refine ⟨?_, ?_, ?_, ?_, ?_, ?_, ?_, ?_, ?_, ?_, ?_⟩ <;> (unfold fillNext; dsimp only; (repeat' split) <;> simp)

@[simp] theorem dropOldest_frame (s : State) :
    (dropOldest s).pending = s.pending ∧ (dropOldest s).resetLine = s.resetLine ∧
    (dropOldest s).lineOut = s.lineOut ∧ (dropOldest s).dlp = s.dlp ∧ (dropOldest s).tbm = s.tbm ∧
    (dropOldest s).stk = s.stk ∧ (dropOldest s).asc = s.asc ∧ (dropOldest s).wfm = s.wfm ∧
    (dropOldest s).drv = s.drv ∧ (dropOldest s).run = s.run := by
  refine ⟨?_, ?_, ?_, ?_, ?_, ?_, ?_, ?_, ?_, ?_⟩ <;> (unfold dropOldest; dsimp only; (repeat' split) <;> simp)

@[simp] theorem retireCurrent_frame (s : State) :
    (retireCurrent s).pending = s.pending ∧ (retireCurrent s).resetLine = s.resetLine ∧
    (retireCurrent s).lineOut = s.lineOut ∧ (retireCurrent s).tbm = s.tbm ∧ (retireCurrent s).stk = s.stk ∧
    (retireCurrent s).asc = s.asc ∧ (retireCurrent s).wfm = s.wfm ∧ (retireCurrent s).drv = s.drv ∧
    (retireCurrent s).run = s.run := by
  refine ⟨?_, ?_, ?_, ?_, ?_, ?_, ?_, ?_, ?_⟩ <;> (unfold retireCurrent; split <;> simp)

@[simp] theorem promote_frame (s : State) :
    (promote s).pending = s.pending ∧ (promote s).resetLine = s.resetLine ∧ (promote s).lineOut = s.lineOut ∧
    (promote s).tbm = s.tbm ∧ (promote s).stk = s.stk ∧ (promote s).asc = s.asc ∧ (promote s).wfm = s.wfm ∧
    (promote s).drv = s.drv ∧ (promote s).run = s.run := by simp [promote]

@[simp] theorem dwell_frame (s : State) :
    (dwell s).pending = s.pending ∧ (dwell s).resetLine = s.resetLine ∧ (dwell s).lineOut = s.lineOut ∧
    (dwell s).dlp = s.dlp ∧ (dwell s).tbm = s.tbm ∧ (dwell s).shb = s.shb ∧ (dwell s).hci = s.hci ∧
    (dwell s).stk = s.stk ∧ (dwell s).asc = s.asc ∧ (dwell s).wfm = s.wfm ∧ (dwell s).drv = s.drv ∧
    (dwell s).run = s.run := ⟨rfl, rfl, rfl, rfl, rfl, rfl, rfl, rfl, rfl, rfl, rfl, rfl⟩

@[simp] theorem armPromoted_frame (s : State) :
    (armPromoted s).pending = s.pending ∧ (armPromoted s).resetLine = s.resetLine ∧
    (armPromoted s).lineOut = s.lineOut ∧ (armPromoted s).tbm = s.tbm ∧ (armPromoted s).shb = s.shb ∧
    (armPromoted s).hci = s.hci ∧ (armPromoted s).stk = s.stk ∧ (armPromoted s).drv = s.drv := by
  refine ⟨?_, ?_, ?_, ?_, ?_, ?_, ?_, ?_⟩ <;> (unfold armPromoted; split <;> simp)

@[simp] theorem forwardSnapshot_frame (s : State) :
    (forwardSnapshot s).pending = s.pending ∧ (forwardSnapshot s).resetLine = s.resetLine ∧
    (forwardSnapshot s).lineOut = s.lineOut ∧ (forwardSnapshot s).dlp = s.dlp ∧
    (forwardSnapshot s).tbm = s.tbm ∧ (forwardSnapshot s).psq = s.psq ∧ (forwardSnapshot s).shb = s.shb ∧
    (forwardSnapshot s).hci = s.hci ∧ (forwardSnapshot s).stk = s.stk ∧ (forwardSnapshot s).wfm = s.wfm ∧
    (forwardSnapshot s).drv = s.drv ∧ (forwardSnapshot s).run = s.run := by simp [forwardSnapshot]

@[simp] theorem forwardBoundary_frame (s : State) :
    (forwardBoundary s).pending = s.pending ∧ (forwardBoundary s).resetLine = s.resetLine ∧
    (forwardBoundary s).tbm = s.tbm ∧ (forwardBoundary s).stk = s.stk ∧ (forwardBoundary s).drv = s.drv := by
  refine ⟨?_, ?_, ?_, ?_, ?_⟩ <;> (unfold forwardBoundary; dsimp only; (repeat' split) <;> simp)

@[simp] theorem postBackstep_frame (s : State) :
    (postBackstep s).pending = s.pending ∧ (postBackstep s).resetLine = s.resetLine ∧
    (postBackstep s).lineOut = s.lineOut ∧ (postBackstep s).tbm = s.tbm ∧ (postBackstep s).psq = s.psq ∧
    (postBackstep s).shb = s.shb ∧ (postBackstep s).hci = s.hci ∧ (postBackstep s).stk = s.stk ∧
    (postBackstep s).asc = s.asc ∧ (postBackstep s).wfm = s.wfm ∧ (postBackstep s).drv = s.drv ∧
    (postBackstep s).run = s.run := by simp [postBackstep]

@[simp] theorem unwind_frame (r : PickRecord) (s : State) :
    (unwind r s).pending = s.pending ∧ (unwind r s).resetLine = s.resetLine ∧
    (unwind r s).lineOut = s.lineOut ∧ (unwind r s).tbm = s.tbm ∧ (unwind r s).shb = s.shb ∧
    (unwind r s).hci = s.hci ∧ (unwind r s).stk = s.stk ∧ (unwind r s).asc = s.asc ∧ (unwind r s).wfm = s.wfm ∧
    (unwind r s).drv = s.drv ∧ (unwind r s).run = s.run := by simp [unwind]

@[simp] theorem backwardBoundary_frame (s : State) :
    (backwardBoundary s).pending = s.pending ∧ (backwardBoundary s).resetLine = s.resetLine ∧
    (backwardBoundary s).tbm = s.tbm ∧ (backwardBoundary s).stk = s.stk ∧ (backwardBoundary s).run = s.run := by
  refine ⟨?_, ?_, ?_, ?_, ?_⟩ <;> (unfold backwardBoundary; dsimp only; (repeat' split) <;> simp)

@[simp] theorem raiseIndexMissing_frame (s : State) :
    (raiseIndexMissing s).pending = s.pending ∧ (raiseIndexMissing s).resetLine = s.resetLine ∧
    (raiseIndexMissing s).lineOut = s.lineOut ∧ (raiseIndexMissing s).tbm = s.tbm ∧
    (raiseIndexMissing s).psq = s.psq ∧ (raiseIndexMissing s).shb = s.shb ∧ (raiseIndexMissing s).hci = s.hci ∧
    (raiseIndexMissing s).stk = s.stk ∧ (raiseIndexMissing s).asc = s.asc ∧ (raiseIndexMissing s).wfm = s.wfm ∧
    (raiseIndexMissing s).drv = s.drv := by simp [raiseIndexMissing]

@[simp] theorem keepShed_frame (c : StepInfo) (s : State) :
    (keepShed c s).pending = s.pending ∧ (keepShed c s).resetLine = s.resetLine ∧ (keepShed c s).dlp = s.dlp ∧
    (keepShed c s).tbm = s.tbm ∧ (keepShed c s).psq = s.psq ∧ (keepShed c s).stk = s.stk ∧
    (keepShed c s).asc = s.asc ∧ (keepShed c s).wfm = s.wfm ∧ (keepShed c s).drv = s.drv ∧
    (keepShed c s).run = s.run := by
  refine ⟨?_, ?_, ?_, ?_, ?_, ?_, ?_, ?_, ?_, ?_⟩ <;>
    (cases s <;> unfold keepShed <;> dsimp only <;> (repeat' split) <;> simp)

@[simp] theorem handle_frame (c : StepInfo) (s : State) (h : Handling) :
    (handle c s h).pending = s.pending ∧ (handle c s h).resetLine = s.resetLine ∧ (handle c s h).tbm = s.tbm ∧
    (handle c s h).stk = s.stk := by
  refine ⟨?_, ?_, ?_, ?_⟩ <;> (cases h <;> unfold handle <;> dsimp only <;> (repeat' split) <;> simp)

end Sys2Proof.Machine
end

