-- ==== Sys2Proof/Laws/Link.lean ====
section
/-! SUPPORT. What the frame of every command does: the posting of records, the causes handed, the transmitter, and
the taking of a frame from the receive buffer. -/

namespace Sys2Proof.Machine

theorem post_eq (e : Event) (s : State) : post e s = { s with dlp := s.dlp.post e } := by
  unfold post Dlp.post
  split <;> rfl

@[simp] theorem post_dlp (e : Event) (s : State) : (post e s).dlp = s.dlp.post e := by rw [post_eq]

theorem State.self_handed (s : State) (h : s.run.handed = []) :
    ({ s with run := { s.run with handed := [] } } : State) = s := by
  cases s with
  | mk p rl lo d t q sh hc st a w dr r => cases r; simp_all

theorem drain_of_none (s : State) (h : s.run.handed = []) : drain s = s := by
  unfold drain
  rw [h, List.foldl_nil, State.self_handed s h]

/-- With no cause waiting RUN takes none, whichever it is to take. -/
theorem takeCauses_of_none (taken : CausesTaken) (s : State) (h : s.run.handed = []) : takeCauses taken s = s := by
  unfold takeCauses
  split
  · exact drain_of_none s h
  · rename_i places
    induction places with
    | nil => rfl
    | cons x xs ih =>
      have e : takeAt s x = s := by simp [takeAt, h]
      rw [List.foldl_cons, e, ih]

/-- One cause handed: RUN takes it. -/
theorem drain_of_one (s : State) (c : Cause) (h : s.run.handed = [c]) :
    drain s = takeCause { s with run := { s.run with handed := [] } } c := by
  unfold drain
  rw [h, List.foldl_cons, List.foldl_nil]

/-- With RESETn high a command has its effect and an IDLE transmitter begins a frame. -/
theorem command_high (f : State → State) (s : State) (h : s.resetLine = .high) :
    command f s = .next (kickTransmitter (f { s with lineOut := [] })) := by
  unfold command
  simp [h]

/-- With RESETn low a command has no effect. -/
theorem command_low (f : State → State) (s : State) (h : s.resetLine = .low) : command f s = .next s := by
  unfold command
  simp [h]

/-- With RESETn high a command whose effect may hand a cause has it, RUN takes the causes the command names, and an
IDLE transmitter begins a frame. -/
theorem causing_high (taken : CausesTaken) (f : State → State) (s : State) (h : s.resetLine = .high) :
    causing taken f s = .next (kickTransmitter (takeCauses taken (f { s with lineOut := [] }))) :=
  command_high _ s h

/-- Where the effect leaves no cause waiting there is nothing for RUN to take. -/
theorem causing_quiet (taken : CausesTaken) (f : State → State) (s : State) (h : s.resetLine = .high)
    (hq : (f { s with lineOut := [] }).run.handed = []) :
    causing taken f s = .next (kickTransmitter (f { s with lineOut := [] })) := by
  rw [causing_high taken f s h, takeCauses_of_none taken _ hq]

/-- What the link holds, of a state with a transmitter to kick. -/
theorem kickTransmitter_congr (u v : State) (h : u.dlp = v.dlp) (hr : u.run = v.run) (hp : u.psq = v.psq) :
    (kickTransmitter u).dlp = (kickTransmitter v).dlp := by
  unfold kickTransmitter beginFrame sendFrame setChoiceWait frameBytes headerBytes State.pqFree
  rw [h, hr, hp]
  split
  · exact h
  · split
    · dsimp only
      repeat' split
      all_goals simp_all
    · simp_all

/-- The link stands as an IDLE transmitter leaves it. -/
theorem linkLeft_kick (u : State) : LinkLeft u.dlp (kickTransmitter u) := by
  unfold LinkLeft
  exact kickTransmitter_congr _ _ rfl (by simp) (by simp)

/-- A link field the transmitter does not touch. -/
@[simp] theorem kickTransmitter_dlp (u : State) :
    (kickTransmitter u).dlp.receiver = u.dlp.receiver ∧ (kickTransmitter u).dlp.held = u.dlp.held ∧
    (kickTransmitter u).dlp.answer = u.dlp.answer ∧ (kickTransmitter u).dlp.linkErrors = u.dlp.linkErrors := by
  unfold kickTransmitter beginFrame
  dsimp only
  repeat' split
  all_goals simp [sendFrame, setChoiceWait]

/-- The head frame is taken by its row. -/
theorem takeFrame_taking {row : FrameRow} {p : List Byte} {rest : List RxFrame} {s : State} (h : Taking row p rest s)
    (eff : List Byte → State → State) :
    takeFrame row eff { s with lineOut := [] } = eff p { s with lineOut := [], dlp := { s.dlp with held := rest } } := by
  obtain ⟨_, hh, hr, hk⟩ := h
  unfold takeFrame
  simp only [hh]
  have ok : ({ s with lineOut := [] } : State).canTake row { kind := row.kind, payload := p } = true := by
    unfold State.canTake
    rcases hk with hk | hk
    · subst hk
      simp [FrameRow.kind, rowOf]
    · simp [hr, hk]
  simp [ok]

/-- A command that takes a frame has the effect of its row. -/
theorem taking_next {row : FrameRow} {p : List Byte} {rest : List RxFrame} {s : State} (h : Taking row p rest s)
    (eff : List Byte → State → State) :
    command (takeFrame row eff) s =
      .next (kickTransmitter (eff p { s with lineOut := [], dlp := { s.dlp with held := rest } })) := by
  rw [command_high _ s h.1, takeFrame_taking h eff]

/-- A command that is answered and changes nothing else. -/
theorem answered_of {row : FrameRow} {p : List Byte} {rest : List RxFrame} {s : State} {c : Instr} {a : Answer}
    (h : Taking row p rest s) (eff : List Byte → State → State) (he : exec c s = command (takeFrame row eff) s)
    (hx : eff p { s with lineOut := [], dlp := { s.dlp with held := rest } } =
      { s with lineOut := [], dlp := { s.dlp with held := rest, answer := some a } }) : Answered c a rest s := by
  refine ⟨_, he.trans (taking_next h eff), ?_, ?_⟩
  · rw [hx]
    simp [ChangedOnly]
  · rw [hx]
    exact linkLeft_kick { s with lineOut := [], dlp := { s.dlp with held := rest, answer := some a } }

/-- The link as a state leaves it, where its DLP is known. -/
theorem linkLeft_of {d : Dlp} {u : State} (h : u.dlp = d) : LinkLeft d (kickTransmitter u) := h ▸ linkLeft_kick u

end Sys2Proof.Machine
end

