-- ==== Sys2Proof/Laws/State.lean ====
section
/-! SUPPORT. What each update of the state leaves in the block it changes, and the blocks it does not: one lemma a
field, so that no proof unfolds a record update. -/

namespace Sys2Proof.Machine

@[simp] theorem hand_run (c : Cause) (s : State) :
    (hand c s).run = { s.run with handed := s.run.handed ++ [c] } := rfl

@[simp] theorem emit_lineOut (x : LineItem) (s : State) :
    (emit x s).lineOut = s.lineOut ++ [x] := rfl

@[simp] theorem modCurrent_psq (f : PickRecord → PickRecord) (s : State) :
    (modCurrent f s).psq = { s.psq with current := s.psq.current.map f } := rfl

@[simp] theorem setChain_hci (k : ChainIdx) (c : Chain) (s : State) :
    (setChain k c s).hci = { s.hci with chains := s.hci.chains.set k.val c } := rfl

@[simp] theorem setChannel_drv (dc : DriverIdx) (c : DriverChannel) (s : State) :
    (setChannel dc c s).drv = { s.drv with channels := s.drv.channels.set dc.val c } := rfl

@[simp] theorem closeWindow_wfm (s : State) :
    (closeWindow s).wfm = { s.wfm with window := none, capture := none, watch := none } := rfl

@[simp] theorem dropRevTime_stk (s : State) :
    (dropRevTime s).stk = { s.stk with revTime := none, revTimer := none } := rfl

@[simp] theorem evalRequired_hci (s : State) :
    (evalRequired s).hci = { s.hci with required := s.newRequired } := rfl

@[simp] theorem setAnswer_dlp (k : FrameKind) (b : Byte) (r : Result) (d : List Byte) (s : State) :
    (setAnswer k b r d s).dlp = { s.dlp with answer := some { kind := k, code := b, result := r, data := d } } := rfl

@[simp] theorem setChoiceWait_dlp (n : Nat) (s : State) :
    (setChoiceWait n s).dlp = { s.dlp with choiceWait := n } := rfl

@[simp] theorem setFeeder_wfm (f : FeederIdx) (l : Level) (s : State) :
    (setFeeder f l s).wfm = { s.wfm with feeders := s.wfm.feeders.set f.val (some l) } := rfl

@[simp] theorem countSpurious_wfm (s : State) :
    (countSpurious s).wfm = { s.wfm with spurious := satInc 4294967295 s.wfm.spurious } := rfl

@[simp] theorem setArv_wfm (l : Level) (s : State) :
    (setArv l s).wfm = { s.wfm with arv := some l } := rfl

@[simp] theorem setArv_pending (l : Level) (s : State) : (setArv l s).pending = s.pending := rfl

@[simp] theorem setArv_resetLine (l : Level) (s : State) : (setArv l s).resetLine = s.resetLine := rfl

@[simp] theorem setArv_lineOut (l : Level) (s : State) : (setArv l s).lineOut = s.lineOut := rfl

@[simp] theorem setArv_dlp (l : Level) (s : State) : (setArv l s).dlp = s.dlp := rfl

@[simp] theorem setArv_tbm (l : Level) (s : State) : (setArv l s).tbm = s.tbm := rfl

@[simp] theorem setArv_psq (l : Level) (s : State) : (setArv l s).psq = s.psq := rfl

@[simp] theorem setArv_shb (l : Level) (s : State) : (setArv l s).shb = s.shb := rfl

@[simp] theorem setArv_hci (l : Level) (s : State) : (setArv l s).hci = s.hci := rfl

@[simp] theorem setArv_stk (l : Level) (s : State) : (setArv l s).stk = s.stk := rfl

@[simp] theorem setArv_asc (l : Level) (s : State) : (setArv l s).asc = s.asc := rfl

@[simp] theorem setArv_drv (l : Level) (s : State) : (setArv l s).drv = s.drv := rfl

@[simp] theorem setArv_run (l : Level) (s : State) : (setArv l s).run = s.run := rfl

@[simp] theorem setReceiver_dlp (r : Receiver) (s : State) :
    (setReceiver r s).dlp = { s.dlp with receiver := r } := rfl

@[simp] theorem setReceiver_pending (r : Receiver) (s : State) : (setReceiver r s).pending = s.pending := rfl

@[simp] theorem setReceiver_resetLine (r : Receiver) (s : State) : (setReceiver r s).resetLine = s.resetLine := rfl

@[simp] theorem setReceiver_lineOut (r : Receiver) (s : State) : (setReceiver r s).lineOut = s.lineOut := rfl

@[simp] theorem setReceiver_tbm (r : Receiver) (s : State) : (setReceiver r s).tbm = s.tbm := rfl

@[simp] theorem setReceiver_psq (r : Receiver) (s : State) : (setReceiver r s).psq = s.psq := rfl

@[simp] theorem setReceiver_shb (r : Receiver) (s : State) : (setReceiver r s).shb = s.shb := rfl

@[simp] theorem setReceiver_hci (r : Receiver) (s : State) : (setReceiver r s).hci = s.hci := rfl

@[simp] theorem setReceiver_stk (r : Receiver) (s : State) : (setReceiver r s).stk = s.stk := rfl

@[simp] theorem setReceiver_asc (r : Receiver) (s : State) : (setReceiver r s).asc = s.asc := rfl

@[simp] theorem setReceiver_wfm (r : Receiver) (s : State) : (setReceiver r s).wfm = s.wfm := rfl

@[simp] theorem setReceiver_drv (r : Receiver) (s : State) : (setReceiver r s).drv = s.drv := rfl

@[simp] theorem setReceiver_run (r : Receiver) (s : State) : (setReceiver r s).run = s.run := rfl

@[simp] theorem dwell_psq (s : State) :
    (dwell s).psq = { s.psq with dwells := satInc 4294967295 s.psq.dwells } := rfl

@[simp] theorem clearCauses_run (s : State) :
    (clearCauses s).run = { s.run with firstStop := none, haltCause := none, lastLater := none } := rfl

@[simp] theorem clearCauses_pending (s : State) : (clearCauses s).pending = s.pending := rfl

@[simp] theorem clearCauses_resetLine (s : State) : (clearCauses s).resetLine = s.resetLine := rfl

@[simp] theorem clearCauses_lineOut (s : State) : (clearCauses s).lineOut = s.lineOut := rfl

@[simp] theorem clearCauses_dlp (s : State) : (clearCauses s).dlp = s.dlp := rfl

@[simp] theorem clearCauses_tbm (s : State) : (clearCauses s).tbm = s.tbm := rfl

@[simp] theorem clearCauses_psq (s : State) : (clearCauses s).psq = s.psq := rfl

@[simp] theorem clearCauses_shb (s : State) : (clearCauses s).shb = s.shb := rfl

@[simp] theorem clearCauses_hci (s : State) : (clearCauses s).hci = s.hci := rfl

@[simp] theorem clearCauses_stk (s : State) : (clearCauses s).stk = s.stk := rfl

@[simp] theorem clearCauses_asc (s : State) : (clearCauses s).asc = s.asc := rfl

@[simp] theorem clearCauses_wfm (s : State) : (clearCauses s).wfm = s.wfm := rfl

@[simp] theorem clearCauses_drv (s : State) : (clearCauses s).drv = s.drv := rfl

end Sys2Proof.Machine
end

