-- ==== Sys2Proof/Laws/Run.lean ====
section
/-! SUPPORT. What a change of run state does to each block (09 R159), and what RUN's taking of a cause does (09 R167 to
R171). -/

namespace Sys2Proof.Machine

/-! ### The change of run state -/

theorem enterState_run (st : RunState) (s : State) :
    (enterState st s).run = { s.run with state := st, permit := decide (st = .weaving) } := by
  unfold enterState
  dsimp only
  repeat' split
  all_goals simp

@[simp] theorem changeState_run (st : RunState) (s : State) :
    (changeState st s).run = { s.run with state := st, permit := decide (st = .weaving) } := by
  simp [changeState, enterState_run]

@[simp] theorem changeState_dlp (st : RunState) (s : State) :
    (changeState st s).dlp = s.dlp.post (.runState st s.run.state s.run.firstStop s.run.haltCause none) := by
  simp [changeState, postRunState, enterState_run]

/-- Entering WEAVING clears the reverse count (05 R102); nothing else of the tracker changes. -/
@[simp] theorem changeState_stk (st : RunState) (s : State) :
    (changeState st s).stk = if st = .weaving then { s.stk with reverseCount := 0 } else s.stk := by
  simp only [changeState, postRunState_frame, settle_frame]
  unfold enterState
  dsimp only
  repeat' split
  all_goals simp

theorem setArmed_none_asc (s : State) :
    (setArmed none s).asc.snapshot = s.asc.snapshot.map fun x => { x with armed := none } := by
  unfold setArmed
  cases h : s.asc.snapshot <;> simp [h]

/-- Leaving WEAVING interrupts an ARMED pick (06 R119). -/
@[simp] theorem changeState_psq (st : RunState) (s : State) :
    (changeState st s).psq =
      if s.run.state = .weaving ∧ st ≠ .weaving then
        { s.psq with current := s.psq.current.map PickRecord.interrupt }
      else s.psq := by
  simp only [changeState, postRunState_frame, settle_frame]
  unfold enterState
  dsimp only
  split <;> split <;> simp_all [disarmLeaving]

/-- Leaving WEAVING closes the window and ends the feeder watch (07 R130). -/
@[simp] theorem changeState_wfm (st : RunState) (s : State) :
    (changeState st s).wfm =
      if s.run.state = .weaving ∧ st ≠ .weaving then
        { s.wfm with window := none, capture := none, watch := none }
      else s.wfm := by
  simp only [changeState, postRunState_frame, settle_frame]
  unfold enterState
  dsimp only
  split <;> split <;> simp_all [disarmLeaving]

/-- Leaving WEAVING removes the armed part (06 R119). -/
@[simp] theorem changeState_snapshot (st : RunState) (s : State) :
    (changeState st s).asc.snapshot =
      if s.run.state = .weaving ∧ st ≠ .weaving then s.asc.snapshot.map fun x => { x with armed := none }
      else s.asc.snapshot := by
  simp only [changeState, postRunState_frame, settle_frame]
  unfold enterState
  dsimp only
  split <;> split <;> simp_all [disarmLeaving, setArmed_none_asc]

/-- Outside WEAVING no channel is driving (08 R152). -/
@[simp] theorem changeState_drv (st : RunState) (s : State) :
    (changeState st s).drv =
      if st = .weaving then s.drv
      else { s.drv with channels := Vector.ofFn fun dc => (s.drv.channels[dc]).switchedOff } := by
  simp only [changeState, postRunState_frame, settle_frame]
  unfold enterState
  dsimp only
  split <;> split <;> simp_all [switchOffAll, modChannels]

/-! ### Causes -/

@[simp] theorem laterCause_run (c : Cause) (s : State) :
    (laterCause c s).run = { s.run with lastLater := some c } := by simp [laterCause]

@[simp] theorem laterCause_dlp (c : Cause) (s : State) :
    (laterCause c s).dlp =
      s.dlp.post (.runState s.run.state s.run.state s.run.firstStop s.run.haltCause (some c)) := by
  simp [laterCause, postRunState]

/-- RUN's taking of a cause hands none. -/
theorem takeCause_handed (s : State) (c : Cause) : (takeCause s c).run.handed = s.run.handed := by
  unfold takeCause
  split
  · unfold takeStop
    dsimp only
    repeat' split
    all_goals simp
  · unfold takeHalt
    split <;> simp

/-- RUN's taking of a cause never enters WEAVING and keeps the tracker as it is. -/
theorem takeCause_stk (s : State) (c : Cause) : (takeCause s c).stk = s.stk := by
  unfold takeCause
  split
  · unfold takeStop
    dsimp only
    repeat' split
    all_goals simp
  · unfold takeHalt
    split <;> simp

theorem drain_handed (s : State) : (drain s).run.handed = [] := by
  unfold drain
  rw [foldl_keeps (fun x : State => x.run.handed) _ (fun s x => takeCause_handed s x)]

theorem drain_stk (s : State) : (drain s).stk = s.stk := by
  unfold drain
  rw [foldl_keeps (fun x : State => x.stk) _ (fun s x => takeCause_stk s x)]

/-- A stop cause taken in WEAVING while the shaft moves. -/
theorem takeStop_moving (c : StopCause) (s : State) (hw : s.run.state = .weaving) (hm : s.stk.motion = .moving) :
    takeStop c s = changeState .stopping { s with run := { s.run with firstStop := some c } } := by
  simp [takeStop, hw, hm]

/-- A stop cause taken in WEAVING at standstill (09 R169). -/
theorem takeStop_still (c : StopCause) (s : State) (hw : s.run.state = .weaving) (hm : s.stk.motion = .standstill) :
    takeStop c s =
      changeState .stopped (changeState .stopping { s with run := { s.run with firstStop := some c } }) := by
  simp [takeStop, hw, hm]

/-- A stop cause outside WEAVING is a later one (09 R168). -/
theorem takeStop_later (c : StopCause) (s : State) (hw : s.run.state ≠ .weaving) :
    takeStop c s = laterCause (.stop c) s := by
  simp [takeStop, hw]

/-- A halting cause taken in STOPPED, WEAVING or STOPPING (09 R170). -/
theorem takeHalt_halts (c : HaltCause) (s : State) (h1 : s.run.state ≠ .offline) (h2 : s.run.state ≠ .halted) :
    takeHalt c s = changeState .halted { s with run := { s.run with haltCause := some c } } := by
  unfold takeHalt
  split <;> simp_all

/-- A halting cause in OFFLINE or HALTED is a later one (09 R171). -/
theorem takeHalt_later (c : HaltCause) (s : State) (h : s.run.state = .offline ∨ s.run.state = .halted) :
    takeHalt c s = laterCause (.halt c) s := by
  unfold takeHalt
  rcases h with h | h <;> simp [h]

/-! ### Twice is once -/

@[simp] theorem switchedOff_twice (c : DriverChannel) : c.switchedOff.switchedOff = c.switchedOff := by
  unfold DriverChannel.switchedOff
  split <;> simp_all [DrivePhase.driving]

@[simp] theorem interrupt_twice (r : PickRecord) : r.interrupt.interrupt = r.interrupt := by
  unfold PickRecord.interrupt
  split <;> simp_all

theorem takeAt_stk (s : State) (place : Nat) : (takeAt s place).stk = s.stk := by
  unfold takeAt
  split
  · rfl
  · rw [takeCause_stk]

theorem takeCauses_stk (taken : CausesTaken) (s : State) : (takeCauses taken s).stk = s.stk := by
  unfold takeCauses
  split
  · exact drain_stk s
  · exact foldl_keeps (fun x : State => x.stk) _ takeAt_stk _ _

/-- What RUN's taking of any one cause preserves holds however RUN takes the causes as a command ends; `P` must not
depend on what waits. -/
theorem takeCauses_preserves (P : State → Prop) (hw : ∀ s l, P s → P { s with run := { s.run with handed := l } })
    (hc : ∀ s c, P s → P (takeCause s c)) (taken : CausesTaken) (s : State) (hs : P s) : P (takeCauses taken s) := by
  have hf : ∀ (l : List Cause) (u : State), P u → P (l.foldl takeCause u) := by
    intro l
    induction l with
    | nil => exact fun u hu => hu
    | cons x xs ih => exact fun u hu => ih _ (hc _ _ hu)
  unfold takeCauses
  split
  · exact hf _ _ (hw _ _ hs)
  · rename_i places
    induction places generalizing s with
    | nil => exact hs
    | cons x xs ih =>
      refine ih _ ?_
      unfold takeAt
      split
      · exact hs
      · exact hc _ _ (hw _ _ hs)

/-- Nothing is taken where nothing is named. -/
@[simp] theorem takeCauses_none (s : State) : takeCauses (.only []) s = s := rfl

/-! ### The handling of a step's crossings -/

/-- What every handling, and RUN's taking of a cause, preserve holds of the handlings no choice named. -/
theorem handleRest_preserves (P : State → Prop) (c : StepInfo) (hh : ∀ s h, P s → P (handle c s h))
    (hd : ∀ s, P s → P (drain s)) (taken : CausesTaken) (rest : List Handling) (s : State) (hs : P s) :
    P (handleRest c taken rest s) := by
  unfold handleRest
  split
  · have hf : ∀ (l : List Handling) (u : State), P u → P (l.foldl (handleAndDrain c) u) := by
      intro l
      induction l with
      | nil => exact fun u hu => hu
      | cons x xs ih => exact fun u hu => ih _ (hd _ (hh _ _ hu))
    exact hf _ _ (hd _ hs)
  · have hf : ∀ (l : List Handling) (u : State), P u → P (l.foldl (handle c) u) := by
      intro l
      induction l with
      | nil => exact fun u hu => hu
      | cons x xs ih => exact fun u hu => ih _ (hh _ _ hu)
    exact hf _ _ hs

/-- Whatever the order in which a step's crossings are taken, what every handling and RUN's taking of causes preserve
holds after them. -/
theorem runOrder_preserves (P : State → Prop) (c : StepInfo) (hh : ∀ s h, P s → P (handle c s h))
    (ht : ∀ s place, P s → P (takeAt s place)) (hd : ∀ s, P s → P (drain s)) (taken : CausesTaken) (order : List Nat)
    (rest : List Handling) (s : State) (hs : P s) : P (runOrder c taken order rest s) := by
  induction order generalizing rest s with
  | nil => exact handleRest_preserves P c hh hd taken rest s hs
  | cons k ks ih =>
    cases k with
    | zero =>
      unfold runOrder
      exact ih _ _ (ht _ _ hs)
    | succ k =>
      unfold runOrder
      split
      · exact ih _ _ hs
      · split
        · exact ih _ _ (hh _ _ (hh _ _ hs))
        · exact ih _ _ (hh _ _ hs)

/-- Whatever the order in which a step's crossings are taken, what every handling keeps is kept. -/
theorem runOrder_keeps {α : Type} (g : State → α) (c : StepInfo) (hh : ∀ s h, g (handle c s h) = g s)
    (ht : ∀ s place, g (takeAt s place) = g s) (hd : ∀ s, g (drain s) = g s) (taken : CausesTaken) (order : List Nat)
    (rest : List Handling) (s : State) : g (runOrder c taken order rest s) = g s :=
  runOrder_preserves (fun x => g x = g s) c (fun x h hx => (hh x h).trans hx) (fun x k hx => (ht x k).trans hx)
    (fun x hx => (hd x).trans hx) taken order rest s rfl

/-- A step's crossings leave the tracker as the step left it. -/
theorem runOrder_stk (c : StepInfo) (taken : CausesTaken) (order : List Nat) (rest : List Handling) (s : State) :
    (runOrder c taken order rest s).stk = s.stk :=
  runOrder_keeps (fun x : State => x.stk) c (fun s h => by simp) takeAt_stk drain_stk taken order rest s

end Sys2Proof.Machine
end

