-- ==== Sys2Proof/Laws/Shed.lean ====
section
/-! SUPPORT. What the evaluations of the required pick and of the preparation target leave (03 R54, R55, 04 R76, R77):
the tag, the required pick and the target of `evalTarget`, `latchIfDue` and `settle`. -/

namespace Sys2Proof.Machine

/-! ### What shifts and expansions keep of the Hook Chain Interface -/

theorem handChain_tag (o : Ordinal) (s : State) (k : ChainIdx) :
    (handChain o s k).hci.tag = s.hci.tag ∧ (handChain o s k).hci.required = s.hci.required := by
  unfold handChain
  dsimp only
  repeat' split
  all_goals simp

theorem abortChain_tag (s : State) (k : ChainIdx) :
    (abortChain s k).hci.tag = s.hci.tag ∧ (abortChain s k).hci.required = s.hci.required := by
  unfold abortChain
  dsimp only
  split <;> simp

@[simp] theorem handOver_tag (o : Ordinal) (s : State) :
    (handOver o s).hci.tag = s.hci.tag ∧ (handOver o s).hci.required = s.hci.required := by
  unfold handOver
  exact ⟨foldl_keeps (fun x : State => x.hci.tag) _ (fun s k => (handChain_tag o s k).1) _ _,
    foldl_keeps (fun x : State => x.hci.required) _ (fun s k => (handChain_tag o s k).2) _ _⟩

@[simp] theorem abortShifts_tag (s : State) :
    (abortShifts s).hci.tag = s.hci.tag ∧ (abortShifts s).hci.required = s.hci.required := by
  unfold abortShifts
  exact ⟨foldl_keeps (fun x : State => x.hci.tag) _ (fun s k => (abortChain_tag s k).1) _ _,
    foldl_keeps (fun x : State => x.hci.required) _ (fun s k => (abortChain_tag s k).2) _ _⟩

@[simp] theorem takeUp_tag (o : Ordinal) (s : State) :
    (takeUp o s).hci.tag = s.hci.tag ∧ (takeUp o s).hci.required = s.hci.required := by
  unfold takeUp
  split <;> simp

@[simp] theorem evalTarget_tag (s : State) :
    (evalTarget s).hci.tag = s.hci.tag ∧ (evalTarget s).hci.required = s.hci.required := by
  unfold evalTarget
  dsimp only
  repeat' split
  all_goals simp

/-! ### The target is in force after its evaluation -/

/-- The target depends on the run state, the required pick, the tag, the direction and the slots alone. -/
theorem newTarget_congr {s t : State} (h1 : t.run.state = s.run.state) (h2 : t.hci.required = s.hci.required)
    (h3 : t.hci.tag = s.hci.tag) (h4 : t.stk.direction = s.stk.direction) (h5 : t.psq = s.psq) :
    t.newTarget = s.newTarget := by
  unfold State.newTarget State.slotAhead State.tagNames State.nextOrdinal State.currentOrdinal
  rw [h1, h2, h3, h4, h5]

theorem setBuffer_target (i : BufferIdx) (b : Buffer) (s : State) : (setBuffer i b s).shb.target = s.shb.target := by
  cases i <;> rfl

theorem takeUp_target (o : Ordinal) (s : State) : (takeUp o s).shb.target = s.shb.target := by
  unfold takeUp
  split
  · simp
  · unfold startExpansion
    split
    · exact setBuffer_target _ _ _
    · rfl

theorem evalTarget_target (s : State) : (evalTarget s).shb.target = s.newTarget := by
  unfold evalTarget
  dsimp only
  split
  · rename_i h
    exact h.symm
  · cases h : s.newTarget with
    | none => simp [abandonExpansion]
    | some o =>
      dsimp only
      rw [takeUp_target]
      simp [abandonExpansion]

theorem evalTarget_inForce (s : State) : (evalTarget s).targetInForce = true := by
  unfold State.targetInForce
  have h : (evalTarget s).newTarget = s.newTarget := by apply newTarget_congr <;> simp
  rw [evalTarget_target, h]
  simp

theorem settle_inForce (s : State) : (settle s).targetInForce = true := evalTarget_inForce _

/-! ### The required pick -/

theorem newRequired_congr {s t : State} (h1 : t.run.state = s.run.state) (h2 : t.stk = s.stk) (h3 : t.tbm = s.tbm)
    (h4 : t.psq = s.psq) : t.newRequired = s.newRequired := by
  unfold State.newRequired State.angle State.countAngle State.nextOrdinal State.currentOrdinal
  rw [h1, h2, h3, h4]

theorem latchIfDue_required (s : State) : (latchIfDue s).hci.required = s.hci.required := by
  unfold latchIfDue
  repeat' split
  all_goals simp_all [fireLatch]

@[simp] theorem settle_required (s : State) : (settle s).hci.required = s.newRequired := by
  unfold settle
  rw [(evalTarget_tag _).2, latchIfDue_required, evalRequired_hci]

/-- Outside STOPPED no pick is required (04 R76). -/
theorem newRequired_running (s : State) (h : s.run.state ≠ .stopped) : s.newRequired = none := by
  unfold State.newRequired
  simp [h]

/-- Outside STOPPED no latch is due (04 R77). -/
theorem latchIfDue_running (s : State) (h : s.run.state ≠ .stopped) : latchIfDue s = s := by
  unfold latchIfDue
  split
  · rfl
  · simp [h]

theorem settle_running (s : State) (h : s.run.state ≠ .stopped) : settle s = evalTarget (evalRequired s) := by
  unfold settle
  rw [latchIfDue_running]
  simpa using h

theorem settle_tag_running (s : State) (h : s.run.state ≠ .stopped) : (settle s).hci.tag = s.hci.tag := by
  rw [settle_running s h]
  simp

/-- Where the target is the one in force already, its evaluation changes nothing (03 R55). -/
theorem evalTarget_same (s : State) (h : s.newTarget = s.shb.target) : evalTarget s = s := by
  unfold evalTarget
  simp [h]

theorem changeState_required (st : RunState) (s : State) (h : st ≠ .stopped) :
    (changeState st s).hci.required = none := by
  simp only [changeState, postRunState_frame, settle_required]
  apply newRequired_running
  simp [enterState_run, h]

theorem changeState_tag (st : RunState) (s : State) (h : st ≠ .stopped) :
    (changeState st s).hci.tag = s.hci.tag := by
  simp only [changeState, postRunState_frame]
  rw [settle_tag_running]
  · simp
  · simp [enterState_run, h]

theorem changeState_target (st : RunState) (s : State) (h : st = .offline ∨ st = .halted) :
    (changeState st s).shb.target = none := by
  simp only [changeState, postRunState_frame, settle]
  rw [evalTarget_target]
  unfold State.newTarget
  rcases h with h | h <;> simp [enterState_run, h]

/-! ### Outside the run: nothing to abandon, nothing to prepare -/

theorem abortShifts_idle (s : State) (h : ∀ k : ChainIdx, (s.hci.chains[k]).phase = .idle) : abortShifts s = s := by
  have hk : ∀ k : ChainIdx, abortChain s k = s := by
    intro k
    unfold abortChain
    simp only [h k]
  simp [abortShifts, chainList, hk]

theorem evalTarget_out (s : State) (hs : s.run.state = .offline ∨ s.run.state = .halted)
    (hi : ∀ k : ChainIdx, (s.hci.chains[k]).phase = .idle) (h0 : s.shb.buffer0 = .empty) (h1 : s.shb.buffer1 = .empty) :
    evalTarget s = { s with shb := { buffer0 := .empty, buffer1 := .empty, target := none } } := by
  have hn : s.newTarget = none := by rcases hs with hs | hs <;> simp [State.newTarget, hs]
  unfold evalTarget
  rw [hn]
  split
  · cases s with
    | mk p rl lo d t q sh hc st a w dr r => cases sh; simp_all
  · have e := abortShifts_idle (abandonExpansion { s with shb := { s.shb with target := none } })
      (by simpa [abandonExpansion] using hi)
    simp only [e]
    simp [abandonExpansion, h0, h1, Buffer.abandon, Buffer.isFilling]

theorem settle_offline (s : State) (hs : s.run.state = .offline) (hi : ∀ k : ChainIdx, (s.hci.chains[k]).phase = .idle)
    (h0 : s.shb.buffer0 = .empty) (h1 : s.shb.buffer1 = .empty) :
    settle s =
      { s with
        shb := { buffer0 := .empty, buffer1 := .empty, target := none }, hci := { s.hci with required := none } } := by
  have hr : s.run.state ≠ .stopped := by simp [hs]
  rw [settle_running s hr, evalTarget_out]
  · simp [evalRequired, newRequired_running s hr]
  · left
    simp [hs]
  · simpa using hi
  · simpa using h0
  · simpa using h1

/-- What an accepted pattern write does in OFFLINE (02 R35). -/
theorem patternWrite_offline (s : State) (hs : s.run.state = .offline) :
    patternWrite s =
      { s with
        tbm := { s.tbm with epoch := s.tbm.epoch + 1 }
        shb := { buffer0 := .empty, buffer1 := .empty, target := none }
        hci :=
          { chains := Vector.ofFn fun k => { s.hci.chains[k] with phase := .idle }, tag := s.hci.tag.markStale
            required := none } } := by
  unfold patternWrite
  rw [settle_offline]
  · simp [modChains]
  · simpa using hs
  · simp [modChains]
  · simp
  · simp

end Sys2Proof.Machine
end

