-- ==== Sys2Proof/WellFormed.lean ====
section
/-! DEFINITION. Which commands are well formed. The operand types already bound every channel, line, level and
byte; what is left is the order operand of ENCODER_STEP, whose choices name one of the at most sixteen things a
step has to hand on, or 0 for RUN taking a cause (log 6). -/

namespace Sys2Proof

/-- The largest choice an order may hold: 0 for RUN, 1 to 16 for the handling at that place. -/
def maxOrderChoice : Nat := 16

/-- The check on a command's operands. -/
def Instr.wellFormed : Instr → Bool
  | .encoderStep _ _ order _ => order.all (· ≤ maxOrderChoice)
  | _ => true

end Sys2Proof
end

