-- ==== Sys2Proof/Tests/Slice0.lean ====
section
/-! SUPPORT. Small tests: the operand check, the manual's worked figures, one step of a command on a small state, and
for every statement with hypotheses states and operands that meet them. -/

namespace Sys2Proof.Tests

set_option Elab.async false

open Sys2Proof Sys2Proof.Machine

/-! ### Small states -/

/-- RESETn high, OFFLINE, nothing in progress, the receiver open. -/
def idle : State :=
  { State.reset with resetLine := .high, dlp := { Dlp.hardReset with receiver := .hunt } }

/-- A machine record with one module on chain 0. -/
def machine : MachineRecord :=
  { modules := #v[1, 0, 0, 0], width := 8, counts := 4096, offset := 100, latchAngle := 3300, hookLatency := 12000
    armLimit := 300, standstillMs := 250, filter := 4, indexTolerance := 4, reverseTolerance := 8, lowWater := 2
    chainMode := .report, encoderMode := .halt }

/-- A run state with its permit. -/
def inRun (st : RunState) (s : State) : State :=
  { s with run := { s.run with state := st, permit := decide (st = .weaving) } }

/-- The machine record present, its chain 0 with one fresh entry. -/
def loom : State :=
  { idle with
    tbm := { idle.tbm with machine := some machine }
    hci := { idle.hci with chains := idle.hci.chains.set 0 { phase := .idle, lengthFlag := false, entries := [.fresh] } } }

/-- The tracker HOMED at a count, both quadrature lines low. -/
def homedAt (p : Nat) (s : State) : State :=
  { s with stk := { s.stk with homing := .homed, position := p, encA := some .low, encB := some .low, encZ := some .low } }

/-- A moving shaft. -/
def moving (s : State) : State := { s with stk := { s.stk with motion := .moving, standstillTimer := some 250 } }

/-- One frame held. -/
def holding (kind : FrameKind) (p : List Byte) (s : State) : State :=
  { s with dlp := { s.dlp with held := [{ kind := kind, payload := p }] } }

/-- A pick record. -/
def pick (o : Sys2Proof.Ordinal) (st : PickState) (weft : Fin 13) : PickRecord :=
  { ordinal := o, row := 0, weft := weft, profile := 0, effects := List.replicate 8 0, state := st, weaveCount := 0
    arrival := none, revTime := none, cause := none, clipped := false }

/-- A record in CURRENT. -/
def withCurrent (r : PickRecord) (s : State) : State := { s with psq := { s.psq with current := some r } }

/-- A record in NEXT. -/
def withNext (r : PickRecord) (s : State) : State := { s with psq := { s.psq with nextPick := some r } }

/-- The tag names an ordinal. -/
def tagged (o : Sys2Proof.Ordinal) (s : State) : State :=
  { s with hci := { s.hci with tag := { ordinal := some o, stale := false, degraded := false } } }

/-- Settings of a PEAK_HOLD channel. -/
def coil (mode : FaultMode) : DriverSettings :=
  { mode := .peakHold, peakLevel := 8, holdLevel := 3, overcurrentLevel := 12, peakTimeLimit := 2000, chopOffTime := 20
    blanking := 5, deglitch := 2, latency := 7300, overcurrentMode := mode, openLoadMode := mode, scope := .channel
    group := .a }

/-- A driving channel. -/
def drivingChannel (phase : DrivePhase) (d : DriverSettings) (blank : Option Nat) : DriverChannel :=
  { DriverChannel.fresh with
    phase := phase, inUse := some { settings := d, fromSnapshot := false }, peakTimer := some d.peakTimeLimit
    blankTimer := blank }

/-- Channel 0 replaced. -/
def withChannel (c : DriverChannel) (s : State) : State := { s with drv := { s.drv with channels := s.drv.channels.set 0 c } }

/-- A weft channel whose selector is channel 0, with or without a feeder line. -/
def weft (feeder : Option FeederIdx) : WeftChannel := { enabled := true, selector := 0, feeder := feeder }

/-- A profile that selects at 35.0 degrees and lets go at 90.0, with a window. -/
def profile : Profile :=
  { actions := [{ switching := .on, target := .selector, angle := 350 }, { switching := .off, target := .selector, angle := 900 }]
    windowOpen := 1900, windowClose := 2700 }

/-- The armed part of pick 7 with no advance. -/
def part (feeder : Option FeederIdx) : ArmedPart :=
  buildArmed loom.tbm (fun _ => 0) machine.highestAngle 7 (weft feeder) profile

/-- A snapshot in force. -/
def withSnapshot (a : Option ArmedPart) (s : State) : State :=
  { s with asc := { snapshot := some { entry := .forward, hookAdvance := 0, latchAngle := 3300, armed := a } } }

/-! ### The operand check -/

theorem test_wellFormed_order : (Instr.encoderStep .encA 24 [0, 1, 16] .every).wellFormed = true := by decide

theorem test_illFormed_order : (Instr.encoderStep .encA 24 [17] .every).wellFormed = false := by decide

theorem test_wellFormed_others : Instr.hardReset.wellFormed = true ∧ (Instr.start .every).wellFormed = true := by decide

theorem test_no_word_spells_a_command : decodeTableWord 8 0 = none := rfl

/-! ### The manual's worked figures -/

theorem test_advances :
    advanceOf (some 100000) 12000 = 432 ∧ advanceOf (some 200000) 12000 = 216 ∧ advanceOf (some 100000) 7300 = 263 ∧
    advanceOf (some 60000) 9000 = 540 ∧ advanceOf (some 20000) 20000 = 900 ∧ advanceOf (some 12000) 5000 = 900 ∧
    advanceOf (some 100000) 1 = 1 ∧ advanceOf (some 2000000) 12000 = 22 ∧ advanceOf (some 2000001) 12000 = 0 ∧
    advanceOf none 12000 = 0 := by decide +kernel

theorem test_angles : angleOf 4096 98 = 86 ∧ angleOf 4096 99 = 87 ∧ angleOf 720 719 = 3595 := by decide

theorem test_columns :
    columnPosition .straight 8 17 = 1 ∧ columnPosition .pointed 2 3 = 1 ∧ columnPosition .pointed 5 6 = 2 ∧
    designColumn .ascending 479 480 1 = 0 ∧ designColumn .descending 0 480 1 = 479 := by decide

/-- The check value of ten bytes by the long division of R178, and of a segment of zeros by that of R198. -/
theorem test_check_values :
    crc16 [0x31, 0x32, 0x33, 0x34, 0x35, 0x36, 0x37, 0x38, 0x39] = 0x29B1 ∧ crc16 [] = 0xFFFF ∧ crc8 [] = 0xFF := by
  decide +kernel

/-! ### Frames as the host sends them -/

/-- A pick frame for a design width of 8: ordinal, weft, profile. -/
def pickBytes (o : Byte) (weft profile : Byte) : List Byte := [0, o, 0, 3, weft, profile, 0x01, 0x23, 0x45, 0x67]

/-- The body of `machine`. -/
def machineBytes : List Byte :=
  [1, 0, 0] ++ [1, 0, 0, 0, 0, 8, 16, 0, 0, 100, 12, 228, 46, 224, 255, 255, 255, 255, 4, 255, 255, 255, 255, 2, 0, 0]

/-- A LIFT section of hooks 0 to 127, as record `i`. -/
def sectionBytes (i : Byte) : List Byte := [2, 0, i, 0, 0, 0, 128, 0, 0, 0, 0, 0, 0, 0]

/-- Effect entry `i`: UP. -/
def effectBytes (i : Byte) : List Byte := [3, 0, i, 1, 0, 0, 0, 0, 0]

/-- Weave `i`: one cell, up. -/
def weaveBytes (i : Byte) : List Byte := [4, 0, i, 1, 1, 1, 0x80]

/-- Profile `i` with no action. -/
def profileBytes (i : Byte) : List Byte := [5, 0, i, 1, 0] ++ List.replicate 32 0 ++ [7, 108, 10, 140]

/-- Weft channel `n`. -/
def weftBytes (n : Byte) : List Byte := [6, 0, n, 1, 1, 0, 0]

/-- Driver settings `i`. -/
def driverBytes (i : Byte) : List Byte := [7, 0, i, 1, 2, 8, 3, 12, 7, 208, 20, 5, 2, 28, 132, 0, 0, 0, 0]

/-- A frame from the kind byte to its check bytes. -/
def checkedFrame (bytes : List Byte) : List Byte := bytes ++ encWord (crc16 bytes)

/-! ### Hypotheses that can be met: the link -/

/-- The receiver in a given state with `n` frames held. -/
def receiving (r : Receiver) (n : Nat) : State :=
  { idle with
    dlp := { idle.dlp with receiver := r, held := List.replicate n { kind := .pick, payload := [] } } }

theorem witness_ResetReleaseStartsThePart :
    State.reset.resetLine = .low ∧ idle.resetLine = .high ∧ Instr.arm ≠ .hardReset ∧ Instr.arm ≠ .resetRelease := by
  decide

/-- The causes that wait. -/
def waitingFor (cs : List Cause) (s : State) : State := { s with run := { s.run with handed := cs } }

theorem witness_EveryStepAnswersANextState :
    (State.reset.pending = [] ∧ State.reset.resetLine = .low) ∧
    (idle.pending = [] ∧ idle.resetLine = .high ∧ idle.run.handed = [] ∧ idle.dlp.choiceWait = 0) := by decide

/-- Every run state, moving and at standstill; two stop causes, and a halting cause before a stop cause. -/
theorem witness_WaitingCausesAreTaken :
    (∀ c ∈ [Cause.stop .starved, .halt .indexMismatch],
      ∀ st ∈ [RunState.offline, .stopped, .weaving, .stopping, .halted], ∀ s ∈ [loom, moving loom],
        let x := waitingFor [c] (inRun st s)
        x.pending = [] ∧ x.Ready ∧ x.run.handed = [c] ∧ x.run.state = st ∧ x.stk.motion = s.stk.motion) ∧
    (∀ first ∈ [Cause.stop .starved, .halt (.driverLatch 4)],
      let x := waitingFor [first, .stop (.feederBreak 7)] (inRun .weaving (moving loom))
      x.Ready ∧ (x.drv.channels[(0 : DriverIdx)]).phase.driving = false ∧ x.run.state = .weaving ∧
      x.stk.motion = .moving ∧ x.run.handed = [first, .stop (.feederBreak 7)]) := by decide +kernel

theorem witness_FrameStart :
    ((receiving .hunt 0).Ready ∧ (receiving .hunt 0).dlp.receiver = .hunt) ∧ (receiving .hunt 1).dlp.held.length < 2 ∧
    (receiving .hunt 2).Ready ∧ (receiving .hunt 2).dlp.receiver = .hunt ∧ 2 ≤ (receiving .hunt 2).dlp.held.length := by
  decide

/-- The shortest and the longest frame; the right and the wrong check bytes; each kind and an unknown one. -/
theorem witness_FrameReceived :
    (∀ k ∈ [(1 : Byte), 2, 3, 4],
      let bytes := checkedFrame [k, 0, 0]
      3 ≤ bytes.length ∧ headerLength bytes ≤ 1040 ∧ bytes.length = headerLength bytes + 5 ∧
      encWord (crc16 (bytes.take (bytes.length - 2))) = bytes.drop (bytes.length - 2)) ∧
    encWord (crc16 [1, 0, 0]) ≠ [0, 0] ∧ (1 : Byte).toNat = FrameKind.pick.code ∧
    (2 : Byte).toNat = FrameKind.table.code ∧ (3 : Byte).toNat = FrameKind.command.code ∧
    (∀ k ∈ [FrameKind.pick, .table, .command], (4 : Byte).toNat ≠ k.code) ∧
    (let longest := [(2 : Byte), 4, 16] ++ List.replicate 1042 0
     headerLength longest ≤ 1040 ∧ longest.length = headerLength longest + 5) ∧
    (receiving (.receiving [1, 0, 0, 0]) 0).Ready := by decide +kernel

/-- CLOSED, HUNT with no start byte, a header byte, the length bytes at 1,040 and one above, a payload byte, and what
goes by in PASSING_OVER: a length byte at 1,040 and one above, and the last check byte. -/
theorem witness_BytesAreCollectedAndGapsDiscard :
    let length (l : List Byte) := 256 * (l.getD 1 0).toNat + (l.getD 2 0).toNat
    ((receiving .closed 0).Ready ∧ (receiving .closed 0).dlp.receiver = .closed) ∧
    ((receiving .hunt 0).dlp.receiver = .hunt ∧ (0xC4 : Byte) ≠ 0xC5 ∧ Level.low ≠ Level.high) ∧
    ((receiving (.receiving [2]) 0).dlp.receiver = .receiving [2] ∧ ([2, 4] : List Byte).length < 3) ∧
    (length [2, 4, 16] = 1040 ∧ 3 ≠ length [2, 4, 16] + 5) ∧ (3 ≤ ([2, 4, 17] : List Byte).length ∧ 1040 < length [2, 4, 17]) ∧
    (length [3, 0, 1, 4] ≤ 1040 ∧ 4 ≠ length [3, 0, 1, 4] + 5) ∧
    ((receiving (.passingOver 0 0) 2).Ready ∧ (receiving (.passingOver 0 0) 2).dlp.receiver = .passingOver 0 0) ∧
    ¬(1040 < 1024 + (16 : Byte).toNat) ∧ 1040 < 1024 + (17 : Byte).toNat ∧ (2 ≤ 1044 ∧ 1044 + 1 = 1040 + 5) := by
  decide +kernel

/-- A frame being sent. -/
def sending (k : TxKind) (before : Bool) : State :=
  { idle with dlp := { idle.dlp with transmitter := some { kind := k, bytes := [], beforeReset := before } } }

theorem witness_TransmitFrameEnd :
    (sending .answer true).Ready ∧ (sending .answer false).Ready ∧ (sending .event false).Ready ∧
    (sending .event false).dlp.transmitter = some { kind := .event, bytes := [], beforeReset := false } ∧
    (∀ wait ∈ [0, 1, 2],
      let s := holding .command [9, 6] { idle with dlp := { idle.dlp with choiceWait := wait } }
      Taking .queryCounters [9, 6] [] s ∧ s.dlp.transmitter = none ∧ s.dlp.choiceWait = wait) := by decide +kernel

/-! ### Hypotheses that can be met: picks -/

/-- STOPPED with a pick frame of ordinal 0 held and `q` records in PQ behind NEXT. -/
def offered (q : Nat) (p : List Byte) : State :=
  let s := holding .pick p (inRun .stopped loom)
  if q = 0 then s
  else
    { s with psq :=
        { s.psq with nextPick := some (pick 9 .pending 1), queue := List.replicate (q - 1) (pick 9 .pending 1) } }

theorem witness_PickFrameAccepted :
    let p := pickBytes 0 12 7
    Taking .pick p [] (offered 0 p) ∧ Taking .pick p [] (offered 32 p) ∧ (offered 0 p).run.state ≠ .offline ∧
    (offered 0 p).tbm.machine = some machine ∧ p.length = 6 + (machine.width + 1) / 2 ∧ byteAt p 4 ≤ 12 ∧
    byteAt p 5 ≤ 7 ∧ pickOrdinal p = (offered 0 p).psq.expected ∧ (offered 32 p).psq.queue.length = 31 ∧
    (offered 0 p).psq.nextPick = none ∧ (offered 32 p).psq.nextPick ≠ none := by decide +kernel

theorem witness_PickFrameRefused :
    let p := pickBytes 0 0 0
    (Taking .pick p [] (inRun .offline (offered 0 p)) ∧ (inRun .offline (offered 0 p)).run.state = .offline) ∧
    (Taking .pick [] [] (offered 0 []) ∧ pickWellFormed machine.width [] = false) ∧
    (Taking .pick (pickBytes 1 0 0) [] (offered 0 (pickBytes 1 0 0)) ∧ pickWellFormed machine.width p = true ∧
      pickOrdinal (pickBytes 1 0 0) ≠ (offered 0 p).psq.expected) ∧
    (Taking .pick p [] (offered 33 p) ∧ pickOrdinal p = (offered 33 p).psq.expected ∧
      32 ≤ (offered 33 p).psq.queue.length) := by decide +kernel

/-- FLUSH held, 4 in NEXT, 5 in RL and 6 in PQ, whose images stand in a buffer and on chain 0, and an image of 3. -/
def flushing (st : RunState) : State :=
  let x := holding .command [6, 0, 0] (withNext (pick 4 .pending 1) (inRun st loom))
  { x with
    psq := { x.psq with replay := [pick 5 .pending 1], queue := [pick 6 .pending 1] }
    shb := { buffer0 := .held 5 0 [], buffer1 := .held 3 0 [], target := none }
    hci :=
      { x.hci with
        chains := x.hci.chains.set 0 { phase := .ready 6 true, lengthFlag := false, entries := [.fresh] } } }

/-- NEXT named and not, the tag on records that go and on one that is not of the run, in every run state. -/
theorem witness_FlushTakesBackThePicksAhead :
    (∀ st ∈ [RunState.offline, .stopped, .weaving, .stopping, .halted],
      Taking .flush [6, 0, 0] [] (flushing st) ∧ (flushing st).run.state = st) ∧
    (∀ n ∈ [3, 4, 5, 6],
      Taking .flush [6, 0, 0] [] (tagged (BitVec.ofNat 16 n) (flushing .halted)) ∧
      (tagged (BitVec.ofNat 16 n) (flushing .halted)).hci.tag.ordinal = some (BitVec.ofNat 16 n)) ∧
    (flushing .halted).psq.nextPick = some (pick 4 .pending 1) ∧ (flushing .halted).shb.target = none ∧
    (flushing .halted).shb.buffer0 = .held 5 0 [] ∧ (flushing .halted).shb.buffer1 = .held 3 0 [] ∧
    ((flushing .halted).hci.chains[(0 : ChainIdx)]).phase = .ready 6 true ∧
    ((flushing .halted).hci.chains[(1 : ChainIdx)]).phase = .idle := by decide +kernel

/-! ### Hypotheses that can be met: tables -/

/-- The lowest and the highest record of each pattern table. -/
theorem witness_sections_written :
    ∀ i ∈ [(0 : Byte), 63], Taking (.table .sections) (sectionBytes i) [] (holding .table (sectionBytes i) idle) ∧
      sectionLengthOk (sectionBytes i) = true ∧ firstBad (sectionChecks (sectionBytes i)) = none := by decide +kernel

theorem witness_effects_written :
    ∀ i ∈ [(0 : Byte), 15], Taking (.table .effects) (effectBytes i) [] (holding .table (effectBytes i) idle) ∧
      presenceLengthOk 6 (effectBytes i) = true ∧ firstBad (effectChecks (effectBytes i)) = none := by decide +kernel

theorem witness_weaves_written :
    ∀ i ∈ [(0 : Byte), 31], Taking (.table .weaves) (weaveBytes i) [] (holding .table (weaveBytes i) idle) ∧
      weaveLengthOk (weaveBytes i) = true ∧ firstBad (weaveChecks (weaveBytes i)) = none := by decide +kernel

/-- The first write, a write of the same record, and one that changes O and M0. -/
theorem witness_MachineRecordIsWritten :
    Taking (.table .machine) machineBytes [] (holding .table machineBytes idle) ∧
    Taking (.table .machine) machineBytes [] (holding .table machineBytes loom) ∧ idle.run.state = .offline ∧
    machineLengthOk machineBytes = true ∧ firstBad (machineChecks machineBytes) = none ∧
    machineRecordOf machineBytes = machine ∧ idle.tbm.machine = none ∧ loom.tbm.machine = some machine ∧
    ({ machine with offset := 0 } : MachineRecord).offset ≠ machine.offset ∧
    ({ machine with modules := #v[2, 0, 0, 0] } : MachineRecord).modules ≠ machine.modules := by decide +kernel

theorem witness_LiveTablesAreWritten :
    (∀ i ∈ [(0 : Byte), 7], Taking (.table .profiles) (profileBytes i) [] (holding .table (profileBytes i) loom) ∧
      profileLengthOk (profileBytes i) = true ∧
      firstBad (profileChecks (holding .table (profileBytes i) loom).armLimit (profileBytes i)) = none) ∧
    (∀ n ∈ [(1 : Byte), 12], Taking (.table .wefts) (weftBytes n) [] (holding .table (weftBytes n) loom) ∧
      weftLengthOk (weftBytes n) = true ∧ firstBad (weftChecks (weftBytes n)) = none) ∧
    (∀ i ∈ [(0 : Byte), 19], Taking (.table .drivers) (driverBytes i) [] (holding .table (driverBytes i) loom) ∧
      driverLengthOk (driverBytes i) = true ∧ firstBad (driverChecks (driverBytes i)) = none) := by decide +kernel

/-- One past the highest record index, a cut body, an unknown table, and a pattern table outside OFFLINE. -/
theorem witness_TableWritesAreRefused :
    Taking .tableUnknown [8, 0, 0] [] (holding .table [8, 0, 0] idle) ∧
    (Taking (.table .sections) (sectionBytes 0) [] (holding .table (sectionBytes 0) (inRun .stopped loom)) ∧
      isPattern .sections = true ∧ (inRun .stopped loom).run.state ≠ .offline) ∧
    (Taking (.table .effects) [3, 0] [] (holding .table [3, 0] idle) ∧ tableLengthOk [3, 0] .effects = false) ∧
    (Taking (.table .weaves) (weaveBytes 32) [] (holding .table (weaveBytes 32) idle) ∧
      tableLengthOk (weaveBytes 32) .weaves = true ∧ firstBad (tableChecks 0 (weaveBytes 32) .weaves) = some 0) ∧
    (Taking (.table .wefts) (weftBytes 13) [] (holding .table (weftBytes 13) (inRun .weaving loom)) ∧
      firstBad (tableChecks 0 (weftBytes 13) .wefts) = some 0) := by decide +kernel

/-! ### Hypotheses that can be met: run control -/

/-- A command of one byte held. -/
def commanded (code : Byte) (s : State) : State := holding .command [code] s

/-- The tables of `loom` with sections, effects and profiles put in. -/
def tabled (sections : List (Nat × HarnessSection)) (effects : List (Nat × Effect)) (profiles : List (Nat × Profile)) :
    Tbm :=
  { loom.tbm with
    sections := sections.foldl (fun v x => v.setIfInBounds x.1 (some x.2)) loom.tbm.sections
    effects := effects.foldl (fun v x => v.setIfInBounds x.1 (some x.2)) loom.tbm.effects
    profiles := profiles.foldl (fun v x => v.setIfInBounds x.1 (some x.2)) loom.tbm.profiles }

/-- A section of hooks 0 to 127. -/
def whole (kind : SectionKind) : HarnessSection := { first := 0, count := 128, kind := kind }

/-- For each check of ARM from 2 to 8 tables that fail it first, with the record named. -/
def faultyTables : List (Nat × Nat × Tbm) :=
  let figure (origin span : Nat) := whole (.figure origin span .straight .ascending)
  let up (n : Nat) : List (Nat × Effect) := (List.range n).map fun i => (i, .up)
  [ (2, 63, tabled [(63, { whole .lift with first := 1 })] [] []), (3, 63, tabled [(5, whole .lift), (63, whole .down)] [] []),
    (4, 0, tabled [(0, figure 8 8)] [] []), (4, 1, tabled [(1, figure 7 9)] [] []),
    (5, 2, tabled [(2, whole (.selvedge 31 0 0))] [] []), (6, 15, tabled [(0, figure 7 8)] (up 15) []),
    (7, 15, tabled [] [(15, .weave 31 0 0 false)] []),
    (8, 7, tabled [] [] [(7, { actions := [], windowOpen := 299, windowClose := 300 })]) ]

theorem witness_ArmFault :
    ∀ x ∈ faultyTables, ArmFault x.2.2 machine x.1 x.2.1 ∧ (∀ j < x.2.1, ¬ArmFault x.2.2 machine x.1 j) ∧
      ∀ earlier < x.1, ∀ j, ¬ArmFault x.2.2 machine earlier j := by
  have h : ∀ x ∈ faultyTables, armStage x.2.2 machine x.1 = some x.2.1 ∧
      ∀ earlier < x.1, armStage x.2.2 machine earlier = none := by decide +kernel
  intro x hx
  obtain ⟨h1, h2⟩ := h x hx
  obtain ⟨h3, h4⟩ := ((armStage_least _ _ _).1 _).1 h1
  exact ⟨h3, h4, fun e he => (armStage_least _ _ _).2.1 (h2 e he)⟩

/-- No check from 2 to 8 fails on `loom`. -/
theorem witness_no_ArmFault : ∀ check i, ¬ArmFault loom.tbm machine check i := by
  have h : ∀ check < 9, armStage loom.tbm machine check = none := by decide +kernel
  intro check
  refine (armStage_least _ _ _).2.1 ?_
  by_cases hc : check < 9
  · exact h check hc
  · obtain ⟨n, rfl⟩ : ∃ n, check = n + 9 := ⟨check - 9, by omega⟩
    rfl

/-- The states of ARM and DISARM; a held pick of another design width behind one of this width. -/
theorem witness_ArmAndDisarm :
    (∀ x ∈ faultyTables, Taking .arm [1] [] { commanded 1 loom with tbm := x.2.2 } ∧ x.2.2.machine = some machine) ∧
    (Taking .arm [1] [] (commanded 1 loom) ∧ loom.run.state = .offline ∧ loom.tbm.machine = some machine ∧
      loom.psq.runRecords = []) ∧
    (let s := withCurrent (pick 6 .pending 1) (withNext { pick 7 .pending 1 with effects := [0] } (commanded 1 loom))
     Taking .arm [1] [] s ∧ s.psq.runRecords = [pick 6 .pending 1] ++ { pick 7 .pending 1 with effects := [0] } :: [] ∧
     (pick 6 .pending 1).effects.length = machine.width ∧ ([0] : List (Fin 16)).length ≠ machine.width) ∧
    (Taking .arm [1] [] (commanded 1 idle) ∧ idle.tbm.machine = none) ∧
    (Taking .arm [1] [] (commanded 1 (inRun .stopped loom)) ∧ (inRun .stopped loom).run.state ≠ .offline) ∧
    Taking .disarm [2] [] (commanded 2 (inRun .stopped loom)) ∧
    (Taking .disarm [2] [] (commanded 2 (inRun .halted loom)) ∧ (inRun .halted loom).run.state ≠ .stopped) := by
  decide +kernel

/-- STOPPED, HOMED at angle 0, at standstill. -/
def ready : State := inRun .stopped (homedAt 0 loom)

/-- A test running on channel 19. -/
def testing (s : State) : State :=
  { s with drv :=
      { channels := s.drv.channels.set 19 { DriverChannel.fresh with phase := .testing }
        test := some { channel := 19, shortLevel := 15 } } }

theorem witness_StartIsRefused :
    (Taking .start [3] [] (commanded 3 loom) ∧ loom.run.state ≠ .stopped) ∧
    (Taking .start [3] [] (commanded 3 (inRun .stopped loom)) ∧ (inRun .stopped loom).stk.homing ≠ .homed) ∧
    (Taking .start [3] [] (commanded 3 (moving ready)) ∧ (moving ready).stk.homing = .homed ∧
      (moving ready).stk.motion = .moving) ∧
    (Taking .start [3] [] (commanded 3 (testing ready)) ∧ (testing ready).stk.motion = .standstill ∧
      (testing ready).drv.test ≠ none) := by decide +kernel

/-- `ready` with CURRENT, weft channel 1 and profile 0. -/
def threaded (r : PickRecord) (w : Option WeftChannel) (p : Option Profile) : State :=
  commanded 3
    (withCurrent r
      { ready with tbm := { ready.tbm with wefts := ready.tbm.wefts.set 0 w, profiles := ready.tbm.profiles.set 0 p } })

/-- Every case of START: nothing to arm, an empty pick, an armed one, and the three reasons of CHANNEL. -/
theorem witness_StartWeaves :
    (∀ s ∈ [commanded 3 ready, threaded (pick 7 .pending 0) none none,
        threaded (pick 7 .pending 1) (some (weft none)) (some profile), threaded (pick 7 .pending 1) none none,
        threaded (pick 7 .pending 1) (some { weft none with enabled := false }) none,
        threaded (pick 7 .pending 1) (some (weft none)) none],
      Taking .start [3] [] s ∧ s.run.state = .stopped ∧ s.stk.homing = .homed ∧ s.stk.motion = .standstill ∧
      s.drv.test = none ∧ s.tbm.machine = some machine ∧ s.angle = some 0 ∧ NoneTaken .every s ∧
      NoneTaken (.only []) (waitingFor [.stop .starved] s)) ∧
    (commanded 3 ready).currentPending = false ∧
    (threaded (pick 7 .pending 1) (some (weft none)) (some profile)).currentPending = true ∧ 0 < machine.armLimit ∧
    angleOf 4096 342 = 300 ∧ angleOf 4096 341 = 299 := by decide +kernel

theorem witness_StopEndsTheRun :
    Taking .stop [4] [] (commanded 4 (inRun .weaving ready)) ∧
    Taking .stop [4] [] (commanded 4 (inRun .weaving (moving ready))) ∧
    NoneTaken .every (commanded 4 (inRun .weaving ready)) ∧
    Taking .stop [4] [] (commanded 4 ready) ∧ ready.run.state ≠ .weaving := by decide +kernel

theorem witness_ClearReleasesAndStops :
    Taking .clear [5] [] (commanded 5 (inRun .halted ready)) ∧ Taking .clear [5] [] (commanded 5 ready) ∧
    Taking .clear [5] [] (commanded 5 (inRun .halted loom)) ∧ loom.stk.homing ≠ .homed ∧
    Taking .clear [5] [] (commanded 5 (inRun .halted (moving ready))) := by decide +kernel

theorem witness_HomeStartsHoming :
    Taking .home [7] [] (commanded 7 idle) ∧ idle.tbm.machine = none ∧ Taking .home [7] [] (commanded 7 ready) ∧
    Taking .home [7] [] (commanded 7 (inRun .stopping ready)) := by decide +kernel

theorem witness_SoftResetKeepsTablesAndShaft :
    Taking .softReset [8] [] (commanded 8 (inRun .weaving ready)) := by decide +kernel

theorem witness_Queries :
    Taking .queryRun [9, 1] [] (holding .command [9, 1] idle) ∧
    Taking .querySlots [9, 2] [] (holding .command [9, 2] idle) ∧
    Taking .queryTracker [9, 3] [] (holding .command [9, 3] idle) ∧
    (∀ k ∈ [(0 : Byte), 3], Taking .queryModules [9, 4, k] [] (holding .command [9, 4, k] idle)) ∧
    Taking .queryDrivers [9, 5] [] (holding .command [9, 5] idle) ∧
    Taking .queryCounters [9, 6] [] (holding .command [9, 6] idle) := by decide +kernel

theorem witness_BadQueriesAndCommands :
    Taking .queryUnknown [9, 7] [] (holding .command [9, 7] idle) ∧
    Taking .queryModules [9, 4, 4] [] (holding .command [9, 4, 4] idle) ∧ 3 < byteAt [9, 4, 4] 2 ∧
    Taking .unknownCommand [] [] (holding .command [] idle) ∧
    Taking .unknownCommand [12] [] (holding .command [12] idle) ∧
    Taking .unknownCommand [11, 0] [] (holding .command [11, 0] idle) := by decide +kernel

theorem witness_OffstateTestStarts :
    Taking .offstateTest [10, 0] [] (holding .command [10, 0] (inRun .weaving loom)) ∧
    (Taking .offstateTest [10, 20] [] (holding .command [10, 20] loom) ∧ 19 < byteAt [10, 20] 1) ∧
    (Taking .offstateTest [10, 0] [] (holding .command [10, 0] (testing loom)) ∧ (testing loom).drv.test ≠ none) ∧
    (∀ dc ∈ [(0 : Byte), 19], Taking .offstateTest [10, dc] [] (holding .command [10, dc] loom)) ∧
    loom.drv.test = none ∧ (loom.drv.channels[(19 : DriverIdx)]).phase = .idle := by decide +kernel

theorem witness_ClearModuleFlags : Taking .clearModuleFlags [11] [] (commanded 11 (inRun .weaving loom)) := by
  decide +kernel

/-! ### Hypotheses that can be met: the shaft and the sensors -/

/-- The levels of the sensors, the first feeder line among them. -/
def sensed (arv feeder : Option Level) (s : State) : State :=
  { s with wfm := { s.wfm with arv := arv, feeders := s.wfm.feeders.set 0 feeder } }

/-- The window and the capture. -/
def windowed (w : Option Sys2Proof.Ordinal) (capture : Option Nat) (s : State) : State :=
  { s with wfm := { s.wfm with window := w, capture := capture } }

/-- The first feeder line watched. -/
def watched (s : State) : State := { s with wfm := { s.wfm with watch := some 0 } }

/-- The mode of the machine record for encoder faults. -/
def withMode (mode : EncoderFaultMode) (s : State) : State :=
  { s with tbm := { s.tbm with machine := some { machine with encoderMode := mode } } }

/-- A homing state. -/
def withHoming (h : Homing) (s : State) : State := { s with stk := { s.stk with homing := h } }

theorem witness_LevelsAreAcquiredAndFall :
    loom.Ready ∧ loom.tbm.machine = some machine ∧ loom.stk.encA = none ∧ loom.stk.encB = none ∧ loom.stk.encZ = none ∧
    loom.wfm.arv = none ∧ loom.wfm.feeders[(0 : FeederIdx)] = none ∧ loom.wfm.feeders[(11 : FeederIdx)] = none ∧
    loom.wfm.watch ≠ some 0 ∧ (sensed (some .high) (some .high) loom).wfm.arv = some .high ∧
    (sensed (some .high) (some .high) loom).wfm.feeders[(0 : FeederIdx)] = some .high ∧
    ({ (homedAt 0 loom).stk with encZ := some .high } : Stk).encZ = some .high := by decide +kernel

/-- At both ends of the scale, in both directions; the net travel at 3N/2, and the reverse count at its tolerance. -/
theorem witness_EncoderStepCounts :
    (∀ p ∈ [0, 4095], (homedAt p loom).Ready ∧ (homedAt p loom).tbm.machine = some machine ∧
      (homedAt p loom).stk.position < machine.counts ∧ (homedAt p loom).stk.encA = some .low ∧
      (homedAt p loom).stk.encB = some .low ∧ (withHoming .homing (homedAt p loom)).stk.homing ≠ .homed ∧
      (((Level.low, Level.low), (flipLevel .low, Level.low)) ∈ forwardPairs) ∧
      ¬((Level.low, Level.low), (Level.low, flipLevel .low)) ∈ forwardPairs ∧ (homedAt p loom).run.handed = []) ∧
    (let k := { (homedAt 5 loom).stk with netTravel := 6144, reverseCount := 8 }
     missesIndex machine.counts k .forward = true ∧ missesIndex machine.counts k .backward = false ∧
     reversesInRun .weaving machine.reverseTolerance k.reverseCount .backward = true ∧
     reversesInRun .stopping machine.reverseTolerance k.reverseCount .backward = false ∧
     missesIndex machine.counts { k with indexMissingRaised := true } .forward = false) := by decide +kernel

theorem witness_IllegalTransitionMakesNoStep :
    ∀ mode ∈ [EncoderFaultMode.halt, .stop], ∀ st ∈ [RunState.offline, .stopped, .weaving, .stopping, .halted],
      let s := withMode mode (inRun st (moving (homedAt 5 loom)))
      s.Ready ∧ s.tbm.machine = some { machine with encoderMode := mode } ∧ s.stk.encA = some .low ∧
      s.stk.encB = some .low ∧ s.run.state = st ∧ s.stk.motion = .moving := by decide +kernel

/-- Every homing state, the deviations at and above the tolerance of 4 counts on both sides. -/
theorem witness_IndexPulseHomesOrChecks :
    (∀ p ∈ [0, 96, 95, 104, 105], (homedAt p loom).Ready ∧ (homedAt p loom).tbm.machine = some machine ∧
      (homedAt p loom).stk.encZ = some .low ∧ (homedAt p loom).stk.homing = .homed) ∧ 0 < machine.counts ∧
    indexDeviation machine 104 = 4 ∧ indexDeviation machine 96 = -4 ∧ indexDeviation machine 105 = 5 ∧
    indexDeviation machine 95 = -5 ∧ (withHoming .homing (homedAt 0 loom)).stk.homing = .homing ∧
    (withHoming .unhomed (homedAt 0 loom)).stk.homing = .unhomed := by decide +kernel

theorem witness_StandstillIsDeclared :
    ∀ st ∈ [RunState.offline, .stopped, .weaving, .stopping, .halted],
      (inRun st (moving (homedAt 5 loom))).Ready ∧
      (inRun st (moving (homedAt 5 loom))).stk.standstillTimer = some 250 := by decide +kernel

theorem witness_ArvRiseIsCapturedOrSpurious :
    let s := sensed (some .low) none (homedAt 5 loom)
    s.Ready ∧ s.tbm.machine = some machine ∧ s.wfm.arv = some .low ∧ s.wfm.window = none ∧
    (windowed (some 7) (some 2300) s).wfm.capture = some 2300 ∧ (windowed (some 7) none s).wfm.capture = none ∧
    (windowed (some 7) none s).angle = some 4 ∧ (withHoming .unhomed (windowed (some 7) none s)).angle = none := by
  decide +kernel

theorem witness_FeederBreakAlarmsOrFaults :
    let s := sensed none (some .low) (inRun .weaving (moving (homedAt 5 loom)))
    s.Ready ∧ s.tbm.machine = some machine ∧ s.wfm.feeders[(0 : FeederIdx)] = some .low ∧ s.wfm.watch ≠ some 0 ∧
    (watched s).wfm.watch = some 0 ∧ (watched s).currentArmed = false ∧
    (watched (withCurrent (pick 7 .armed 1) s)).currentArmed = true ∧ s.stk.motion = .moving := by decide +kernel

/-- D above 0 and at 0, with NEXT named, NEXT not named, and none, with CURRENT and without; the warning ready at the
mark; a block of each kind; every way to settle or arm the pick promoted, with T_rev unknown and known. -/
theorem witness_ForwardBoundaryMovesTheRun :
    let s := inRun .weaving (moving (homedAt 4095 loom))
    let deep := { s with psq := { s.psq with depth := 255 } }
    StepReady machine .encA .forward s ∧ s.stk.position + 1 = machine.counts ∧ StepReady machine .encA .forward deep ∧
    0 < deep.psq.depth ∧ s.psq.nextPick = none ∧ s.psq.current = none ∧ NoneTaken .every s ∧
    (let t := withCurrent (pick 7 .armed 1) (withNext (pick 8 .pending 1) s)
     StepReady machine .encA .forward t ∧ t.hci.tag.ordinal ≠ some 8 ∧ (tagged 8 t).hci.tag.ordinal = some 8 ∧
     (tagged 8 t).hci.tag.stale = false ∧
     (let low : State := { t with psq := { t.psq with queue := [pick 9 .pending 1, pick 10 .pending 1], warningReady := true } }
      low.heldAhead = machine.lowWater ∧ low.psq.warningReady = true ∧ 0 < machine.lowWater)) ∧
    (∀ b ∈ [BlockKind.perPick, .latch],
      let x := withChannel { DriverChannel.fresh with phase := .blocked, block := some b } s
      StepReady machine .encA .forward x ∧ (x.drv.channels[(0 : DriverIdx)]).phase = .blocked ∧
      (x.drv.channels[(0 : DriverIdx)]).block = some b) ∧
    (∀ x ∈ [({ weft none with enabled := false }, some profile), (weft none, none), (weft none, some profile)],
      let wefts := loom.tbm.wefts.set 0 (some x.1)
      ({ loom.tbm with wefts := wefts } : Tbm).weftRecord 1 = some x.1) ∧ loom.tbm.weftRecord 1 = none ∧
    profile.actions.length ≤ 8 ∧
    (let fast (s : State) := { s.tbm with drivers := s.tbm.drivers.set 0 (some (coil .latch)) }
     let built (t : Option Nat) := buildArmed (fast s) (advanceOf t) machine.highestAngle 8 (weft none) profile
     (built none).actions.map ArmedAction.effective = [350, 900] ∧
     (built (some 20000)).actions.map ArmedAction.effective = [0, 0] ∧ 0 < (built none).windowOpen ∧
     (buildArmed (fast s) (advanceOf none) machine.highestAngle 8 (weft none) { profile with windowOpen := 0 }).windowOpen
       = 0) := by decide +kernel

/-- PH empty and not, with an armed part and without, and the warning made ready by what comes back. -/
theorem witness_BackwardBoundaryUnwindsTheRun :
    let s := withCurrent (pick 7 .armed 1) (inRun .stopped (moving (homedAt 0 loom)))
    let t := { s with psq := { s.psq with history := [pick 6 .inserted 1] } }
    StepReady machine .encB .backward s ∧ s.stk.position = 0 ∧ s.psq.history = [] ∧ NoneTaken .every s ∧
    StepReady machine .encB .backward t ∧ t.psq.history.getLast? = some (pick 6 .inserted 1) ∧
    (pick 6 .inserted 1).state ≠ .armed ∧
    (let x := withSnapshot (some (part none)) (inRun .weaving t)
     StepReady machine .encB .backward x ∧ x.armedPart = some (part none) ∧
     (part none).actions.map ArmedAction.channel = [0, 0]) := by decide +kernel

/-- The step between 3,754 and 3,755 crosses L = 3,300: forward with NEXT and backward with CURRENT ready, not ready
and empty. In STOPPED the same step and the wrap step, with a latch due and none. -/
theorem witness_LatchRequestFiresOrStops :
    let s (st : RunState) (p : Nat) := withSnapshot none (inRun st (moving (homedAt p loom)))
    let ready (x : State) := setChain 0 { phase := .ready 8 false, lengthFlag := false, entries := [] } x
    let holds (x : State) := withNext (pick 8 .pending 1) (withCurrent (pick 8 .pending 1) x)
    (∀ st ∈ [RunState.weaving, .stopping, .stopped],
      StepReady machine .encA .forward (s st 3754) ∧ StepReady machine .encB .backward (s st 3755) ∧
      (s st 3754).run.state = st ∧ (s st 3754).asc.snapshot.map Snapshot.latchAngle = some 3300 ∧
      (s st 3754).psq.nextPick = none ∧ (s st 3754).psq.current = none ∧ (s st 3754).run.handed = [] ∧
      (holds (s st 3754)).nextOrdinal = some 8 ∧ (holds (s st 3754)).currentOrdinal = some 8 ∧
      (holds (s st 3754)).allReady 8 = false ∧ (ready (holds (s st 3754))).allReady 8 = true ∧
      StepReady machine .encA .forward (ready (holds (s st 3754)))) ∧
    angleOf 4096 3754 < 3300 ∧ 3300 ≤ angleOf 4096 3755 ∧ (3754 + 1 < machine.counts ∧ 0 < 3755) ∧
    (let x := ready (holds (s .stopped 3754))
     x.tagNames 8 = false ∧ (tagged 8 x).tagNames 8 = true ∧ x.stk.direction = .forward ∧
     (stepInfo machine.counts 3754 .forward).crosses machine.latchAngle = true ∧
     (stepInfo machine.counts 3754 .forward).wrap = false ∧ (stepInfo machine.counts 4095 .forward).crosses 0 = true ∧
     (stepInfo machine.counts 0 .backward).crosses 0 = true) := by decide +kernel

/-- WEAVING at a count with pick 7 armed for a channel with or without a feeder line. -/
def inserting (f : Option FeederIdx) (p : Nat) : State :=
  withCurrent (pick 7 .armed 1) (withSnapshot (some (part f)) (inRun .weaving (moving (homedAt p loom))))

/-- The steps that cross the ON at 350, the opening at 1,900 and the closing at 2,700, each with a feeder line and
without. -/
theorem witness_ArmedPartIsWorkedThrough :
    (∀ p ∈ [398, 2161, 3071], p + 1 < machine.counts ∧
      StepReady machine .encA .forward (inserting none p) ∧ (inserting none p).run.state = .weaving ∧
      (inserting none p).armedPart = some (part none) ∧ StepReady machine .encA .forward (inserting (some 0) p) ∧
      (inserting (some 0) p).armedPart = some (part (some 0))) ∧
    (part none).actions.length ≤ 8 ∧ (part none).weft.feeder = none ∧ (part (some 0)).weft.feeder = some 0 ∧
    (part none).openHanded = false ∧ (part none).closeHanded = false ∧
    (part none).actions.map (fun x => (x.viaSelector, x.fired)) = [(true, false), (true, false)] ∧
    (part none).actions.map (fun x => (x.switching, x.effective)) = [(.on, 350), (.off, 900)] ∧
    angleOf 4096 398 < 350 ∧ 350 ≤ angleOf 4096 399 ∧ angleOf 4096 2161 < 1900 ∧ 1900 ≤ angleOf 4096 2162 ∧
    angleOf 4096 3071 < 2700 ∧ 2700 ≤ angleOf 4096 3072 ∧ angleOf 4096 3072 < 3300 := by decide +kernel

/-- The watch begun with the line CLEAR and at BREAK, a closing with a capture and without, and channel 0 IDLE with
settings of each mode and with none. -/
theorem witness_ArmedPartIsWorkedThrough_cases :
    (sensed none (some .high) (inserting (some 0) 398)).wfm.feeders[(0 : FeederIdx)] = some .high ∧
    (sensed none (some .low) (inserting (some 0) 398)).wfm.feeders[(0 : FeederIdx)] = some .low ∧
    (windowed (some 7) (some 2300) (inserting none 3071)).wfm.capture = some 2300 ∧
    (windowed (some 7) none (inserting none 3071)).wfm.capture = none ∧
    ({ part none with openHanded := true } : ArmedPart).openHanded = true ∧
    (∀ mode ∈ [DriveMode.off, .direct, .peakHold],
      let d := { coil .latch with mode := mode }
      let t := { loom.tbm with drivers := loom.tbm.drivers.set 0 (some d) }
      (buildArmed t (fun _ => 0) machine.highestAngle 7 (weft none) profile).copies
        = [{ channel := 0, settings := some d }]) ∧
    (part none).copies = [{ channel := 0, settings := none }] ∧
    ((inserting none 398).drv.channels[(0 : DriverIdx)]).phase = .idle := by decide +kernel

/-! ### Hypotheses that can be met: channels and chains -/

theorem witness_CurrentIsShaped :
    let d := coil .latch
    let c (ph : DrivePhase) (b : Option Nat) := drivingChannel ph d b
    let s (ph : DrivePhase) (b : Option Nat) := withChannel (c ph b) loom
    (∀ ph ∈ [DrivePhase.peak, .holdOn, .holdOff, .directOn], ∀ b ∈ [none, some 5],
      (s ph b).Ready ∧ (s ph b).drv.channels[(0 : DriverIdx)] = c ph b ∧ (c ph b).inUse.isSome ∧
      (c ph b).phase.driving = true ∧ (c ph b).deglitchTimer = none) ∧
    d.holdLevel ≤ d.peakLevel ∧ 0 < d.blanking ∧ ({ d with blanking := 0 } : DriverSettings).blanking = 0 ∧
    749 < 250 * d.holdLevel ∧ 250 * d.holdLevel ≤ 750 ∧ 750 < 250 * d.overcurrentLevel ∧
    250 * d.overcurrentLevel ≤ 3000 ∧ d.overcurrentMode ≠ .disabled ∧ (coil .disabled).overcurrentMode = .disabled ∧
    ({ c .holdOff none with offTimer := some 20 } : DriverChannel).offTimer ≠ none := by decide +kernel

/-- Each mode, with and without the flag and an armed part. -/
theorem witness_DriverFaultsAreHandled :
    (∀ mode ∈ [FaultMode.report, .perPick, .latch],
      let c : DriverChannel := { drivingChannel .peak (coil mode) none with deglitchTimer := some 2 }
      let s := withChannel c (inRun .weaving (moving (homedAt 5 loom)))
      s.Ready ∧ s.run.state = .weaving ∧ s.drv.channels[(0 : DriverIdx)] = c ∧ c.inUse.isSome ∧
      c.phase.driving = true ∧ c.timerOf .overcurrent ≠ none ∧ c.timerOf .openLoad ≠ none ∧
      c.hasFlag .openLoad = false ∧ ({ c with flagOpenLoad := true } : DriverChannel).hasFlag .openLoad = true ∧
      s.armedPart = none ∧ (coil mode).modeOf .openLoad = mode) ∧
    (let s := withCurrent (pick 7 .armed 1) (withSnapshot (some (part none)) (inRun .weaving (moving loom)))
     s.armedPart = some (part none) ∧ (part none).weft.selector = 0 ∧ s.currentArmed = true ∧
     s.psq.current = some (pick 7 .armed 1) ∧ NoneTaken .every s) := by decide +kernel

theorem witness_TestEndJudges :
    (testing loom).Ready ∧ (testing loom).drv.test = some { channel := 19, shortLevel := 15 } := by decide +kernel

/-- A buffer that is being filled for pick 8. -/
def filling (s : State) (second : Bool) : State :=
  let b : Buffer := .filling 8 0 3 (List.replicate 8 0)
  { s with shb :=
      { s.shb with buffer0 := if second then .empty else b, buffer1 := if second then b else .empty, target := some 8 } }

theorem witness_ExpansionIsHeldAndShifted :
    (filling loom false).Ready ∧ (filling loom false).shb.buffer0 = .filling 8 0 3 (List.replicate 8 0) ∧
    (filling loom true).shb.buffer0.isFilling = false ∧
    (filling loom true).shb.buffer1 = .filling 8 0 3 (List.replicate 8 0) ∧ loom.modulesOn 0 ≠ 0 ∧
    loom.modulesOn 3 = 0 ∧ (loom.hci.chains[(0 : ChainIdx)]).phase = .idle := by decide +kernel

/-- Chain 0 in a given phase. -/
def chained (ph : ChainPhase) (s : State) : State :=
  setChain 0 { phase := ph, lengthFlag := false, entries := [ModuleEntry.fresh] } s

theorem witness_ShiftIsSentAndAnswersCollected :
    (chained (.shifting 8) loom).Ready ∧ ((chained (.shifting 8) loom).hci.chains[(0 : ChainIdx)]).phase = .shifting 8 ∧
    (chained (.shifting 8) loom).tbm.machine = some machine ∧
    (∀ second ∈ [false, true],
      let x : Buffer := .held 8 0 (List.replicate 128 true)
      let b : Shb :=
        { buffer0 := if second then .empty else x, buffer1 := if second then x else .empty, target := some 8 }
      b.buffer0 = x ∨ (b.buffer0.ordinal? ≠ some 8 ∧ b.buffer1 = x)) ∧
    ((chained (.checking 8 []) loom).hci.chains[(0 : ChainIdx)]).phase = .checking 8 [] ∧
    (chained (.ready 8 false) loom).Ready := by decide +kernel

/-- An ACK, the alarm of a flag, a silent module and an answer too many; the entry below, at and above K = 1 and 2; in
WEAVING, and in STOPPED with the latch due. -/
theorem witness_EndOfCheckingJudges :
    let answer (j : Nat) (b : Byte) : List AnswerChar := [{ position := j, byte := b, stopBit := .high }]
    (∀ a ∈ [answer 0 0x80, answer 0 0x84, answer 0 0x40, answer 1 0x80, []], ∀ st ∈ [RunState.weaving, .stopping],
      let s := chained (.checking 8 a) (inRun st (moving (homedAt 5 loom)))
      s.Ready ∧ s.tbm.machine = some machine ∧ (s.hci.chains[(0 : ChainIdx)]).phase = .checking 8 a ∧
      s.run.state = st ∧ s.shb.target = s.newTarget ∧ s.run.handed = [] ∧ s.stk.motion = .moving) ∧
    machine.chainMode = .report ∧
    (let s := chained (.checking 8 []) (inRun .weaving (moving (homedAt 5 loom)))
     let m := { machine with chainMode := .stopAfter 1 }
     let x := { s with tbm := { s.tbm with machine := some m } }
     x.Ready ∧ x.tbm.machine = some m ∧ m.chainMode = .stopAfter 1 ∧ x.run.handed = [] ∧ x.run.state = .weaving ∧
     (x.hci.chains[(0 : ChainIdx)]).entries[0]? = some .fresh) ∧
    (let e (a : List AnswerChar) := ModuleEntry.fresh.update (judgeModule a 0)
     (e (answer 0 0x80)).consecutive = 0 ∧ (e (answer 0 0x40)).consecutive = 1 ∧ (e []).consecutive = 1) ∧
    judgeModule (answer 0 0x80) 0 = { answer := .ack, flags := ⟨false, false, false⟩ } ∧
    (let s := chained (.checking 8 (answer 0 0x80)) ready
     ({ s with hci := { s.hci with required := some 8 } } : State).hci.required = some 8 ∧ s.tagNames 8 = false ∧
     s.modulesOn 0 ≠ 0 ∧ s.usedChains = [0]) := by decide +kernel

/-! ### Hypotheses that can be met: arithmetic and images -/

theorem witness_arithmetic :
    900 * 20000 ≤ 5000 * 3600 ∧ 12000 * 3600 < 900 * 100000 ∧ 2000000 < 2000001 ∧ (7 : Nat) % (2 * 5 - 2) ≥ 5 ∧
    (4 : Nat) % (2 * 5 - 2) < 5 ∧ 479 < 480 := by decide

/-- Tables with a section of each kind, an UP, a DOWN and a WEAVE entry. -/
def patterned : Tbm :=
  { loom.tbm with
    sections :=
      (((loom.tbm.sections.set 0 (some { first := 0, count := 8, kind := .lift })).set 1
        (some { first := 8, count := 8, kind := .down })).set 2
        (some { first := 16, count := 8, kind := .figure 0 8 .straight .ascending })).set 3
        (some { first := 24, count := 8, kind := .selvedge 0 0 0 })
    effects := ((loom.tbm.effects.set 0 (some .up)).set 1 (some .down)).set 2 (some (.weave 0 0 0 true))
    weaves := loom.tbm.weaves.set 0 (some { height := 2, width := 2, cells := [[true, false], [false, true]] }) }

/-- Hooks 0 to 32 of design row 1 with the codes 0, 1, 2, 2, 0, 1, 2, 2. -/
theorem test_image :
    (expandImage patterned 1 [0, 1, 2, 2, 0, 1, 2, 2]).take 33 =
      List.replicate 8 true ++ List.replicate 8 false ++
        [true, false, true, false, true, false, true, false] ++
        [false, true, false, true, false, true, false, true] ++ [false] ∧
    patterned.machine = some machine ∧ (expandImage patterned 1 []).length = 128 ∧
    patterned.sectionAt 0 = some { first := 0, count := 8, kind := .lift } ∧ patterned.sectionAt 32 = none ∧
    patterned.effects[(2 : Fin 16)] = some (.weave 0 0 0 true) := by decide +kernel

/-! ### One step of a command on a small state -/

/-- What holds of the next state a command answers. -/
def answers (c : Instr) (s : State) (p : State → Bool) : Bool :=
  match exec c s with
  | .next t => p t
  | _ => false

/-- The next state a command answers. -/
def after (c : Instr) (s : State) : State :=
  match exec c s with
  | .next t => t
  | _ => s

theorem test_hardReset : answers .hardReset ready (fun t => t = State.reset) = true := by decide +kernel

theorem test_resetRelease :
    answers .resetRelease State.reset (fun t => t.dlp.transmitter.isSome && t.dlp.receiver = .closed) = true := by
  decide +kernel

theorem test_frameStart : answers .frameStart idle (fun t => t.dlp.receiver = .receiving []) = true := by decide +kernel

/-- A whole STOP frame, its last check byte arriving. -/
theorem test_frameReceived :
    let bytes := checkedFrame [3, 0, 1, 4]
    answers (.frameReceived (bytes.getD 5 0) .high) (receiving (.receiving (bytes.take 5)) 0)
      (fun t => t.dlp.held = [{ kind := .command, payload := [4] }] && t.dlp.receiver = .hunt) = true := by
  decide +kernel

theorem test_byteGapTimeout :
    answers .byteGapTimeout (receiving (.receiving [2]) 0) (fun t => t.dlp.linkErrors = 1 && t.dlp.receiver = .hunt)
      = true := by decide +kernel

theorem test_dlrxByte_overlong :
    answers (.dlrxByte 17 .high) (receiving (.receiving [2, 4]) 0) (fun t => t.dlp.linkErrors = 1) = true := by
  decide +kernel

theorem test_transmitFrameEnd :
    answers (.transmitFrameEnd 0) { sending .event false with dlp := { (sending .event false).dlp with receiver := .closed } }
      (fun t => t.dlp.receiver = .hunt && t.dlp.transmitter.isNone) = true := by decide +kernel

/-- R184: an answer filled while the choice is held back goes before the event that waits. -/
theorem test_transmitFrameEnd_fill_first :
    let s := holding .command [9, 6] (sending .answer false)
    answers .queryCounters (after (.transmitFrameEnd 1) { s with dlp := { s.dlp with events := [.testDone 0 .open] } })
      (fun t => t.dlp.transmitter.map TxFrame.kind = some .answer && t.dlp.events.length = 1) = true := by decide +kernel

theorem test_pickFrame :
    answers .pickFrame (offered 0 (pickBytes 0 1 2))
      (fun t => t.psq.expected = 1 && t.nextOrdinal = some 0 &&
        t.psq.nextPick.map PickRecord.effects = some [0, 1, 2, 3, 4, 5, 6, 7]) = true := by decide +kernel

theorem test_tableMachine :
    answers .tableMachine (holding .table machineBytes idle)
      (fun t => t.tbm.machine = some machine && t.tbm.epoch = 1) = true := by decide +kernel

theorem test_tableSections :
    answers .tableSections (holding .table (sectionBytes 63) idle)
      (fun t => t.tbm.sections[(63 : Fin 64)] = some { first := 0, count := 128, kind := .lift }) = true := by
  decide +kernel

theorem test_tableEffects :
    answers .tableEffects (holding .table (effectBytes 15) idle) (fun t => t.tbm.effects[(15 : Fin 16)] = some .up)
      = true := by decide +kernel

theorem test_tableWeaves :
    answers .tableWeaves (holding .table (weaveBytes 31) idle)
      (fun t => t.tbm.weaves[(31 : Fin 32)] = some { height := 1, width := 1, cells := [[true]] }) = true := by
  decide +kernel

theorem test_tableProfiles :
    answers .tableProfiles (holding .table (profileBytes 7) (inRun .weaving loom))
      (fun t => t.tbm.profiles[(7 : Fin 8)] = some { actions := [], windowOpen := 1900, windowClose := 2700 }) = true := by
  decide +kernel

theorem test_tableWefts :
    answers .tableWefts (holding .table (weftBytes 12) loom) (fun t => t.tbm.wefts[(11 : Fin 12)] = some (weft none))
      = true := by decide +kernel

theorem test_tableDrivers :
    answers .tableDrivers (holding .table (driverBytes 19) loom)
      (fun t => t.tbm.drivers[(19 : DriverIdx)] = some (coil .latch) && t.tbm.epoch = 0) = true := by decide +kernel

theorem test_arm : answers .arm (commanded 1 loom) (fun t => t.run.state = .stopped && !t.run.permit) = true := by
  decide +kernel

theorem test_disarm : answers .disarm (commanded 2 ready) (fun t => t.run.state = .offline) = true := by decide +kernel

theorem test_start_arms :
    answers (.start .every) (threaded (pick 7 .pending 1) (some (weft none)) (some profile))
      (fun t => t.run.state = .weaving && t.run.permit && t.currentArmed &&
        (t.armedPart.map fun a => a.actions.map ArmedAction.effective) = some [350, 900]) = true := by decide +kernel

theorem test_start_without_channel_stops :
    answers (.start .every) (threaded (pick 7 .pending 1) none none)
      (fun t => t.run.state = .stopped && t.run.firstStop = some (.weftChannel 7) && t.wfm.weftFaults = 1) = true := by
  decide +kernel

theorem test_stop :
    answers (.stop .every) (commanded 4 (inRun .weaving (moving ready)))
      (fun t => t.run.state = .stopping && t.run.firstStop = some .stopCommand && !t.run.permit) = true := by
  decide +kernel

theorem test_clear :
    answers .clear (commanded 5 (inRun .halted ready)) (fun t => t.run.state = .stopped) = true := by decide +kernel

theorem test_flush :
    answers .flush (holding .command [6, 1, 2] (withNext (pick 7 .pending 1) ready))
      (fun t => t.psq.nextPick.isNone && t.psq.expected = 258) = true := by decide +kernel

theorem test_home : answers .home (commanded 7 ready) (fun t => t.stk.homing = .homing) = true := by decide +kernel

theorem test_softReset :
    answers .softReset (commanded 8 (inRun .weaving ready))
      (fun t => t.run.state = .offline && t.tbm.machine = some machine && t.dlp.receiver = .closed) = true := by
  decide +kernel

theorem test_offstateTest :
    answers .offstateTest (holding .command [10, 19] loom)
      (fun t => t.drv.test = some { channel := 19, shortLevel := 15 }) = true := by decide +kernel

theorem test_queryCounters :
    answers .queryCounters (holding .command [9, 6] idle)
      (fun t => t.dlp.answer.map Answer.data = some (6 :: List.replicate 18 0)) = true := by decide +kernel

theorem test_queryTracker :
    answers .queryTracker (holding .command [9, 3] idle)
      (fun t => t.dlp.answer.map Answer.data = some [3, 0, 0, 0, 0, 0, 0, 1, 0, 0, 0, 0, 0, 0, 0, 0, 0, 2, 2, 2]) = true := by
  decide +kernel

/-- An image is taken up when a pick enters NEXT in STOPPED. -/
theorem test_expansion_starts :
    answers .pickFrame (offered 0 (pickBytes 0 1 2))
      (fun t => t.shb.target = some 0 && t.shb.buffer0.isFilling) = true := by decide +kernel

theorem test_expansionComplete :
    answers .expansionComplete (filling loom true)
      (fun t => t.lineOut = [.mark 0 225] && t.shb.buffer1 = .held 8 0 (List.replicate 128 false)) = true := by
  decide +kernel

theorem test_segmentsSent :
    answers (.segmentsSent 0) (chained (.shifting 8) loom)
      (fun t => (t.hci.chains[(0 : ChainIdx)]).phase = .checking 8 [] && t.lineOut.length = 2) = true := by
  decide +kernel

theorem test_endOfChecking_silent :
    answers (.endOfChecking 0 .every) (chained (.checking 8 []) (inRun .stopping (homedAt 5 loom)))
      (fun t => (t.hci.chains[(0 : ChainIdx)]).phase = .ready 8 true) = true := by decide +kernel

/-- The latch of a run state of STOPPED fires as the last chain becomes READY. -/
theorem test_endOfChecking_latches :
    let s := chained (.checking 8 [{ position := 0, byte := 0x80, stopBit := .high }]) (withCurrent (pick 8 .pending 1) ready)
    answers (.endOfChecking 0 .every) { s with hci := { s.hci with required := some 8 } }
      (fun t => t.lineOut = [.strobe] && t.tagNames 8) = true := by decide +kernel

/-- A promotion at the boundary: 7 leaves CURRENT, 8 becomes CURRENT. -/
theorem test_encoderStep_promotes :
    answers (.encoderStep .encA 24 [] .every)
      (tagged 8 (withCurrent (pick 7 .inserted 1) (withNext (pick 8 .pending 1) (inRun .stopped (moving (homedAt 4095 loom))))))
      (fun t => t.stk.position = 0 && t.currentOrdinal = some 8 && t.psq.history.map PickRecord.ordinal = [7] &&
        t.psq.picksEntered = 1) = true := by decide +kernel

theorem test_encoderStep_latches :
    let s := withNext (pick 8 .pending 1) (withSnapshot none (inRun .weaving (moving (homedAt 3754 loom))))
    answers (.encoderStep .encA 24 [] .every) (setChain 0 { phase := .ready 8 false, lengthFlag := false, entries := [] } s)
      (fun t => t.tagNames 8 && t.lineOut.contains .strobe && t.run.state = .weaving) = true ∧
    answers (.encoderStep .encA 24 [] .every) s (fun t => t.run.firstStop = some (.lateImage 8) && t.run.state = .stopping)
      = true := by decide +kernel

/-- The ON at 35.0 degrees switches channel 0 on. -/
theorem test_encoderStep_fires :
    let s := withCurrent (pick 7 .armed 1) (withSnapshot (some (part none)) (inRun .weaving (moving (homedAt 398 loom))))
    answers (.encoderStep .encA 24 [] .every) { s with tbm := { s.tbm with drivers := s.tbm.drivers.set 0 (some (coil .latch)) } }
      (fun t => (t.armedPart.map fun a => a.actions.map ArmedAction.fired) = some [true, false]) = true := by
  decide +kernel

theorem test_encoderStep_judges_missing :
    let a := { part none with openHanded := true }
    answers (.encoderStep .encA 24 [] .every)
      (windowed (some 7) none (withCurrent (pick 7 .armed 1)
        (withSnapshot (some a) (inRun .weaving (moving (homedAt 3071 loom))))))
      (fun t => t.run.firstStop = some (.weftMissing 7) && t.wfm.window.isNone && t.wfm.weftFaults = 1) = true := by
  decide +kernel

theorem test_encoderStep_unwinds :
    answers (.encoderStep .encB 24 [] .every)
      (let s := withCurrent (pick 7 .pending 1) (inRun .stopped (moving (homedAt 0 loom)))
       { s with psq := { s.psq with history := [pick 6 .inserted 1] } })
      (fun t => t.stk.position = 4095 && t.currentOrdinal = some 6 && t.nextOrdinal = some 7 && t.psq.history = []) = true := by
  decide +kernel

theorem test_illegalTransition :
    answers (.illegalTransition .every) (inRun .stopped (homedAt 5 loom))
      (fun t => t.run.state = .halted && t.run.haltCause = some .encoderFault && t.stk.illegalCount = 1) = true := by
  decide +kernel

theorem test_indexPulse :
    answers (.indexPulse .every) (withHoming .homing (homedAt 5 loom)) (fun t => t.stk.homing = .homed && t.stk.position = 100)
      = true ∧
    answers (.indexPulse .every) (inRun .stopped (homedAt 105 loom))
      (fun t => t.stk.homing = .unhomed && t.run.haltCause = some .indexMismatch) = true := by decide +kernel

theorem test_standstill :
    answers .standstill (inRun .stopping (moving (homedAt 5 loom)))
      (fun t => t.run.state = .stopped && t.stk.motion = .standstill) = true := by decide +kernel

theorem test_arvRise :
    answers .arvRise (windowed (some 7) none (sensed (some .low) none (withCurrent (pick 7 .armed 1) (homedAt 2400 loom))))
      (fun t => t.wfm.capture = some 2109 && t.psq.current.map PickRecord.arrival = some (some 2109)) = true := by
  decide +kernel

theorem test_feederBreak :
    answers (.feederBreak 0 .every)
      (watched (withCurrent (pick 7 .armed 1) (sensed none (some .low) (inRun .weaving (moving (homedAt 5 loom))))))
      (fun t => t.run.firstStop = some (.feederBreak 7) && t.wfm.weftFaults = 1) = true := by decide +kernel

theorem test_peakLevelReached :
    answers (.peakLevelReached 0) (withChannel (drivingChannel .peak (coil .latch) none) loom)
      (fun t => (t.drv.channels[(0 : DriverIdx)]).phase = .holdOff) = true := by decide +kernel

/-- A LATCH fault halts the part. A second one, found before RUN takes the first, is the later halting cause. -/
theorem test_deglitchEnd_latch_halts :
    let c : DriverChannel := { drivingChannel .peak (coil .latch) none with deglitchTimer := some 2 }
    let s := withChannel c (inRun .weaving (moving (homedAt 5 loom)))
    answers (.deglitchEnd 0 .every) s
      (fun t => t.run.state = .halted && t.run.haltCause = some (.driverLatch 0) &&
        (t.drv.channels[(0 : DriverIdx)]).block = some .latch) = true ∧
    answers (.deglitchEnd 1 .every) (after (.deglitchEnd 0 (.only [])) (setChannel 1 c s))
      (fun t => t.run.haltCause = some (.driverLatch 0) && t.run.lastLater = some (.halt (.driverLatch 1)) &&
        (t.drv.channels[(1 : DriverIdx)]).block = some .latch) = true := by decide +kernel

/-- 9.9.2: the LATCH fault of channel 0 is found first and its cause waits, the break of the watched line is taken
first, and DRIVER_LATCH halts from STOPPING with the first stop cause kept. -/
theorem test_deglitchEnd_waits :
    let s :=
      withChannel { drivingChannel .peak (coil .latch) none with deglitchTimer := some 2 }
        (watched (withCurrent (pick 7 .armed 1) (sensed none (some .low) (inRun .weaving (moving (homedAt 5 loom))))))
    let found := after (.deglitchEnd 0 (.only [])) s
    (found.run.state = .weaving && found.run.handed = [.halt (.driverLatch 0)]) = true ∧
    answers (.feederBreak 0 (.only [1])) found
      (fun t => t.run.state = .stopping && t.run.firstStop = some (.feederBreak 7) &&
        (finishWaiting t).run.state = .halted && (finishWaiting t).run.haltCause = some (.driverLatch 0) &&
        (finishWaiting t).run.firstStop = some (.feederBreak 7)) = true := by decide +kernel

theorem test_testEnd :
    answers (.testEnd 3750) (testing loom) (fun t => (t.drv.channels[(19 : DriverIdx)]).lastTest = .shorted) = true ∧
    answers (.testEnd 3749) (testing loom) (fun t => (t.drv.channels[(19 : DriverIdx)]).lastTest = .loadPresent)
      = true ∧
    answers (.testEnd 19) (testing loom) (fun t => (t.drv.channels[(19 : DriverIdx)]).lastTest = .open) = true := by
  decide +kernel

/-! ### The invariants hold of a part at work -/

/-- WEAVING at 34.9 degrees with 6 woven, 7 in CURRENT armed, 8 in NEXT with its image held, 9 in PQ, channel 0
driving, and a STOP frame waiting. -/
def busy : State :=
  let s := commanded 4 (withSnapshot (some (part none)) (inRun .weaving (moving (homedAt 398 loom))))
  { s with
    pending := [.stop .every, .encoderStep .encA 24 [1, 0] .every]
    psq :=
      { s.psq with
        history := [pick 6 .inserted 1], current := some (pick 7 .armed 1), nextPick := some (pick 8 .pending 1)
        queue := [pick 9 .pending 1], expected := 10 }
    shb := { buffer0 := .held 8 0 [], buffer1 := .empty, target := some 8 }
    drv := (withChannel (drivingChannel .peak (coil .latch) none) s).drv }

theorem witness_invariants :
    busy.psq.inOrder = true ∧ busy.psq.bounded = true ∧ busy.psq.placed = true ∧ busy.run.permitted = true ∧
    busy.dlp.bounded = true ∧ busy.dlp.answer = none ∧ busy.dlp.events = [] ∧ busy.onScale = true ∧
    busy.stk.ranged = true ∧ busy.armedInWeaving = true ∧ busy.drivenInWeaving = true ∧ busy.testSound = true ∧
    (busy.drv.channels.toList.all DriverChannel.sound) = true ∧ busy.targetInForce = true ∧
    busy.requiredInForce = true ∧ busy.imagesSound = true ∧ busy.insertionSound = true ∧
    (let s := windowed (some 7) none busy
     let opened := withSnapshot (some { part none with openHanded := true }) { s with stk := (homedAt 2400 s).stk }
     opened.insertionSound = true ∧ opened.psq.placed = true ∧ opened.onScale = true) := by decide +kernel

/-- The step `busy` takes, and what it keeps. -/
theorem test_busy_steps :
    (match step busy with
     | .next t =>
       t.pending = [.encoderStep .encA 24 [1, 0] .every] && t.psq.inOrder && t.psq.bounded && t.psq.placed && t.run.permitted
         && t.dlp.bounded && t.onScale && t.stk.ranged && t.armedInWeaving && t.drivenInWeaving && t.targetInForce
         && t.requiredInForce && t.imagesSound && t.insertionSound && t.run.state = .stopping
     | _ => false) = true := by decide +kernel

theorem witness_PatternTablesAreFixedOutsideOffline :
    Instr.arm ≠ .hardReset ∧ ready.resetLine = .high ∧ ready.run.state ≠ .offline ∧
    answers .arm ready (fun _ => true) = true := by decide +kernel

theorem witness_OnlyStartEntersWeaving :
    (commanded 3 ready).run.state ≠ .weaving ∧
    answers (.start .every) (commanded 3 ready) (fun t => t.run.state = .weaving) = true := by decide +kernel

theorem witness_NoStrobeInOfflineOrHalted :
    loom.resetLine = .high ∧ loom.run.handed = [] ∧ loom.run.state = .offline ∧ (inRun .halted loom).run.state = .halted ∧
    answers .queryRun loom (fun t => t.run.state = .offline) = true := by decide +kernel

end Sys2Proof.Tests
end

/-! ## What a step can do -/

namespace Sys2Proof.Machine

/-! ### Every command but the two of the reset line is its effect inside `command` -/

/-- The effect of a command inside `command`; the two commands of the reset line have none there. -/
def commandEffect : Instr → State → State
  | .hardReset => id
  | .resetRelease => id
  | .frameStart => receiveByte startByte .high
  | .frameReceived byte stopBit => receiveByte byte stopBit
  | .byteGapTimeout => byteGap
  | .transmitFrameEnd wait => transmitEnd wait
  | .pickFrame => takeFrame .pick takePick
  | .tableMachine => takeFrame (.table .machine) takeTableMachine
  | .tableSections => takeFrame (.table .sections) takeTableSections
  | .tableEffects => takeFrame (.table .effects) takeTableEffects
  | .tableWeaves => takeFrame (.table .weaves) takeTableWeaves
  | .tableProfiles => takeFrame (.table .profiles) takeTableProfiles
  | .tableWefts => takeFrame (.table .wefts) takeTableWefts
  | .tableDrivers => takeFrame (.table .drivers) takeTableDrivers
  | .tableUnknown => takeFrame .tableUnknown fun p t => answerTable p .unknown [] t
  | .arm => takeFrame .arm takeArm
  | .disarm => takeFrame .disarm takeDisarm
  | .start taken => takeFrame .start (takeStart taken)
  | .stop taken => takeFrame .stop (takeStopCommand taken)
  | .clear => takeFrame .clear takeClear
  | .flush => takeFrame .flush takeFlush
  | .home => takeFrame .home takeHome
  | .softReset => takeFrame .softReset takeSoftReset
  | .queryRun => takeFrame .queryRun fun _ t => answerQuery 1 (runContent t) t
  | .querySlots => takeFrame .querySlots fun _ t => answerQuery 2 (slotsContent t) t
  | .queryTracker => takeFrame .queryTracker fun _ t => answerQuery 3 (trackerContent t) t
  | .queryModules => takeFrame .queryModules takeQueryModules
  | .queryDrivers => takeFrame .queryDrivers fun _ t => answerQuery 5 (driversContent t) t
  | .queryCounters => takeFrame .queryCounters fun _ t => answerQuery 6 (countersContent t) t
  | .queryUnknown => takeFrame .queryUnknown fun _ t => answerCommand 9 .unknown [] t
  | .offstateTest => takeFrame .offstateTest takeOffstateTest
  | .clearModuleFlags => takeFrame .clearModuleFlags fun _ t => answerCommand 11 .ok [] (clearSticky t)
  | .unknownCommand => takeFrame .unknownCommand takeUnknownCommand
  | .encoderLevelAcquired input level => acquireLevel input level
  | .encoderStep line elapsed order taken => fun s => takeCauses taken (lineChange line elapsed order taken s)
  | .illegalTransition taken => fun s => takeCauses taken (illegalChange s)
  | .indexPulse taken => fun s => takeCauses taken (indexRise s)
  | .standstill => declareStandstill
  | .sensorLevelAcquired sensor level taken => fun s => takeCauses taken (acquireSensor sensor level s)
  | .arvRise => arvRises
  | .feederBreak line taken => fun s => takeCauses taken (feederBreaks line s)
  | .feederClear line => feederClears line
  | .peakLevelReached dc => onDriving dc DriverChannel.peakReached
  | .holdLevelReached dc => onDriving dc DriverChannel.holdReached
  | .directLoadReached dc => onDriving dc DriverChannel.loadReached
  | .chopOffTimeEnd dc current => onDriving dc (DriverChannel.offTimeEnds current)
  | .blankingEnd dc current => onDriving dc (DriverChannel.blankingEnds current)
  | .peakTimeLimitEnd dc taken => fun s => takeCauses taken (peakLimitEnds dc s)
  | .overcurrentRise dc => onDriving dc DriverChannel.startDeglitch
  | .overcurrentFall dc => onDriving dc fun c _ => { c with deglitchTimer := none }
  | .deglitchEnd dc taken => fun s => takeCauses taken (deglitchEnds dc s)
  | .testEnd current => endTest current
  | .expansionComplete => completeExpansion
  | .segmentsSent chain => sendCheckCall chain
  | .moduleAnswer chain position byte stopBit =>
    collectAnswer chain { position := position, byte := byte, stopBit := stopBit }
  | .endOfChecking chain taken => fun s => takeCauses taken (closeChecking chain s)
  | .dlrxByte byte stopBit => receiveByte byte stopBit
  | .arvFall => arvFalls
  | .enczFall => indexFall

/-- The two commands of the reset line (11 R199, R200). -/
def Instr.ofResetLine : Instr → Bool
  | .hardReset => true
  | .resetRelease => true
  | _ => false

theorem exec_eq_command (c : Instr) (s : State) (h : Instr.ofResetLine c = false) :
    exec c s = command (commandEffect c) s := by
  cases c with
  | hardReset => simp [Instr.ofResetLine] at h
  | resetRelease => simp [Instr.ofResetLine] at h
  | _ => rfl

/-! ### Properties that every command but those of its own matter keeps -/

/-- A property that says nothing about the queue, the reset line, the lines driven, the link and what RUN keeps beside
the run state: it holds of every state whose loom is the same. -/
def LoomOnly (P : State → Prop) : Prop :=
  ∀ s t : State, t.tbm = s.tbm → t.psq = s.psq → t.shb = s.shb → t.hci = s.hci → t.stk = s.stk → t.asc = s.asc →
    t.wfm = s.wfm → t.drv = s.drv → t.run.state = s.run.state → P s → P t

namespace LoomOnly

variable {P : State → Prop}

theorem kickTransmitter (hl : LoomOnly P) {s : State} (h : P s) : P (kickTransmitter s) := by
  apply hl s <;> simp [h]

theorem takeCauses (hl : LoomOnly P) (hc : ∀ s c, P s → P (takeCause s c)) (taken : CausesTaken) {s : State} (h : P s) :
    P (takeCauses taken s) :=
  takeCauses_preserves P (fun s _ hs => hl s _ rfl rfl rfl rfl rfl rfl rfl rfl rfl hs) hc taken s h

theorem drain (hl : LoomOnly P) (hc : ∀ s c, P s → P (takeCause s c)) {s : State} (h : P s) : P (drain s) :=
  hl.takeCauses hc .every h

theorem takeAt (hl : LoomOnly P) (hc : ∀ s c, P s → P (takeCause s c)) (place : Nat) {s : State} (h : P s) :
    P (takeAt s place) :=
  hl.takeCauses hc (.only [place]) h

/-- A frame is taken: what its row's effect keeps is kept, whether or not the frame can be taken. -/
theorem takeFrame (hl : LoomOnly P) {eff : List Byte → State → State} (he : ∀ p s, P s → P (eff p s)) (row : FrameRow)
    {s : State} (h : P s) : P (takeFrame row eff s) := by
  unfold Machine.takeFrame
  split
  · exact h
  · split
    · exact he _ _ (hl s _ rfl rfl rfl rfl rfl rfl rfl rfl rfl h)
    · exact h

theorem answerCommand (hl : LoomOnly P) (code : Nat) (r : Result) (data : List Byte) {s : State} (h : P s) :
    P (answerCommand code r data s) :=
  hl s _ rfl rfl rfl rfl rfl rfl rfl rfl rfl h

theorem finishWaiting (hl : LoomOnly P) (hc : ∀ s c, P s → P (takeCause s c)) {s : State} (h : P s) :
    P (finishWaiting s) := by
  unfold Machine.finishWaiting
  split
  · exact h
  · have h1 : P (Machine.drain { s with lineOut := [] }) :=
      hl.drain hc (hl s _ rfl rfl rfl rfl rfl rfl rfl rfl rfl h)
    exact hl.kickTransmitter (hl (Machine.drain { s with lineOut := [] }) _ rfl rfl rfl rfl rfl rfl rfl rfl rfl h1)

/-- What holds after reset, what every command's effect keeps and RUN's taking of a cause keeps, every step keeps. -/
theorem step (hl : LoomOnly P) (hreset : P State.reset) (he : ∀ c s, P s → P (commandEffect c s))
    (hc : ∀ s c, P s → P (takeCause s c)) {s t : State} (h : P s) (hs : step s = .next t) : P t := by
  have hcommand : ∀ (c : Instr) (u v : State), P u → command (commandEffect c) u = .next v → P v := by
    intro c u v hu hv
    unfold command at hv
    split at hv <;> cases hv
    · exact hu
    · exact hl.kickTransmitter (he c _ (hl u _ rfl rfl rfl rfl rfl rfl rfl rfl rfl hu))
  unfold Machine.step at hs
  split at hs
  · cases hs
    exact hl.finishWaiting hc h
  · rename_i c rest _
    have hrest : P { s with pending := rest } := hl s _ rfl rfl rfl rfl rfl rfl rfl rfl rfl h
    cases hr : Instr.ofResetLine c with
    | false => exact hcommand c _ t hrest ((exec_eq_command c _ hr).symm.trans hs)
    | true =>
      cases c with
      | hardReset =>
        cases hs
        exact hl State.reset _ rfl rfl rfl rfl rfl rfl rfl rfl rfl hreset
      | resetRelease =>
        simp only [exec, execResetRelease] at hs
        split at hs <;> cases hs
        · exact hl.kickTransmitter (hl State.reset _ (by simp) (by simp) (by simp) (by simp) (by simp) (by simp)
            (by simp) (by simp) (by simp) hreset)
        · exact hl { s with pending := rest } _ rfl rfl rfl rfl rfl rfl rfl rfl rfl hrest
      | _ => simp [Instr.ofResetLine] at hr

end LoomOnly

end Sys2Proof.Machine

/-! ## What the operations do to the pick run -/

namespace Sys2Proof.Machine

/-! ### The firing of one action -/

/-- The armed part with action `j` fired (06 R114). -/
def ArmedPart.fire (a : ArmedPart) (j : Nat) (x : ArmedAction) : ArmedPart :=
  { a with actions := a.actions.set j { x with fired := true } }

/-- The ON or OFF an action sends to its channel (06 R114). -/
def switchChannel (x : ArmedAction) (s : State) : State :=
  match x.switching with
  | .on => driverOn x.channel s
  | .off => driverOff x.channel s

@[simp] theorem switchChannel_frame (x : ArmedAction) (s : State) :
    (switchChannel x s).pending = s.pending ∧ (switchChannel x s).resetLine = s.resetLine ∧
    (switchChannel x s).lineOut = s.lineOut ∧ (switchChannel x s).dlp = s.dlp ∧ (switchChannel x s).tbm = s.tbm ∧
    (switchChannel x s).psq = s.psq ∧ (switchChannel x s).shb = s.shb ∧ (switchChannel x s).hci = s.hci ∧
    (switchChannel x s).stk = s.stk ∧ (switchChannel x s).asc = s.asc ∧ (switchChannel x s).wfm = s.wfm ∧
    (switchChannel x s).run = s.run := by
  unfold switchChannel
  split <;> simp

/-- The state in which action `j` is marked fired and its ON or OFF is sent. -/
def sendAction (a : ArmedPart) (j : Nat) (x : ArmedAction) (s : State) : State :=
  switchChannel x (setArmed (some (a.fire j x)) s)

@[simp] theorem sendAction_frame (a : ArmedPart) (j : Nat) (x : ArmedAction) (s : State) :
    (sendAction a j x s).pending = s.pending ∧ (sendAction a j x s).resetLine = s.resetLine ∧
    (sendAction a j x s).lineOut = s.lineOut ∧ (sendAction a j x s).dlp = s.dlp ∧
    (sendAction a j x s).tbm = s.tbm ∧ (sendAction a j x s).psq = s.psq ∧ (sendAction a j x s).shb = s.shb ∧
    (sendAction a j x s).hci = s.hci ∧ (sendAction a j x s).stk = s.stk ∧ (sendAction a j x s).wfm = s.wfm ∧
    (sendAction a j x s).run = s.run := by
  simp [sendAction]

/-- 06 R114: firing action `j` does nothing where there is no such action; else the action is sent, and the feeder
watch begins where it is the first SELECTOR ON. -/
theorem fireOne_cases (s : State) (j : Nat) :
    fireOne s j = s ∨
      ∃ a x, s.armedPart = some a ∧ a.actions[j]? = some x ∧
        fireOne s j =
          if a.beginsWatch x then beginWatch a.weft.feeder (sendAction a j x s) else sendAction a j x s := by
  unfold fireOne
  cases ha : s.armedPart with
  | none => exact .inl rfl
  | some a =>
    dsimp only
    cases hx : a.actions[j]? with
    | none => exact .inl rfl
    | some x => exact .inr ⟨a, x, rfl, hx, rfl⟩

/-! ### Operations that change nothing of the run but the outcome of CURRENT -/

/-- From `p` to `q` nothing of the run changes but fields of the record in CURRENT, whose ordinal stays. -/
def Psq.OutcomeOnly (p q : Psq) : Prop :=
  ∃ f : PickRecord → PickRecord, (∀ r, (f r).ordinal = r.ordinal) ∧ q = { p with current := p.current.map f }

namespace Psq.OutcomeOnly

theorem refl (p : Psq) : p.OutcomeOnly p := ⟨id, fun _ => rfl, by simp⟩

theorem of_eq {p q : Psq} (h : q = p) : p.OutcomeOnly q := h ▸ refl p

theorem trans {p q r : Psq} (h1 : p.OutcomeOnly q) (h2 : q.OutcomeOnly r) : p.OutcomeOnly r := by
  obtain ⟨f, hf, rfl⟩ := h1
  obtain ⟨g, hg, rfl⟩ := h2
  exact ⟨g ∘ f, fun x => (hg _).trans (hf x), by simp⟩

end Psq.OutcomeOnly

/-- What every step of a fold does, the fold does. -/
theorem foldl_outcomeOnly {β : Type} {f : State → β → State} (h : ∀ (s : State) x, s.psq.OutcomeOnly (f s x).psq)
    (l : List β) (s : State) : s.psq.OutcomeOnly (l.foldl f s).psq := by
  induction l generalizing s with
  | nil => exact .refl _
  | cons x xs ih => exact (h s x).trans (ih _)

theorem modCurrent_outcome (f : PickRecord → PickRecord) (hf : ∀ r, (f r).ordinal = r.ordinal) (s : State) :
    s.psq.OutcomeOnly (modCurrent f s).psq :=
  ⟨f, hf, rfl⟩

theorem interrupt_ordinal (r : PickRecord) : r.interrupt.ordinal = r.ordinal := by
  unfold PickRecord.interrupt
  split <;> rfl

theorem disarmed_ordinal (r : PickRecord) : r.disarmed.ordinal = r.ordinal := by
  unfold PickRecord.disarmed
  split <;> rfl

/-- A change of run state interrupts an ARMED pick at most (06 R119). -/
theorem changeState_outcome (st : RunState) (s : State) : s.psq.OutcomeOnly (changeState st s).psq := by
  rw [changeState_psq]
  split
  · exact ⟨_, interrupt_ordinal, rfl⟩
  · exact .refl _

theorem takeCause_outcome (s : State) (c : Cause) : s.psq.OutcomeOnly (takeCause s c).psq := by
  cases c with
  | stop c =>
    simp only [takeCause, takeStop]
    split
    · have h1 := changeState_outcome .stopping { s with run := { s.run with firstStop := some c } }
      split
      · exact h1.trans (changeState_outcome .stopped _)
      · exact h1
    · exact .of_eq (by simp)
  | halt c =>
    simp only [takeCause, takeHalt]
    split
    · exact changeState_outcome .halted { s with run := { s.run with haltCause := some c } }
    · exact changeState_outcome .halted { s with run := { s.run with haltCause := some c } }
    · exact changeState_outcome .halted { s with run := { s.run with haltCause := some c } }
    · exact .of_eq (by simp)
    · exact .of_eq (by simp)

/-- 07 R129, R134, R136: a weft fault gives CURRENT its fault and nothing else of the run. -/
theorem weftFault_outcome (d : WeftDetail) (c : Ordinal → StopCause) (s : State) :
    s.psq.OutcomeOnly (weftFault d c s).psq := by
  unfold weftFault
  split
  · exact .refl _
  · exact ⟨fun x => { x with state := .faulted, cause := some d.cause }, fun _ => rfl, by simp⟩

theorem judgeWindow_outcome (s : State) : s.psq.OutcomeOnly (judgeWindow s).psq := by
  unfold judgeWindow
  split
  · split
    · exact ⟨fun r => { r with state := .inserted, revTime := s.stk.revTime }, fun _ => rfl, rfl⟩
    · exact weftFault_outcome _ _ s
  · exact .refl _

theorem watchedBreak_outcome (f : FeederIdx) (s : State) : s.psq.OutcomeOnly (watchedBreak f s).psq := by
  simp only [watchedBreak]
  split
  · exact weftFault_outcome _ _ { s with wfm := { s.wfm with watch := none } }
  · exact .refl _

theorem beginWatch_outcome (line : Option FeederIdx) (s : State) : s.psq.OutcomeOnly (beginWatch line s).psq := by
  cases line with
  | none => exact .refl _
  | some f =>
    simp only [beginWatch]
    split
    · exact watchedBreak_outcome f { s with wfm := { s.wfm with watch := some f } }
    · exact .refl _

theorem feederBroken_outcome (f : FeederIdx) (s : State) : s.psq.OutcomeOnly (feederBroken f s).psq := by
  unfold feederBroken
  split
  · exact watchedBreak_outcome f s
  · exact .of_eq (by simp)

theorem blockReport_outcome (cs : List DriverIdx) (s : State) : s.psq.OutcomeOnly (blockReport cs s).psq := by
  unfold blockReport
  split
  · exact .refl _
  · dsimp only
    split
    · exact weftFault_outcome _ _ s
    · exact .refl _

theorem driverFault_outcome (dc : DriverIdx) (k : DriverFaultKind) (s : State) :
    s.psq.OutcomeOnly (driverFault dc k s).psq := by
  unfold driverFault
  dsimp only
  split
  · exact .refl _
  · rename_i u _
    split
    · exact .of_eq (by simp)
    · have h := blockReport_outcome (s.affected dc u.settings) (blockingFault dc k u.settings .perPick s)
      simpa using h
    · split
      · exact .refl _
      · exact .of_eq (by simp)
    · exact .refl _

theorem armWith_outcome (adv : Nat → Nat) (w : WeftChannel) (p : Profile) (r : PickRecord) (s : State) :
    s.psq.OutcomeOnly (armWith adv w p r s).psq :=
  ⟨fun x => { x with state := .armed, clipped := (buildArmed s.tbm adv s.highestAngle r.ordinal w p).clipped },
    fun _ => rfl, by simp only [armWith, modCurrent_psq, setArmed_frame]⟩

theorem armCurrent_outcome (adv : Nat → Nat) (s : State) : s.psq.OutcomeOnly (armCurrent adv s).psq := by
  unfold armCurrent
  split
  · exact .refl _
  · split
    · exact modCurrent_outcome (fun x => { x with state := .inserted }) (fun _ => rfl) s
    · split
      · exact weftFault_outcome _ _ s
      · split
        · split
          · exact weftFault_outcome _ _ s
          · exact armWith_outcome _ _ _ _ s
        · exact weftFault_outcome _ _ s

theorem armPromoted_outcome (s : State) : s.psq.OutcomeOnly (armPromoted s).psq := by
  unfold armPromoted
  split
  · exact armCurrent_outcome _ s
  · exact .refl _

theorem startSnapshot_outcome (s : State) : s.psq.OutcomeOnly (startSnapshot s).psq := by
  simp only [startSnapshot]
  split
  · exact .of_eq (by simp)
  · split
    · have h := armCurrent_outcome (fun _ => 0) (makeSnapshot .start (fun _ => 0) s)
      simpa using h
    · exact .of_eq (by simp)

theorem fireOne_outcome (s : State) (j : Nat) : s.psq.OutcomeOnly (fireOne s j).psq := by
  obtain h | ⟨a, x, _, _, h⟩ := fireOne_cases s j
  · rw [h]
    exact .refl _
  · rw [h]
    split
    · exact .trans (.of_eq (by simp)) (beginWatch_outcome a.weft.feeder _)
    · exact .of_eq (by simp)

theorem fireAction_outcome (x : Nat → Bool) (i : Nat) (s : State) : s.psq.OutcomeOnly (fireAction x i s).psq := by
  unfold fireAction
  split
  · exact .refl _
  · exact foldl_outcomeOnly fireOne_outcome _ s

theorem handClosing_outcome (x : Nat → Bool) (s : State) : s.psq.OutcomeOnly (handClosing x s).psq := by
  simp only [handClosing]
  split
  · exact .of_eq (by simp)
  · split
    · refine Psq.OutcomeOnly.trans (.of_eq ?_) (judgeWindow_outcome _)
      simp
    · exact .of_eq (by simp)

/-- 05 R97: every handling but that of the pick boundary leaves the run but the outcome of CURRENT. -/
theorem handle_outcome (c : StepInfo) (s : State) (h : Handling) (hb : h ≠ .boundary) :
    s.psq.OutcomeOnly (handle c s h).psq := by
  cases h with
  | boundary => exact absurd rfl hb
  | fire i => exact fireAction_outcome _ _ s
  | windowClose => exact handClosing_outcome _ s
  | _ => exact .of_eq (by simp [handle])

end Sys2Proof.Machine

/-! ## The moves of the pick run -/

namespace Sys2Proof.Machine

/-! ### The run after a promotion, a back-step and an acceptance -/

/-- 01 R7, R16: PH without its oldest record when it holds 16. -/
def trimHistory (l : List PickRecord) : List PickRecord := if 16 ≤ l.length then l.drop 1 else l

/-- 01 R16: the run after the record leaving CURRENT has entered PH. -/
def Psq.retired (p : Psq) : Psq :=
  match p.current with
  | none => p
  | some r =>
    { p with history := trimHistory p.history ++ [r.enterHistory], picksEntered := satInc max32 p.picksEntered }

/-- 01 R14: the run after an empty NEXT has been filled from the RL front, else from the PQ head. -/
def Psq.filled (p : Psq) : Psq :=
  match p.nextPick with
  | some _ => p
  | none =>
    match p.replay with
    | r :: rest => { p with nextPick := some r, replay := rest }
    | [] =>
      match p.queue with
      | r :: rest => { p with nextPick := some r, queue := rest }
      | [] => p

/-- 01 R15 outcome 2: the run after a promotion. -/
def Psq.promoted (p : Psq) : Psq :=
  ({ p.retired with current := p.retired.nextPick, nextPick := none } : Psq).filled

/-- 01 R18: the run unwound; `newest` comes back from PH. -/
def Psq.unwound (p : Psq) (newest : PickRecord) : Psq :=
  { p with
    history := p.history.dropLast, current := some newest, nextPick := p.current.map PickRecord.unwound
    replay := p.nextPick.toList ++ p.replay }

/-- 01 R13: the run after the acceptance of a record. -/
def Psq.accepted (p : Psq) (r : PickRecord) : Psq :=
  if p.nextPick = none ∧ p.replay = [] ∧ p.queue = [] then
    { p with expected := p.expected + 1, nextPick := some r }
  else { p with expected := p.expected + 1, queue := p.queue ++ [r] }

/-- 01 R21: the run after FLUSH. -/
def Psq.flushedTo (p : Psq) (keepNext : Bool) (arg : Ordinal) : Psq :=
  { p.afterFlush keepNext with expected := expectedAfterFlush (p.afterFlush keepNext) arg }

/-! ### What the operations of the Pick Sequencer leave of the run -/

theorem Psq.with_own_warning (p : Psq) {w : Bool} (h : w = p.warningReady) : { p with warningReady := w } = p := by
  subst h
  rfl

theorem Psq.with_own_history (p : Psq) {l : List PickRecord} (h : l = p.history) : { p with history := l } = p := by
  subst h
  rfl

theorem readyIfReached_psq (s : State) :
    (readyIfReached s).psq =
      { s.psq with
        warningReady := s.psq.warningReady || decide (0 < s.lowWaterMark ∧ s.lowWaterMark ≤ s.heldAhead) } := by
  unfold readyIfReached
  split <;> simp [*]

theorem lowWaterAfterFill_psq (s : State) :
    (lowWaterAfterFill s).psq =
      { s.psq with warningReady := s.psq.warningReady && !decide (s.heldAhead + 1 = s.lowWaterMark) } := by
  unfold lowWaterAfterFill
  split
  · rename_i h
    simp [h.2]
  · rename_i h
    refine (Psq.with_own_warning _ ?_).symm
    cases hw : s.psq.warningReady <;> simp_all

/-- 01 R14, R22: the fill takes held ahead from M to M - 1 where it stood at M. -/
theorem fillNext_psq (s : State) :
    (fillNext s).psq =
      { s.psq.filled with
        warningReady :=
          s.psq.warningReady &&
            !decide (s.psq.nextPick = none ∧ 0 < s.heldAhead ∧ s.heldAhead = s.lowWaterMark) } := by
  have hmark : ∀ p : Psq, ({ s with psq := p } : State).lowWaterMark = s.lowWaterMark := fun _ => rfl
  unfold fillNext Psq.filled
  cases hn : s.psq.nextPick with
  | some r => simp
  | none =>
    cases hr : s.psq.replay with
    | cons r rest =>
      have hw : (rest.length + s.psq.queue.length + 1 = s.lowWaterMark) ↔
          ((none : Option PickRecord) = none ∧ 0 < s.heldAhead ∧ s.heldAhead = s.lowWaterMark) := by
        simp [State.heldAhead, hr, Nat.add_right_comm]
      dsimp only
      rw [lowWaterAfterFill_psq, hmark, decide_eq_decide.mpr hw.symm]
      rfl
    | nil =>
      cases hq : s.psq.queue with
      | cons r rest =>
        dsimp only
        rw [lowWaterAfterFill_psq, hmark]
        simp [State.heldAhead, hr, hq]
      | nil =>
        dsimp only
        refine (Psq.with_own_warning _ ?_).symm
        simp [State.heldAhead, hr, hq]

theorem dropOldest_psq (s : State) : (dropOldest s).psq = { s.psq with history := trimHistory s.psq.history } := by
  unfold dropOldest trimHistory Config.historyCapacity
  cases h : s.psq.history with
  | nil => exact (Psq.with_own_history _ h.symm).symm
  | cons r rest =>
    by_cases h16 : 16 ≤ (r :: rest).length
    · simp only [h16, if_true, dropRecord_frame, List.drop_one, List.tail_cons]
    · simp only [h16, if_false]
      exact (Psq.with_own_history _ h.symm).symm

theorem retireCurrent_psq (s : State) : (retireCurrent s).psq = s.psq.retired := by
  unfold retireCurrent Psq.retired
  cases h : s.psq.current with
  | none => rfl
  | some r => simp [dropOldest_psq, h]

theorem trimHistory_length (l : List PickRecord) (h : l.length ≤ 16) : (trimHistory l).length ≤ 15 := by
  unfold trimHistory
  split
  · simp; omega
  · omega

@[simp] theorem retired_ahead (p : Psq) :
    p.retired.nextPick = p.nextPick ∧ p.retired.replay = p.replay ∧ p.retired.queue = p.queue ∧
    p.retired.warningReady = p.warningReady ∧ p.retired.expected = p.expected ∧ p.retired.depth = p.depth ∧
    p.retired.dwells = p.dwells ∧ p.retired.current = p.current := by
  unfold Psq.retired
  split <;> simp_all

@[simp] theorem filled_behind (p : Psq) :
    p.filled.history = p.history ∧ p.filled.current = p.current ∧ p.filled.expected = p.expected ∧
    p.filled.depth = p.depth ∧ p.filled.dwells = p.dwells ∧ p.filled.picksEntered = p.picksEntered ∧
    p.filled.warningReady = p.warningReady := by
  unfold Psq.filled
  repeat' split
  all_goals simp

/-- The records ahead of CURRENT stay in their order as NEXT is filled. -/
theorem filled_ahead (p : Psq) :
    p.filled.nextPick.toList ++ p.filled.replay ++ p.filled.queue = p.nextPick.toList ++ p.replay ++ p.queue := by
  unfold Psq.filled
  cases hn : p.nextPick with
  | some r => simp [hn]
  | none =>
    cases hr : p.replay with
    | cons r rest => simp
    | nil => cases hq : p.queue <;> simp [*]

/-- NEXT stands empty after a fill only where nothing is held ahead. -/
theorem filled_empty (p : Psq) (h : p.filled.nextPick = none) : p.filled.replay = [] ∧ p.filled.queue = [] := by
  unfold Psq.filled at *
  cases hn : p.nextPick with
  | some r => simp [hn] at h
  | none =>
    cases hr : p.replay with
    | cons r rest => simp [hn, hr] at h
    | nil => cases hq : p.queue <;> simp_all

/-- 01 R14, R15, R22: the run after a promotion, with the low-water warning. -/
theorem promote_psq (s : State) :
    (promote s).psq =
      { s.psq.promoted with
        warningReady := s.psq.warningReady && !decide (0 < s.heldAhead ∧ s.heldAhead = s.lowWaterMark) } := by
  have hm : ∀ p : Psq, ({ retireCurrent s with psq := p } : State).lowWaterMark = s.lowWaterMark := by
    intro p
    simp [State.lowWaterMark]
  simp only [promote, fillNext_psq, retireCurrent_psq, hm, Psq.promoted, State.heldAhead]
  simp

theorem unwind_psq (newest : PickRecord) (s : State) :
    (unwind newest s).psq =
      { s.psq.unwound newest with
        warningReady :=
          s.psq.warningReady ||
            decide (0 < s.lowWaterMark ∧
              s.lowWaterMark ≤ (s.psq.nextPick.toList ++ s.psq.replay).length + s.psq.queue.length) } := by
  simp only [unwind, postBackstep_frame, readyIfReached_psq]
  rfl

/-! ### The moves -/

/-- What one operation can do to the pick run (01 R3 to R22). -/
inductive RunMove : Psq → Psq → Prop
  /-- The low-water warning becomes ready or not (R22). -/
  | warn (p : Psq) (w : Bool) : RunMove p { p with warningReady := w }
  /-- CURRENT is given its outcome (R3 to R6). -/
  | outcome {p q : Psq} (h : p.OutcomeOnly q) : RunMove p q
  /-- A forward crossing with D above 0 (R15 outcome 1). -/
  | catchUp (p : Psq) (h : 0 < p.depth) : RunMove p { p with depth := p.depth - 1 }
  /-- A promotion (R15 outcome 2). -/
  | promote (p : Psq) (hd : p.depth = 0) (hn : p.nextPick.isSome = true) : RunMove p p.promoted
  /-- A dwell (R17). -/
  | dwell (p : Psq) (n : Nat) : RunMove p { p with dwells := n }
  /-- A back-step with a history (R18). -/
  | unwind (p : Psq) (newest : PickRecord) (h : p.history.getLast? = some newest) : RunMove p (p.unwound newest)
  /-- A back-step beyond the history (R19). -/
  | fallBehind (p : Psq) (h : p.history = []) : RunMove p { p with depth := satInc 255 p.depth }
  /-- An acceptance (R13). -/
  | accept (p : Psq) (r : PickRecord) (ho : r.ordinal = p.expected) (hq : p.queue.length < 32) :
    RunMove p (p.accepted r)
  /-- FLUSH (R21). -/
  | flush (p : Psq) (keepNext : Bool) (arg : Ordinal) : RunMove p (p.flushedTo keepNext arg)
  /-- A reset (R25, R26). -/
  | reset (p : Psq) : RunMove p Psq.hardReset

/-- What operations after one another can do to the pick run. -/
abbrev RunMoves : Psq → Psq → Prop := Relation.ReflTransGen RunMove

theorem RunMoves.of_outcome {p q : Psq} (h : p.OutcomeOnly q) : RunMoves p q := .single (.outcome h)

theorem RunMoves.of_eq {p q : Psq} (h : q = p) : RunMoves p q := h ▸ .refl

theorem forwardBoundary_moves (s : State) : RunMoves s.psq (forwardBoundary s).psq := by
  unfold forwardBoundary
  split
  · rename_i hd
    simpa using Relation.ReflTransGen.single (RunMove.catchUp s.psq hd)
  · rename_i hd
    split
    · rename_i hn
      have hsome : s.psq.nextPick.isSome = true := by
        unfold State.nextOnHooks at hn
        split at hn <;> simp_all
      have h1 : RunMoves s.psq (promote s).psq := by
        rw [promote_psq]
        exact (Relation.ReflTransGen.single (.promote _ (by omega) hsome)).tail (.warn _ _)
      have h2 := armPromoted_outcome (forwardSnapshot (promote s))
      simp only [settle_frame]
      exact h1.tail (.outcome (by simpa using h2))
    · simpa using Relation.ReflTransGen.single (RunMove.dwell s.psq (satInc 4294967295 s.psq.dwells))

theorem backwardBoundary_moves (s : State) : RunMoves s.psq (backwardBoundary s).psq := by
  have h1 : RunMoves s.psq
      (modCurrent PickRecord.disarmed (makeSnapshot .backward (fun _ => 0) (disarmBackward s))).psq :=
    .single (.outcome ⟨_, disarmed_ordinal, by simp⟩)
  simp only [backwardBoundary]
  split
  · rename_i newest hnew
    simp only [settle_frame, unwind_psq]
    exact (h1.tail (.unwind _ newest hnew)).tail (.warn _ _)
  · rename_i hnone
    simp only [postBackstep_frame]
    exact h1.tail (.fallBehind _ (List.getLast?_eq_none_iff.mp hnone))

theorem handle_moves (c : StepInfo) (s : State) (h : Handling) : RunMoves s.psq (handle c s h).psq := by
  by_cases hb : h = .boundary
  · subst hb
    simp only [handle]
    split
    · exact forwardBoundary_moves s
    · exact backwardBoundary_moves s
  · exact .of_outcome (handle_outcome c s h hb)

theorem acceptPick_psq (r : PickRecord) (s : State) :
    (acceptPick r s).psq =
      { s.psq.accepted r with
        warningReady :=
          s.psq.warningReady ||
            decide (¬(s.psq.nextPick = none ∧ s.psq.replay = [] ∧ s.psq.queue = []) ∧
              0 < s.lowWaterMark ∧ s.lowWaterMark ≤ s.heldAhead + 1) } := by
  simp only [acceptPick, Psq.accepted]
  split
  · simp [*]
  · rename_i h
    simp only [readyIfReached_psq]
    simp [h, State.lowWaterMark, State.heldAhead, Nat.add_assoc]

theorem takePick_moves (p : List Byte) (s : State) : RunMoves s.psq (takePick p s).psq := by
  unfold takePick
  split
  · split
    · exact .of_eq (by simp [refusePick])
    · rename_i m _
      split
      · exact .of_eq (by simp [refusePick])
      · split
        · exact .of_eq (by simp [refusePick])
        · rename_i ho
          split
          · exact .of_eq (by simp [refusePick])
          · rename_i hq
            rw [acceptPick_psq]
            exact (Relation.ReflTransGen.single
              (.accept _ (pickRecord m.width p) (not_not.mp ho) (Nat.lt_of_not_le hq))).tail (.warn _ _)
  · exact .of_eq (by simp [refusePick])

theorem flushRun_psq (arg : Ordinal) (s : State) : (flushRun arg s).psq = s.psq.flushedTo s.nextOnHooks arg := by
  simp [flushRun, Psq.flushedTo]

theorem takeFlush_moves (p : List Byte) (s : State) : RunMoves s.psq (takeFlush p s).psq := by
  unfold takeFlush
  split
  · simp only [answerCommand_frame, flushRun_psq]
    exact .single (.flush _ _ _)
  · exact .of_eq (by simp)

end Sys2Proof.Machine

/-! ## Commands that leave the pick and its insertion alone, and the moves of every step -/

namespace Sys2Proof.Machine

/-! ### The bystanders of a pick -/

/-- From `s` to `t` nothing changes that the placing and the insertion of a pick depend on: the run, the tables, the
tracker, the snapshot, the window and the run state. -/
structure SamePick (s t : State) : Prop where
  psq : t.psq = s.psq
  tbm : t.tbm = s.tbm
  stk : t.stk = s.stk
  asc : t.asc = s.asc
  window : t.wfm.window = s.wfm.window
  run : t.run.state = s.run.state

namespace SamePick

theorem refl (s : State) : SamePick s s := ⟨rfl, rfl, rfl, rfl, rfl, rfl⟩

theorem trans {s t u : State} (h1 : SamePick s t) (h2 : SamePick t u) : SamePick s u :=
  ⟨h2.psq.trans h1.psq, h2.tbm.trans h1.tbm, h2.stk.trans h1.stk, h2.asc.trans h1.asc, h2.window.trans h1.window,
    h2.run.trans h1.run⟩

theorem takeFrame (row : FrameRow) {eff : List Byte → State → State} (he : ∀ p s, SamePick s (eff p s)) (s : State) :
    SamePick s (takeFrame row eff s) := by
  unfold Machine.takeFrame
  split
  · exact refl s
  · split
    · rename_i rest _ _
      have hheld : SamePick s { s with dlp := { s.dlp with held := rest } } := ⟨rfl, rfl, rfl, rfl, rfl, rfl⟩
      exact hheld.trans (he _ _)
    · exact refl s

end SamePick

theorem post_samePick (e : Event) (s : State) : SamePick s (post e s) := by constructor <;> simp

theorem setReceiver_samePick (r : Receiver) (s : State) : SamePick s (setReceiver r s) := by constructor <;> rfl

theorem answerCommand_samePick (code : Nat) (r : Result) (data : List Byte) (s : State) :
    SamePick s (answerCommand code r data s) := by constructor <;> rfl

theorem answerQuery_samePick (selector : Nat) (content : List Byte) (s : State) :
    SamePick s (answerQuery selector content s) := answerCommand_samePick _ _ _ s

theorem answerTable_samePick (p : List Byte) (r : Result) (data : List Byte) (s : State) :
    SamePick s (answerTable p r data s) := by constructor <;> rfl

theorem setChannel_samePick (dc : DriverIdx) (c : DriverChannel) (s : State) : SamePick s (setChannel dc c s) := by
  constructor <;> rfl

theorem setChain_samePick (k : ChainIdx) (c : Chain) (s : State) : SamePick s (setChain k c s) := by
  constructor <;> rfl

theorem evalTarget_samePick (s : State) : SamePick s (evalTarget s) := by constructor <;> simp

theorem latchIfDue_samePick (s : State) : SamePick s (latchIfDue s) := by constructor <;> simp

/-! #### The link -/

theorem linkError_samePick (k : LinkErrorKind) (b : Option Byte) (s : State) : SamePick s (linkError k b s) :=
  .trans (t := { s with dlp := { s.dlp with linkErrors := satInc max16 s.dlp.linkErrors } })
    ⟨rfl, rfl, rfl, rfl, rfl, rfl⟩ (post_samePick _ _)

theorem discardFrame_samePick (k : LinkErrorKind) (bytes : List Byte) (s : State) :
    SamePick s (discardFrame k bytes s) :=
  (setReceiver_samePick .hunt s).trans (linkError_samePick _ _ _)

theorem judgeFrame_samePick (bytes : List Byte) (s : State) : SamePick s (judgeFrame bytes s) := by
  unfold judgeFrame
  dsimp only
  split
  · exact discardFrame_samePick _ _ s
  · split
    · exact discardFrame_samePick _ _ s
    · exact ⟨rfl, rfl, rfl, rfl, rfl, rfl⟩

theorem receiveInFrame_samePick (bytes : List Byte) (l : Level) (s : State) :
    SamePick s (receiveInFrame bytes l s) := by
  unfold receiveInFrame
  split
  · exact discardFrame_samePick _ _ s
  · split
    · exact discardFrame_samePick _ _ s
    · split
      · exact judgeFrame_samePick _ s
      · exact setReceiver_samePick _ s

theorem huntByte_samePick (b : Byte) (l : Level) (s : State) : SamePick s (huntByte b l s) := by
  unfold huntByte
  split
  · split
    · exact setReceiver_samePick _ s
    · exact (setReceiver_samePick (.passingOver 0 0) s).trans (linkError_samePick _ _ _)
  · exact .refl s

theorem passByte_samePick (seen length : Nat) (b : Byte) (l : Level) (s : State) :
    SamePick s (passByte seen length b l s) := by
  unfold passByte
  dsimp only
  repeat' split
  all_goals exact setReceiver_samePick _ s

theorem receiveByte_samePick (b : Byte) (l : Level) (s : State) : SamePick s (receiveByte b l s) := by
  unfold receiveByte
  split
  · exact .refl s
  · exact huntByte_samePick _ _ s
  · exact receiveInFrame_samePick _ _ s
  · exact passByte_samePick _ _ _ _ s

theorem byteGap_samePick (s : State) : SamePick s (byteGap s) := by
  unfold byteGap
  split
  · exact .refl s
  · exact .refl s
  · exact discardFrame_samePick _ _ s
  · exact setReceiver_samePick _ s

theorem transmitEnd_samePick (wait : Nat) (s : State) : SamePick s (transmitEnd wait s) := by
  have hend : ∀ f : TxFrame, SamePick s (endFrame f s) := by
    intro f
    simp only [endFrame]
    split
    · exact ⟨rfl, rfl, rfl, rfl, rfl, rfl⟩
    · split
      · exact ⟨rfl, rfl, rfl, rfl, rfl, rfl⟩
      · split <;> exact ⟨rfl, rfl, rfl, rfl, rfl, rfl⟩
  unfold transmitEnd
  split
  · exact .refl s
  · rename_i f _
    exact (hend f).trans ⟨rfl, rfl, rfl, rfl, rfl, rfl⟩

/-! #### The channels and the chains -/

theorem onDriving_samePick (dc : DriverIdx) (f : DriverChannel → DriverSettings → DriverChannel) (s : State) :
    SamePick s (onDriving dc f s) := by
  simp only [onDriving]
  split
  · exact .refl s
  · split
    · exact setChannel_samePick _ _ s
    · exact .refl s

theorem takeOffstateTest_samePick (p : List Byte) (s : State) : SamePick s (takeOffstateTest p s) := by
  unfold takeOffstateTest
  dsimp only
  repeat' split
  all_goals exact ⟨rfl, rfl, rfl, rfl, rfl, rfl⟩

theorem endTest_samePick (current : Nat) (s : State) : SamePick s (endTest current s) := by
  unfold endTest
  split
  · exact .refl s
  · constructor <;> simp

theorem completeExpansion_samePick (s : State) : SamePick s (completeExpansion s) := by
  unfold completeExpansion
  split
  · constructor <;> simp
  · split
    · constructor <;> simp
    · exact .refl s

theorem sendCheckCall_samePick (k : ChainIdx) (s : State) : SamePick s (sendCheckCall k s) := by
  have hf : ∀ (l : List LineItem) (t : State), SamePick t (l.foldl (fun t x => emit x t) t) := by
    intro l
    induction l with
    | nil => exact .refl
    | cons x xs ih => exact fun t => SamePick.trans (t := emit x t) ⟨rfl, rfl, rfl, rfl, rfl, rfl⟩ (ih _)
  unfold sendCheckCall
  dsimp only
  split
  · rename_i o _
    exact SamePick.trans (t := setChain k _ s) ⟨rfl, rfl, rfl, rfl, rfl, rfl⟩
      ((hf _ _).trans ⟨rfl, rfl, rfl, rfl, rfl, rfl⟩)
  · exact .refl s
  · exact .refl s
  · exact .refl s

theorem collectAnswer_samePick (k : ChainIdx) (x : AnswerChar) (s : State) : SamePick s (collectAnswer k x s) := by
  unfold collectAnswer
  dsimp only
  split <;> exact ⟨rfl, rfl, rfl, rfl, rfl, rfl⟩

theorem applyChainFault_samePick (k : ChainIdx) (s : State) : SamePick s (applyChainFault k s) := by
  unfold applyChainFault
  repeat' split
  all_goals exact ⟨rfl, rfl, rfl, rfl, rfl, rfl⟩

theorem closeChecking_samePick (k : ChainIdx) (s : State) : SamePick s (closeChecking k s) := by
  have halarm : ∀ (l : List ((ModuleEntry × Judgement) × Nat)) (t : State), SamePick t (l.foldl (postAlarm k) t) := by
    intro l
    induction l with
    | nil => exact .refl
    | cons x xs ih =>
      intro t
      refine SamePick.trans ?_ (ih _)
      unfold postAlarm
      dsimp only
      split
      · exact post_samePick _ t
      · exact .refl t
  have herror : ∀ o judged e (t : State), SamePick t (postChainError k o judged e t) := by
    intro o judged e t
    unfold postChainError
    dsimp only
    split
    · exact .refl t
    · exact post_samePick _ t
    · exact post_samePick _ t
  unfold closeChecking
  dsimp only
  split
  · exact (setChain_samePick k _ s).trans ((herror _ _ _ _).trans ((halarm _ _).trans
      ((applyChainFault_samePick k _).trans ((latchIfDue_samePick _).trans (evalTarget_samePick _)))))
  · exact .refl s
  · exact .refl s
  · exact .refl s

theorem clearSticky_samePick (s : State) : SamePick s (clearSticky s) := ⟨rfl, rfl, rfl, rfl, rfl, rfl⟩

theorem takeUnknownCommand_samePick (p : List Byte) (s : State) : SamePick s (takeUnknownCommand p s) := by
  constructor <;> rfl

theorem takeQueryModules_samePick (p : List Byte) (s : State) : SamePick s (takeQueryModules p s) := by
  unfold takeQueryModules
  split <;> exact answerCommand_samePick _ _ _ s

/-! #### The sensors -/

theorem feederClears_samePick (f : FeederIdx) (s : State) : SamePick s (feederClears f s) := by
  unfold feederClears
  split <;> exact ⟨rfl, rfl, rfl, rfl, rfl, rfl⟩

theorem arvFalls_samePick (s : State) : SamePick s (arvFalls s) := by
  unfold arvFalls
  split <;> exact ⟨rfl, rfl, rfl, rfl, rfl, rfl⟩

/-- The commands whose effect is no matter of a pick, beside the causes RUN takes after it. -/
def Instr.bystander : Instr → Bool
  | .hardReset | .resetRelease => true
  | .frameStart | .frameReceived _ _ | .byteGapTimeout | .transmitFrameEnd _ | .dlrxByte _ _ => true
  | .tableUnknown | .unknownCommand | .offstateTest | .clearModuleFlags => true
  | .queryRun | .querySlots | .queryTracker | .queryModules | .queryDrivers | .queryCounters | .queryUnknown => true
  | .feederClear _ | .arvFall => true
  | .peakLevelReached _ | .holdLevelReached _ | .directLoadReached _ | .chopOffTimeEnd _ _ | .blankingEnd _ _ => true
  | .overcurrentRise _ | .overcurrentFall _ | .testEnd _ => true
  | .expansionComplete | .segmentsSent _ | .moduleAnswer _ _ _ _ => true
  | _ => false

theorem bystander_samePick (c : Instr) (h : Instr.bystander c = true) (s : State) : SamePick s (commandEffect c s) := by
  cases c with
  | hardReset => exact .refl s
  | resetRelease => exact .refl s
  | frameStart => exact receiveByte_samePick _ _ s
  | frameReceived b l => exact receiveByte_samePick _ _ s
  | byteGapTimeout => exact byteGap_samePick s
  | transmitFrameEnd w => exact transmitEnd_samePick w s
  | dlrxByte b l => exact receiveByte_samePick _ _ s
  | tableUnknown => exact SamePick.takeFrame .tableUnknown (fun p t => answerTable_samePick p .unknown [] t) s
  | unknownCommand => exact SamePick.takeFrame .unknownCommand takeUnknownCommand_samePick s
  | offstateTest => exact SamePick.takeFrame _ takeOffstateTest_samePick s
  | clearModuleFlags =>
    exact SamePick.takeFrame .clearModuleFlags
      (fun _ t => (clearSticky_samePick t).trans (answerCommand_samePick 11 .ok [] _)) s
  | queryModules => exact SamePick.takeFrame _ takeQueryModules_samePick s
  | queryRun => exact SamePick.takeFrame .queryRun (fun _ t => answerQuery_samePick 1 (runContent t) t) s
  | querySlots => exact SamePick.takeFrame .querySlots (fun _ t => answerQuery_samePick 2 (slotsContent t) t) s
  | queryTracker => exact SamePick.takeFrame .queryTracker (fun _ t => answerQuery_samePick 3 (trackerContent t) t) s
  | queryDrivers => exact SamePick.takeFrame .queryDrivers (fun _ t => answerQuery_samePick 5 (driversContent t) t) s
  | queryCounters => exact SamePick.takeFrame .queryCounters (fun _ t => answerQuery_samePick 6 (countersContent t) t) s
  | queryUnknown => exact SamePick.takeFrame .queryUnknown (fun _ t => answerCommand_samePick 9 .unknown [] t) s
  | feederClear f => exact feederClears_samePick f s
  | arvFall => exact arvFalls_samePick s
  | peakLevelReached dc => exact onDriving_samePick dc _ s
  | holdLevelReached dc => exact onDriving_samePick dc _ s
  | directLoadReached dc => exact onDriving_samePick dc _ s
  | chopOffTimeEnd dc n => exact onDriving_samePick dc _ s
  | blankingEnd dc n => exact onDriving_samePick dc _ s
  | overcurrentRise dc => exact onDriving_samePick dc _ s
  | overcurrentFall dc => exact onDriving_samePick dc (fun c _ => { c with deglitchTimer := none }) s
  | testEnd n => exact endTest_samePick n s
  | expansionComplete => exact completeExpansion_samePick s
  | segmentsSent k => exact sendCheckCall_samePick k s
  | moduleAnswer k n b l => exact collectAnswer_samePick k _ s
  | _ => simp [Instr.bystander] at h

end Sys2Proof.Machine

namespace Sys2Proof.Machine

/-! ### Every step moves the run by its moves -/

theorem takeCauses_moves (taken : CausesTaken) (s : State) : RunMoves s.psq (takeCauses taken s).psq :=
  takeCauses_preserves (fun x => RunMoves s.psq x.psq) (fun _ _ h => h)
    (fun x c h => h.tail (.outcome (takeCause_outcome x c))) taken s .refl

theorem takingOwn_moves {f : State → State} (hf : ∀ s, RunMoves s.psq (f s).psq) (s : State) :
    RunMoves s.psq (takingOwn f s).psq :=
  (hf { s with run := { s.run with handed := [] } }).trans (takeCauses_moves .every _)

theorem runOrder_moves (c : StepInfo) (taken : CausesTaken) (order : List Nat) (rest : List Handling) (s : State) :
    RunMoves s.psq (runOrder c taken order rest s).psq :=
  runOrder_preserves (fun x => RunMoves s.psq x.psq) c (fun x h hx => hx.trans (handle_moves c x h))
    (fun x place hx => hx.trans (takeCauses_moves (.only [place]) x)) (fun x hx => hx.trans (takeCauses_moves .every x))
    taken order rest s .refl

/-- A change of run state after changes that leave the run alone. -/
theorem changeState_moves (st : RunState) {s u : State} (h : u.psq = s.psq) :
    RunMoves s.psq (changeState st u).psq :=
  .of_outcome (h ▸ changeState_outcome st u)

theorem takeArm_moves (p : List Byte) (s : State) : RunMoves s.psq (takeArm p s).psq := by
  unfold takeArm
  split
  · split
    · exact .refl
    · exact changeState_moves .stopped rfl
  · exact .refl

theorem takeDisarm_moves (p : List Byte) (s : State) : RunMoves s.psq (takeDisarm p s).psq := by
  unfold takeDisarm
  split
  · exact changeState_moves .offline rfl
  · exact .refl

theorem startWeaving_moves (s : State) : RunMoves s.psq (startWeaving s).psq :=
  (changeState_moves .weaving (u := clearCauses s) rfl).trans
    (RunMoves.of_outcome (startSnapshot_outcome _))

theorem takeStart_moves (taken : CausesTaken) (p : List Byte) (s : State) :
    RunMoves s.psq (takeStart taken p s).psq := by
  unfold takeStart
  repeat' split
  · exact .refl
  · exact .refl
  · exact .refl
  · exact .refl
  · exact (takingOwn_moves startWeaving_moves s).trans (takeCauses_moves taken _)

theorem takeStopCommand_moves (taken : CausesTaken) (p : List Byte) (s : State) :
    RunMoves s.psq (takeStopCommand taken p s).psq := by
  unfold takeStopCommand
  split
  · exact (RunMoves.of_outcome (takeCause_outcome s (.stop .stopCommand))).trans (takeCauses_moves taken _)
  · exact .refl

theorem takeClear_moves (p : List Byte) (s : State) : RunMoves s.psq (takeClear p s).psq := by
  unfold takeClear
  repeat' split
  · exact .refl
  · exact .refl
  · exact .refl
  · exact changeState_moves .stopped (by simp)

theorem takeHome_psq (p : List Byte) (s : State) : (takeHome p s).psq = s.psq := by
  unfold takeHome startHoming
  dsimp only
  repeat' split
  all_goals simp

theorem takeSoftReset_psq (p : List Byte) (s : State) : (takeSoftReset p s).psq = Psq.hardReset := by
  simp [takeSoftReset, softResetBlocks]

/-- 02 R28: what a write keeps of the state, its answer keeps. -/
theorem checkedWrite_keeps {α : Type} (g : State → α) (ha : ∀ p r x t, g (answerTable p r x t) = g t) (p : List Byte)
    (ok : Bool) (checks : List FieldCheck) {write : State → State} (hw : ∀ t, g (write t) = g t) (s : State) :
    g (checkedWrite p ok checks write s) = g s := by
  unfold checkedWrite
  repeat' split
  · exact ha _ _ _ _
  · exact ha _ _ _ _
  · exact (ha _ _ _ _).trans (hw s)

theorem patternTable_moves (p : List Byte) (ok : Bool) (checks : List FieldCheck) {write : State → State}
    (hw : ∀ t, RunMoves t.psq (write t).psq) (s : State) : RunMoves s.psq (patternTable p ok checks write s).psq := by
  unfold patternTable checkedWrite
  repeat' split
  · exact .refl
  · exact .refl
  · exact (hw s).trans (RunMoves.of_eq (by simp [answerTable]))
  · exact .refl

theorem writeMachine_moves (m : MachineRecord) (s : State) : RunMoves s.psq (writeMachine m s).psq := by
  simp only [writeMachine, resetWarning]
  refine .single ?_
  repeat' split
  all_goals exact RunMove.warn s.psq _

theorem takeStep_moves (m : MachineRecord) (dir : Direction) (order : List Nat) (taken : CausesTaken) (s : State) :
    RunMoves s.psq (takeStep m dir order taken s).psq :=
  runOrder_moves (stepInfo m.counts s.stk.position dir) taken order (stepHandlings m s.run.state dir s.stk)
    { s with stk := s.stk.step m s.run.state dir }

/-- The state in which a quadrature line has changed its accepted level, before the step is counted (05 R88). -/
def lineChanged (line : EncLine) (elapsed : Nat) (l : Level) (s : State) : State :=
  { s with stk := (s.stk.elapse elapsed).setLine line (flipLevel l) }

/-- 05 R86 to R88: a change of one line is accepted with a machine record and the line acquired, and is a step once
both lines are acquired. -/
theorem lineChange_cases (line : EncLine) (elapsed : Nat) (order : List Nat) (taken : CausesTaken) (s : State) :
    lineChange line elapsed order taken s = s ∨
      ∃ m l, s.tbm.machine = some m ∧
        (lineChange line elapsed order taken s = lineChanged line elapsed l s ∨
          ∃ dir, lineChange line elapsed order taken s = takeStep m dir order taken (lineChanged line elapsed l s)) := by
  unfold lineChange
  split
  · rename_i m l hm _
    dsimp only
    split
    · exact .inr ⟨m, l, hm, .inr ⟨_, rfl⟩⟩
    · exact .inr ⟨m, l, hm, .inl rfl⟩
  · exact .inl rfl

theorem lineChange_moves (line : EncLine) (elapsed : Nat) (order : List Nat) (taken : CausesTaken) (s : State) :
    RunMoves s.psq (lineChange line elapsed order taken s).psq := by
  obtain h | ⟨m, l, _, h | ⟨dir, h⟩⟩ := lineChange_cases line elapsed order taken s
  · rw [h]
  · rw [h]
    exact .refl
  · rw [h]
    exact takeStep_moves m dir order taken (lineChanged line elapsed l s)

theorem illegalChange_psq (s : State) : (illegalChange s).psq = s.psq := by
  unfold illegalChange
  split <;> simp

theorem indexRise_psq (s : State) : (indexRise s).psq = s.psq := by
  unfold indexRise takeIndex homeAt indexPasses indexFails
  dsimp only
  repeat' split
  all_goals simp

theorem declareStandstill_moves (s : State) : RunMoves s.psq (declareStandstill s).psq := by
  unfold declareStandstill
  split
  · dsimp only
    split
    · exact changeState_moves .stopped (by simp)
    · exact .refl
  · exact .refl

theorem acquireSensor_outcome (x : Sensor) (l : Level) (s : State) : s.psq.OutcomeOnly (acquireSensor x l s).psq := by
  unfold acquireSensor
  repeat' split
  · exact .refl _
  · exact .refl _
  · exact feederBroken_outcome _ (setFeeder _ _ s)
  · exact .refl _
  · exact .refl _
  · exact .refl _

theorem arvRises_outcome (s : State) : s.psq.OutcomeOnly (arvRises s).psq := by
  unfold arvRises takeRise
  repeat' split
  · exact .refl _
  · exact .refl _
  · rename_i a _
    exact ⟨fun r => { r with arrival := some a }, fun _ => rfl, rfl⟩
  · exact .refl _
  · exact .refl _

theorem feederBreaks_outcome (f : FeederIdx) (s : State) : s.psq.OutcomeOnly (feederBreaks f s).psq := by
  unfold feederBreaks
  split
  · exact feederBroken_outcome f (setFeeder f .high s)
  · exact .refl _

theorem peakLimitEnds_outcome (dc : DriverIdx) (s : State) : s.psq.OutcomeOnly (peakLimitEnds dc s).psq := by
  unfold peakLimitEnds
  dsimp only
  split
  · exact driverFault_outcome dc .openLoad (setChannel dc { s.drv.channels[dc] with peakTimer := none } s)
  · exact .refl _

theorem deglitchEnds_outcome (dc : DriverIdx) (s : State) : s.psq.OutcomeOnly (deglitchEnds dc s).psq := by
  unfold deglitchEnds
  dsimp only
  split
  · exact driverFault_outcome dc .overcurrent (setChannel dc { s.drv.channels[dc] with deglitchTimer := none } s)
  · exact .refl _

/-- 02 R36: an accepted write of a live table leaves the run alone. -/
theorem liveWrite_psq (p : List Byte) (ok : Bool) (checks : List FieldCheck) {write : State → State}
    (hw : ∀ t, (write t).psq = t.psq) (s : State) : (checkedWrite p ok checks write s).psq = s.psq :=
  checkedWrite_keeps State.psq (fun _ _ _ _ => rfl) p ok checks hw s

theorem takeTableSections_moves (p : List Byte) (s : State) : RunMoves s.psq (takeTableSections p s).psq :=
  patternTable_moves p _ _ (write := writeSection (tableIndex p) (sectionOf p)) (fun _ => .refl) s

theorem takeTableEffects_moves (p : List Byte) (s : State) : RunMoves s.psq (takeTableEffects p s).psq :=
  patternTable_moves p _ _ (write := writeEffect (tableIndex p) (effectOf p)) (fun _ => .refl) s

theorem takeTableWeaves_moves (p : List Byte) (s : State) : RunMoves s.psq (takeTableWeaves p s).psq :=
  patternTable_moves p _ _ (write := writeWeave (tableIndex p) (weaveOf p)) (fun _ => .refl) s

theorem takeTableProfiles_psq (p : List Byte) (s : State) : (takeTableProfiles p s).psq = s.psq :=
  liveWrite_psq p _ _ (write := writeProfile (tableIndex p) (profileOf p)) (fun _ => rfl) s

theorem takeTableWefts_psq (p : List Byte) (s : State) : (takeTableWefts p s).psq = s.psq :=
  liveWrite_psq p _ _ (write := writeWeft (tableIndex p) (weftOf p)) (fun _ => rfl) s

theorem takeTableDrivers_psq (p : List Byte) (s : State) : (takeTableDrivers p s).psq = s.psq :=
  liveWrite_psq p _ _ (write := writeDriver (tableIndex p) (driverOf p)) (fun _ => rfl) s

/-- The run has come from `p` by moves: no matter of the link. -/
theorem runMoves_loomOnly (p : Psq) : LoomOnly fun s => RunMoves p s.psq :=
  fun _ _ _ hp _ _ _ _ _ _ _ h => h.trans (RunMoves.of_eq hp)

theorem takeFrame_moves (row : FrameRow) {eff : List Byte → State → State}
    (he : ∀ p s, RunMoves s.psq (eff p s).psq) (s : State) : RunMoves s.psq (takeFrame row eff s).psq :=
  (runMoves_loomOnly s.psq).takeFrame (fun p t h => h.trans (he p t)) row .refl

/-- A command's effect moves the run by its moves. -/
theorem commandEffect_moves (c : Instr) (s : State) : RunMoves s.psq (commandEffect c s).psq := by
  cases c with
  | pickFrame => exact takeFrame_moves .pick takePick_moves s
  | tableMachine =>
    exact takeFrame_moves (.table .machine)
      (fun p t => patternTable_moves p _ _ (writeMachine_moves (machineRecordOf p)) t) s
  | tableSections => exact takeFrame_moves (.table .sections) takeTableSections_moves s
  | tableEffects => exact takeFrame_moves (.table .effects) takeTableEffects_moves s
  | tableWeaves => exact takeFrame_moves (.table .weaves) takeTableWeaves_moves s
  | tableProfiles => exact takeFrame_moves (.table .profiles) (fun p t => .of_eq (takeTableProfiles_psq p t)) s
  | tableWefts => exact takeFrame_moves (.table .wefts) (fun p t => .of_eq (takeTableWefts_psq p t)) s
  | tableDrivers => exact takeFrame_moves (.table .drivers) (fun p t => .of_eq (takeTableDrivers_psq p t)) s
  | arm => exact takeFrame_moves .arm takeArm_moves s
  | disarm => exact takeFrame_moves .disarm takeDisarm_moves s
  | start taken => exact takeFrame_moves .start (takeStart_moves taken) s
  | stop taken => exact takeFrame_moves .stop (takeStopCommand_moves taken) s
  | clear => exact takeFrame_moves .clear takeClear_moves s
  | flush => exact takeFrame_moves .flush takeFlush_moves s
  | home => exact takeFrame_moves .home (fun p t => .of_eq (takeHome_psq p t)) s
  | softReset => exact takeFrame_moves .softReset (fun p t => takeSoftReset_psq p t ▸ .single (.reset _)) s
  | encoderLevelAcquired input level =>
    refine .of_eq ?_
    simp only [commandEffect, acquireLevel]
    split <;> rfl
  | encoderStep line elapsed order taken =>
    exact (lineChange_moves line elapsed order taken s).trans (takeCauses_moves taken _)
  | illegalTransition taken => exact (RunMoves.of_eq (illegalChange_psq s)).trans (takeCauses_moves taken _)
  | indexPulse taken => exact (RunMoves.of_eq (indexRise_psq s)).trans (takeCauses_moves taken _)
  | standstill => exact declareStandstill_moves s
  | sensorLevelAcquired x l taken => exact (RunMoves.of_outcome (acquireSensor_outcome x l s)).trans (takeCauses_moves taken _)
  | arvRise => exact .of_outcome (arvRises_outcome s)
  | feederBreak f taken => exact (RunMoves.of_outcome (feederBreaks_outcome f s)).trans (takeCauses_moves taken _)
  | peakTimeLimitEnd dc taken =>
    exact (RunMoves.of_outcome (peakLimitEnds_outcome dc s)).trans (takeCauses_moves taken _)
  | deglitchEnd dc taken => exact (RunMoves.of_outcome (deglitchEnds_outcome dc s)).trans (takeCauses_moves taken _)
  | endOfChecking k taken => exact (RunMoves.of_eq (closeChecking_samePick k s).psq).trans (takeCauses_moves taken _)
  | enczFall =>
    refine .of_eq ?_
    simp only [commandEffect, indexFall]
    split <;> rfl
  | _ => exact .of_eq (bystander_samePick _ rfl s).psq

/-- A property of the run that every move keeps, and that holds after reset, every step keeps. -/
theorem step_keepsRun {I : Psq → Prop} (hreset : I Psq.hardReset) (hmove : ∀ p q, RunMove p q → I p → I q)
    {s t : State} (h : I s.psq) (hs : step s = .next t) : I t.psq := by
  have hmoves : ∀ p q, RunMoves p q → I p → I q := by
    intro p q hpq hp
    induction hpq with
    | refl => exact hp
    | tail _ hstep ih => exact hmove _ _ hstep ih
  have hl : LoomOnly fun x => I x.psq := by
    intro u v _ hp _ _ _ _ _ _ _ hu
    exact hmoves _ _ (.of_eq hp) hu
  exact hl.step (P := fun x => I x.psq) hreset (fun c u hu => hmoves _ _ (commandEffect_moves c u) hu)
    (fun u c hu => hmoves _ _ (.of_outcome (takeCause_outcome u c)) hu) h hs

end Sys2Proof.Machine

/-! ## The order and the bounds of the run -/

namespace Sys2Proof.Machine

/-! ### The order -/

/-- The ordinals of the run, and after them the expected one (01 R8). -/
def Psq.ordinals (p : Psq) : List Ordinal := p.runRecords.map PickRecord.ordinal ++ [p.expected]

theorem consecutive_iff (l : List Ordinal) : consecutive l = true ↔ l.IsChain fun a b => b = a + 1 := by
  induction l with
  | nil => simp [consecutive]
  | cons a l ih =>
    cases l with
    | nil => simp [consecutive]
    | cons b l => simp [consecutive, ih]

/-- The run is in order exactly when its ordinals and the expected one after them are consecutive. -/
theorem inOrder_iff (p : Psq) : p.inOrder = true ↔ p.ordinals.IsChain fun a b => b = a + 1 := by
  unfold Psq.inOrder Psq.ordinals
  rw [Bool.and_eq_true, consecutive_iff, List.isChain_append]
  refine and_congr_right fun _ => ?_
  cases h : p.runRecords.getLast? with
  | none => simp [h]
  | some r => simp [h]

theorem filled_runRecords (p : Psq) : p.filled.runRecords = p.runRecords := by
  have h := filled_ahead p
  simp only [Psq.runRecords, filled_behind, List.append_assoc] at h ⊢
  rw [h]

theorem enterHistory_ordinal (r : PickRecord) : r.enterHistory.ordinal = r.ordinal := rfl

theorem unwound_ordinal (r : PickRecord) : r.unwound.ordinal = r.ordinal := rfl

/-- A promotion takes the oldest record away at most. -/
theorem promoted_ordinals (p : Psq) : p.promoted.ordinals <:+ p.ordinals := by
  have htrim : trimHistory p.history <:+ p.history := by
    unfold trimHistory
    split
    · exact List.drop_suffix _ _
    · exact List.suffix_refl _
  obtain ⟨l, hl⟩ := htrim
  unfold Psq.ordinals Psq.promoted
  rw [filled_runRecords]
  cases hc : p.current with
  | none =>
    exact ⟨[], by simp [Psq.runRecords, Psq.retired, hc]⟩
  | some r =>
    have hm : l.map PickRecord.ordinal ++ (trimHistory p.history).map PickRecord.ordinal =
        p.history.map PickRecord.ordinal := by rw [← List.map_append, hl]
    exact ⟨l.map PickRecord.ordinal, by simp [Psq.runRecords, Psq.retired, hc, ← hm, enterHistory_ordinal]⟩

theorem unwound_ordinals (p : Psq) (newest : PickRecord) (h : p.history.getLast? = some newest) :
    (p.unwound newest).ordinals = p.ordinals := by
  have hsplit : p.history = p.history.dropLast ++ [newest] := (List.dropLast_append_getLast? newest h).symm
  have hcur : (p.current.map PickRecord.unwound).toList.map PickRecord.ordinal =
      p.current.toList.map PickRecord.ordinal := by
    cases p.current <;> simp [unwound_ordinal]
  unfold Psq.ordinals Psq.runRecords Psq.unwound
  rw [hsplit]
  simp [hcur]

theorem accepted_ordinals (p : Psq) (r : PickRecord) (h : r.ordinal = p.expected) :
    (p.accepted r).ordinals = p.ordinals ++ [p.expected + 1] := by
  unfold Psq.accepted
  split
  · rename_i he
    obtain ⟨hn, hr, hq⟩ := he
    simp [Psq.ordinals, Psq.runRecords, hn, hr, hq, h]
  · simp [Psq.ordinals, Psq.runRecords, h]

theorem outcome_ordinals {p q : Psq} (h : p.OutcomeOnly q) : q.ordinals = p.ordinals := by
  obtain ⟨f, hf, rfl⟩ := h
  cases hc : p.current <;> simp [Psq.ordinals, Psq.runRecords, hc, hf]

/-- FLUSH keeps a first part of the run. -/
theorem afterFlush_runRecords (p : Psq) (keepNext : Bool) : (p.afterFlush keepNext).runRecords <+: p.runRecords := by
  cases keepNext with
  | true => exact ⟨p.replay ++ p.queue, by simp [Psq.runRecords, Psq.afterFlush]⟩
  | false => exact ⟨p.nextPick.toList ++ p.replay ++ p.queue, by simp [Psq.runRecords, Psq.afterFlush]⟩

theorem flushedTo_inOrder (p : Psq) (keepNext : Bool) (arg : Ordinal) (h : p.inOrder = true) :
    (p.flushedTo keepNext arg).inOrder = true := by
  rw [inOrder_iff, Psq.ordinals] at h
  obtain ⟨taken, htaken⟩ := afterFlush_runRecords p keepNext
  rw [← htaken, List.map_append] at h
  have hkept := h.left_of_append.left_of_append
  have hrun : (p.flushedTo keepNext arg).runRecords = (p.afterFlush keepNext).runRecords := rfl
  have hexp : (p.flushedTo keepNext arg).expected = expectedAfterFlush (p.afterFlush keepNext) arg := rfl
  unfold Psq.inOrder
  rw [Bool.and_eq_true, consecutive_iff, hrun, hexp]
  refine ⟨hkept, ?_⟩
  unfold expectedAfterFlush
  cases (p.afterFlush keepNext).runRecords.getLast? <;> simp

/-- 01 R8: every move of the run keeps it in order. -/
theorem runMove_inOrder (p q : Psq) (h : RunMove p q) (hp : p.inOrder = true) : q.inOrder = true := by
  cases h with
  | flush keepNext arg => exact flushedTo_inOrder p keepNext arg hp
  | reset => rfl
  | warn w => exact hp
  | catchUp => exact hp
  | dwell n => exact hp
  | fallBehind => exact hp
  | outcome h =>
    rw [inOrder_iff] at hp ⊢
    rwa [outcome_ordinals h]
  | promote =>
    rw [inOrder_iff] at hp ⊢
    exact hp.suffix (promoted_ordinals p)
  | unwind newest h =>
    rw [inOrder_iff] at hp ⊢
    rwa [unwound_ordinals p newest h]
  | accept r ho =>
    rw [inOrder_iff] at hp ⊢
    rw [accepted_ordinals p r ho, List.isChain_append]
    exact ⟨hp, by simp, by simp [Psq.ordinals]⟩

/-- Settles O48: each move of the run keeps its ordinals, takes some from either end, or adds the expected one. -/
theorem pickRunStaysInOrder : Obligations.PickRunStaysInOrder := by
  intro s t h hs
  exact step_keepsRun (I := fun p => p.inOrder = true) rfl runMove_inOrder h hs

/-! ### The bounds -/

/-- The bounds of the run, one by one. -/
theorem bounded_iff (p : Psq) :
    p.bounded = true ↔
      p.history.length + p.replay.length ≤ 16 ∧ p.queue.length ≤ 32 ∧ p.depth ≤ 255 ∧
      (p.depth = 0 ∨ p.history = []) ∧ (p.current.isSome = true ∨ p.history = []) ∧
      (p.nextPick.isSome = true ∨ (p.replay = [] ∧ p.queue = [])) := by
  have hcap : Config.historyCapacity = 16 ∧ Config.pqCapacity = 32 := ⟨rfl, rfl⟩
  simp only [Psq.bounded, Bool.and_eq_true, Bool.or_eq_true, decide_eq_true_eq, List.isEmpty_iff, and_assoc, hcap]

/-- A fill moves a record of RL or PQ to NEXT, or leaves nothing ahead. -/
theorem filled_lengths (p : Psq) (h : p.nextPick = none) :
    p.filled.replay.length = p.replay.length - 1 ∧ p.filled.queue.length ≤ p.queue.length := by
  unfold Psq.filled
  cases hr : p.replay with
  | cons r rest => simp [h]
  | nil => cases hq : p.queue <;> simp [h, hr, hq]

theorem retired_history_length (p : Psq) (h : p.history.length + p.replay.length ≤ 16) :
    p.retired.history.length + (p.replay.length - 1) ≤ 16 := by
  unfold Psq.retired
  split
  · omega
  · have ht : (trimHistory p.history).length ≤ 15 := trimHistory_length _ (by omega)
    have hl : (trimHistory p.history).length ≤ p.history.length := by
      unfold trimHistory
      split <;> simp
    simp only [List.length_append, List.length_singleton]
    omega

theorem promoted_bounded (p : Psq) (hd : p.depth = 0) (hn : p.nextPick.isSome = true) (h : p.bounded = true) :
    p.promoted.bounded = true := by
  rw [bounded_iff] at h ⊢
  obtain ⟨hlen, hq, _, _, _, _⟩ := h
  obtain ⟨hreplay, hqueue⟩ := filled_lengths { p.retired with current := p.retired.nextPick, nextPick := none } rfl
  have hnext := filled_empty { p.retired with current := p.retired.nextPick, nextPick := none }
  have hhist := retired_history_length p hlen
  simp only [retired_ahead] at hreplay hqueue
  refine ⟨?_, ?_, ?_, ?_, ?_, ?_⟩
  · simp only [Psq.promoted, filled_behind, hreplay, retired_ahead]
    exact hhist
  · simp only [Psq.promoted, retired_ahead]
    omega
  · simp [Psq.promoted, hd]
  · simp [Psq.promoted, hd]
  · simp [Psq.promoted, hn]
  · cases hf : p.promoted.nextPick with
    | some r => exact .inl rfl
    | none => exact .inr (hnext hf)

theorem unwound_bounded (p : Psq) (newest : PickRecord) (hl : p.history.getLast? = some newest)
    (h : p.bounded = true) : (p.unwound newest).bounded = true := by
  rw [bounded_iff] at h ⊢
  obtain ⟨hlen, hq, hd, hdepth, hcur, hnext⟩ := h
  have hne : p.history ≠ [] := fun he => by simp [he] at hl
  have hpos : 0 < p.history.length := List.length_pos_iff.mpr hne
  have htl : p.nextPick.toList.length ≤ 1 := by cases p.nextPick <;> simp
  simp only [Psq.unwound, List.length_dropLast, List.length_append, Option.isSome_map]
  refine ⟨by omega, hq, hd, .inl (hdepth.resolve_right hne), .inl rfl, .inl (hcur.resolve_right hne)⟩

theorem accepted_bounded (p : Psq) (r : PickRecord) (hq : p.queue.length < 32) (h : p.bounded = true) :
    (p.accepted r).bounded = true := by
  rw [bounded_iff] at h ⊢
  obtain ⟨hlen, _, hd, hdepth, hcur, hnext⟩ := h
  unfold Psq.accepted
  split
  · exact ⟨hlen, hq.le, hd, hdepth, hcur, .inl rfl⟩
  · rename_i hfull
    have hsome : p.nextPick.isSome = true := by
      rcases hnext with hs | ⟨hr, hq⟩
      · exact hs
      · cases hn : p.nextPick with
        | some _ => rfl
        | none => exact absurd ⟨hn, hr, hq⟩ hfull
    exact ⟨hlen, by simp only [List.length_append, List.length_singleton]; omega, hd, hdepth, hcur, .inl hsome⟩

theorem satInc_le {n k : Nat} (h : k ≤ n) : satInc n k ≤ n := by
  unfold satInc
  split <;> omega

/-- 01 R9: every move of the run keeps it in its bounds. -/
theorem runMove_bounded (p q : Psq) (h : RunMove p q) (hp : p.bounded = true) : q.bounded = true := by
  cases h with
  | promote hd hn => exact promoted_bounded p hd hn hp
  | unwind newest h => exact unwound_bounded p newest h hp
  | accept r _ hq => exact accepted_bounded p r hq hp
  | reset => rfl
  | warn w => exact hp
  | dwell n => exact hp
  | outcome h =>
    obtain ⟨f, _, rfl⟩ := h
    simpa [bounded_iff] using hp
  | catchUp h =>
    rw [bounded_iff] at hp ⊢
    obtain ⟨hlen, hq, hd, hdepth, hrest⟩ := hp
    exact ⟨hlen, hq, by dsimp only; omega, .inr (hdepth.resolve_left (by omega)), hrest⟩
  | fallBehind h =>
    rw [bounded_iff] at hp ⊢
    obtain ⟨hlen, hq, hd, _, hrest⟩ := hp
    exact ⟨hlen, hq, satInc_le hd, .inr h, hrest⟩
  | flush keepNext arg =>
    rw [bounded_iff] at hp ⊢
    obtain ⟨hlen, _, hd, hdepth, hcur, _⟩ := hp
    exact ⟨by simp only [Psq.flushedTo, Psq.afterFlush, List.length_nil]; omega, by simp [Psq.flushedTo, Psq.afterFlush],
      hd, hdepth, hcur, .inr ⟨rfl, rfl⟩⟩

/-- Settles O49: each move of the run keeps its bounds. -/
theorem pickRunStaysBounded : Obligations.PickRunStaysBounded := by
  intro s t h hs
  exact step_keepsRun (I := fun p => p.bounded = true) rfl runMove_bounded h hs

end Sys2Proof.Machine

/-! ## A pick whose closing is handed before its opening

`State.windowSound` asks nothing of the opening once the closing is handed. A state may so hold an armed part whose
closing is handed and whose opening is not; the next forward step over the window open angle then opens the window
(06 R116) of a pick that is judged already, which `State.windowSound` excludes. -/

namespace Sys2Proof.Machine

/-- A machine record with 720 counts. -/
def coarseMachine : MachineRecord :=
  { modules := #v[1, 0, 0, 0], width := 8, counts := 720, offset := 0, latchAngle := 3300, hookLatency := 0
    armLimit := 300, standstillMs := 250, filter := 4, indexTolerance := 4, reverseTolerance := 8, lowWater := 0
    chainMode := .report, encoderMode := .halt }

/-- A pick that is INSERTED. -/
def insertedPick : PickRecord :=
  { ordinal := 0, row := 0, weft := 1, profile := 0, effects := [], state := .inserted, weaveCount := 0
    arrival := none, revTime := none, cause := none, clipped := false }

/-- An armed part whose closing, at 200.0 degrees, is handed, and whose opening, at 100.0 degrees, is not. -/
def closedUnopenedPart : ArmedPart :=
  { ordinal := 0, weft := { enabled := true, selector := 0, feeder := none }, actions := [], copies := []
    windowOpen := 1000, openHanded := false, windowClose := 2000, closeHanded := true, clipped := false }

/-- A WEAVING part with that armed part, HOMED one count below 100.0 degrees. -/
def closedUnopened : State :=
  { State.reset with
    resetLine := .high
    tbm := { Tbm.hardReset with machine := some coarseMachine }
    psq := { Psq.hardReset with current := some insertedPick }
    stk := { Stk.hardReset with homing := .homed, position := 199, encA := some .low, encB := some .low }
    asc := { snapshot := some { entry := .forward, hookAdvance := 0, latchAngle := 3300, armed := some closedUnopenedPart } }
    run := { Run.hardReset with state := .weaving, permit := true } }

/-- The step to come: one count forward, to 100.0 degrees. -/
def closedUnopenedQueued : State := { closedUnopened with pending := [.encoderStep .encA 0 []] }

/-- The state after that step. -/
def closedUnopenedStepped : State :=
  kickTransmitter (takeCauses .every (lineChange .encA 0 [] .every closedUnopened))

theorem step_closedUnopened : step closedUnopenedQueued = .next closedUnopenedStepped :=
  causing_high .every (lineChange .encA 0 [] .every) closedUnopened rfl

/-- Refutes O50: the step opens the window of a pick whose closing is handed. -/
theorem not_recordsStayPlaced : ¬ Obligations.RecordsStayPlaced := by
  intro h
  have hbefore : closedUnopenedQueued.psq.placed = true ∧ closedUnopenedQueued.onScale = true ∧
      closedUnopenedQueued.insertionSound = true := by decide +kernel
  have hafter : closedUnopenedStepped.insertionSound = false := by decide +kernel
  obtain ⟨_, _, hsound⟩ := h closedUnopenedQueued closedUnopenedStepped hbefore step_closedUnopened
  exact Bool.eq_false_iff.mp hafter hsound

end Sys2Proof.Machine

/-! ## Resets, pick frames and queries -/

namespace Sys2Proof.Machine

/-! ### The head frame taken -/

/-- The state in which a command begins whose frame is taken: the lines idle, the frames behind it left (10 R181). -/
def headTaken (rest : List RxFrame) (s : State) : State := { s with lineOut := [], dlp := { s.dlp with held := rest } }

@[simp] theorem headTaken_frame (rest : List RxFrame) (s : State) :
    (headTaken rest s).pending = s.pending ∧ (headTaken rest s).resetLine = s.resetLine ∧
    (headTaken rest s).lineOut = [] ∧ (headTaken rest s).dlp = { s.dlp with held := rest } ∧
    (headTaken rest s).tbm = s.tbm ∧ (headTaken rest s).psq = s.psq ∧ (headTaken rest s).shb = s.shb ∧
    (headTaken rest s).hci = s.hci ∧ (headTaken rest s).stk = s.stk ∧ (headTaken rest s).asc = s.asc ∧
    (headTaken rest s).wfm = s.wfm ∧ (headTaken rest s).drv = s.drv ∧ (headTaken rest s).run = s.run :=
  ⟨rfl, rfl, rfl, rfl, rfl, rfl, rfl, rfl, rfl, rfl, rfl, rfl, rfl⟩

/-- A command that takes a frame has the effect of its row on the state with the head taken. -/
theorem taking_headTaken {row : FrameRow} {p : List Byte} {rest : List RxFrame} {s : State} (h : Taking row p rest s)
    (eff : List Byte → State → State) :
    command (takeFrame row eff) s = .next (kickTransmitter (eff p (headTaken rest s))) :=
  taking_next h eff

/-! ### The resets -/

theorem exec_hardReset (s : State) : exec .hardReset s = .next { State.reset with pending := s.pending } := rfl

/-- Settles O4: every block of `State.reset` is at its hard-reset values. -/
theorem hardResetValues : Obligations.HardResetValues := by
  intro s
  refine ⟨_, exec_hardReset s, ?_⟩
  simp [State.reset, Dlp.hardReset, Tbm.hardReset, Psq.hardReset, Shb.hardReset, Hci.hardReset, Stk.hardReset,
    Asc.hardReset, Wfm.hardReset, Drv.hardReset, Run.hardReset, DriverChannel.fresh]

/-- Aborting a shift leaves the entries of every chain. -/
theorem abortChain_entries (s : State) (k j : ChainIdx) :
    ((abortChain s k).hci.chains[j]).entries = (s.hci.chains[j]).entries := by
  have hset : ∀ ph : ChainPhase,
      ((s.hci.chains.set k.val { s.hci.chains[k] with phase := ph })[j]).entries = (s.hci.chains[j]).entries := by
    intro ph
    by_cases hkj : k.val = j.val
    · cases Fin.ext hkj
      simp
    · simp [hkj]
  unfold abortChain
  dsimp only
  split
  · exact hset _
  · exact hset _
  · rfl
  · rfl

theorem abortShifts_entries (s : State) (j : ChainIdx) :
    ((abortShifts s).hci.chains[j]).entries = (s.hci.chains[j]).entries := by
  unfold abortShifts
  exact foldl_keeps (fun x : State => (x.hci.chains[j]).entries) _ (fun s k => abortChain_entries s k j) _ _

/-- SOFT_RESET block by block: the tables and the tracker are kept, every other block takes its values. -/
@[simp] theorem softResetBlocks_blocks (s : State) :
    (softResetBlocks s).pending = s.pending ∧ (softResetBlocks s).resetLine = s.resetLine ∧
    (softResetBlocks s).tbm = s.tbm ∧ (softResetBlocks s).stk = s.stk ∧ (softResetBlocks s).dlp = s.dlp.softReset ∧
    (softResetBlocks s).psq = Psq.hardReset ∧ (softResetBlocks s).shb = Shb.hardReset ∧
    (softResetBlocks s).asc = Asc.hardReset ∧ (softResetBlocks s).wfm = s.wfm.softReset ∧
    (softResetBlocks s).drv = Drv.hardReset ∧ (softResetBlocks s).run = Run.hardReset ∧
    (softResetBlocks s).hci.tag = Hci.hardReset.tag ∧ (softResetBlocks s).hci.required = none := by
  simp [softResetBlocks, Hci.hardReset]

theorem softResetBlocks_chain (s : State) (k : ChainIdx) :
    ((softResetBlocks s).hci.chains[k]).phase = .idle ∧ ((softResetBlocks s).hci.chains[k]).lengthFlag = false ∧
      ((softResetBlocks s).hci.chains[k]).entries = (s.hci.chains[k]).entries.map fun _ => ModuleEntry.fresh := by
  have he := congrArg (List.map fun _ => ModuleEntry.fresh) (abortShifts_entries s k)
  refine ⟨by simp [softResetBlocks, Chain.softReset], by simp [softResetBlocks, Chain.softReset], ?_⟩
  simpa [softResetBlocks, Chain.softReset] using he

/-- The DLP's SOFT_RESET values with the answer in the slot: RUN_STATE is the first record of the emptied queue. -/
theorem softReset_post (d : Dlp) (a : Answer) (e : Event) :
    ({ d.softReset with answer := some a } : Dlp).post e =
      { Dlp.hardReset with
        answer := some a, events := [e]
        transmitter := d.transmitter.map fun f => { f with beforeReset := true } } := rfl

/-- Settles O22: the blocks take their SOFT_RESET values, the answer stands in the slot and RUN_STATE is the first
record of the emptied queue. -/
theorem softResetKeepsTablesAndShaft : Obligations.SoftResetKeepsTablesAndShaft := by
  intro s p rest htake
  refine ⟨_, taking_headTaken htake takeSoftReset, ?_⟩
  simp only [kickTransmitter_frame, takeSoftReset, postRunState_frame, answerCommand_frame, softResetBlocks_blocks,
    headTaken_frame, true_and]
  refine ⟨rfl, rfl, softResetBlocks_chain (headTaken rest s), linkLeft_of ?_⟩
  simp only [postRunState, post_dlp, answerCommand, setAnswer_dlp, setAnswer_frame, softResetBlocks_blocks,
    headTaken_frame]
  exact softReset_post _ _ _

/-! ### Pick frames -/

theorem acceptsPicks_iff (st : RunState) : st.acceptsPicks = true ↔ st ≠ .offline := by
  cases st <;> simp [RunState.acceptsPicks]

/-- What an acceptance leaves as it was. -/
theorem acceptPick_frame (r : PickRecord) (s : State) :
    (acceptPick r s).pending = s.pending ∧ (acceptPick r s).resetLine = s.resetLine ∧
    (acceptPick r s).dlp = s.dlp ∧ (acceptPick r s).tbm = s.tbm ∧ (acceptPick r s).stk = s.stk ∧
    (acceptPick r s).asc = s.asc ∧ (acceptPick r s).wfm = s.wfm ∧ (acceptPick r s).drv = s.drv ∧
    (acceptPick r s).run = s.run := by
  refine ⟨?_, ?_, ?_, ?_, ?_, ?_, ?_, ?_, ?_⟩ <;> (simp only [acceptPick]; split <;> simp)

/-- An acceptance at the PQ tail is no matter of the shed. -/
theorem acceptPick_shed (r : PickRecord) (s : State)
    (h : ¬(s.psq.nextPick = none ∧ s.psq.replay = [] ∧ s.psq.queue = [])) :
    (acceptPick r s).shb = s.shb ∧ (acceptPick r s).hci = s.hci := by
  simp [acceptPick, h]

/-- 01 R10: a frame that passes every check is accepted. -/
theorem takePick_accepts {p : List Byte} {s : State} {m : MachineRecord} (hr : s.run.state ≠ .offline)
    (hm : s.tbm.machine = some m) (hf : pickWellFormed m.width p = true) (ho : pickOrdinal p = s.psq.expected)
    (hq : s.psq.queue.length < 32) : takePick p s = acceptPick (pickRecord m.width p) s := by
  have hq' : ¬Config.pqCapacity ≤ s.psq.queue.length := Nat.not_le_of_lt hq
  unfold takePick
  rw [if_pos ((acceptsPicks_iff _).mpr hr), hm]
  simp [hf, ho, hq']

/-- Settles O9: the frame passes every check of R10, and the record accepted enters the run. -/
theorem pickFrameAccepted : Obligations.PickFrameAccepted := by
  intro s p rest m htake hrun hm hlen hweft hprof ho hq
  have hformed : pickWellFormed m.width p = true := by simp [pickWellFormed, hlen, hweft, hprof]
  have he := takePick_accepts (s := headTaken rest s) hrun hm hformed ho hq
  have hnext := taking_headTaken htake takePick
  rw [he] at hnext
  have hmark : (headTaken rest s).lowWaterMark = m.lowWater := by simp [State.lowWaterMark, hm]
  refine ⟨_, hnext, ?_, linkLeft_of ?_, fun hempty => ?_, fun hfull => ?_⟩
  · simp [ChangedOnly, acceptPick_frame]
  · simp [acceptPick_frame]
  · simp [acceptPick_psq, Psq.accepted, hempty]
  · obtain ⟨hshb, hhci⟩ :=
      acceptPick_shed (pickRecord m.width p) (headTaken rest s) hfull
    refine ⟨by simpa using hshb, by simpa using hhci, ?_⟩
    have hwarn : (¬(s.psq.nextPick = none ∧ s.psq.replay = [] ∧ s.psq.queue = []) ∧
        0 < m.lowWater ∧ m.lowWater ≤ (headTaken rest s).heldAhead + 1) ↔
        (0 < m.lowWater ∧ m.lowWater ≤ s.heldAhead + 1) := and_iff_right hfull
    simp only [kickTransmitter_frame, acceptPick_psq, hmark, Psq.accepted, headTaken_frame, if_neg hfull, hwarn]

/-- 01 R10: the first check that fails names the cause. -/
theorem takePick_refuses {p : List Byte} {s : State} {cause : RefusalCause}
    (h : (cause = .state ∧ s.run.state = .offline) ∨
      (cause = .format ∧ s.run.state ≠ .offline ∧
        ¬∃ m, s.tbm.machine = some m ∧ pickWellFormed m.width p = true) ∨
      (cause = .sequence ∧ s.run.state ≠ .offline ∧
        (∃ m, s.tbm.machine = some m ∧ pickWellFormed m.width p = true) ∧ pickOrdinal p ≠ s.psq.expected) ∨
      (cause = .full ∧ s.run.state ≠ .offline ∧
        (∃ m, s.tbm.machine = some m ∧ pickWellFormed m.width p = true) ∧ pickOrdinal p = s.psq.expected ∧
        32 ≤ s.psq.queue.length)) :
    takePick p s = refusePick cause p s := by
  unfold takePick
  rcases h with ⟨rfl, hr⟩ | ⟨rfl, hr, hf⟩ | ⟨rfl, hr, ⟨m, hm, hf⟩, ho⟩ | ⟨rfl, hr, ⟨m, hm, hf⟩, ho, hq⟩
  · simp [hr, RunState.acceptsPicks]
  · rw [if_pos ((acceptsPicks_iff _).mpr hr)]
    split
    · rfl
    · rename_i m hm
      have hbad : pickWellFormed m.width p = false := Bool.eq_false_iff.mpr fun hw => hf ⟨m, hm, hw⟩
      simp [hbad]
  · rw [if_pos ((acceptsPicks_iff _).mpr hr), hm]
    simp [hf, ho]
  · have hq' : Config.pqCapacity ≤ s.psq.queue.length := hq
    rw [if_pos ((acceptsPicks_iff _).mpr hr), hm]
    simp [hf, ho, hq']

/-- Settles O10: the frame is taken, and the first check that fails posts PICK_REFUSED alone. -/
theorem pickFrameRefused : Obligations.PickFrameRefused := by
  intro s p rest cause formed htake hcause
  have he := takePick_refuses (s := headTaken rest s) hcause
  have hnext := taking_headTaken htake takePick
  rw [he] at hnext
  refine ⟨_, hnext, ?_, linkLeft_of ?_⟩
  · simp [ChangedOnly, refusePick]
  · simp [refusePick]

end Sys2Proof.Machine

namespace Sys2Proof.Machine

/-! ### Queries -/

/-- A QUERY is answered OK with its selector and its content, and nothing else changes. -/
theorem answered_query {row : FrameRow} {p : List Byte} {rest : List RxFrame} {s : State} {c : Instr} {selector : Nat}
    {content : State → List Byte} {data : List Byte} (h : Taking row p rest s)
    (he : exec c s = command (takeFrame row fun _ t => answerQuery selector (content t) t) s)
    (hd : enc8 selector ++ content (headTaken rest s) = data) : Answered c (commandAnswer 9 .ok data) rest s :=
  answered_of h _ he (by subst hd; rfl)

/-- QUERY_MODULES for a chain number within 0 to 3 (04 R84). -/
theorem answered_queryModules {p : List Byte} {rest : List RxFrame} {s : State} {k : ChainIdx} {data : List Byte}
    (h : Taking .queryModules p rest s) (hk : byteAt p 2 = k.val)
    (hd : enc8 4 ++ modulesContent (headTaken rest s) k = data) :
    Answered .queryModules (commandAnswer 9 .ok data) rest s := by
  have hle : byteAt p 2 ≤ 3 := by omega
  have hfin : Fin.ofNat 4 (byteAt p 2) = k := by
    rw [hk]
    exact Fin.ext (Nat.mod_eq_of_lt k.isLt)
  refine answered_of h takeQueryModules rfl ?_
  simp only [takeQueryModules, if_pos hle, hfin]
  subst hd
  rfl

/-- Two contents agree where their first parts and their rests do. -/
theorem append_congr {a b c d : List Byte} (h1 : a = c) (h2 : b = d) : a ++ b = c ++ d := h1 ▸ h2 ▸ rfl

theorem moduleFlags_code (f : ModuleFlags) :
    f.code = (if f.supplyLow then 1 else 0) + (if f.overtemp then 2 else 0) + (if f.magnetOpen then 4 else 0) := by
  obtain ⟨low, hot, op⟩ := f
  cases low <;> cases hot <;> cases op <;> rfl

/-- Settles O23: each content is spelled part by part. -/
theorem queriesAnswerAndChangeNothing : Obligations.QueriesAnswerAndChangeNothing := by
  refine ⟨?_, rfl, rfl, rfl, rfl, rfl, rfl, rfl, rfl, rfl, rfl, rfl, rfl, fun _ => rfl, fun _ _ => rfl, fun _ => rfl, rfl⟩
  intro s p rest ok channel level outcome action armed snapshot
  have hlevel : (fun l => enc8 (levelCode l)) = level := by
    funext l
    rcases l with _ | _ | _ <;> rfl
  have hlevel' : ∀ l, enc8 (levelCode l) = level l := congrFun hlevel
  refine ⟨fun h => ?_, fun h => ?_, fun h => ?_, fun k h hk => ?_, fun h => ?_, fun h => answered_query h rfl rfl⟩
  · have haction : encArmedAction = action := by
      funext x
      simp only [encArmedAction, action]
      cases x.switching <;> rfl
    have harmed : encArmedPart = armed := by
      funext a
      simp only [encArmedPart, haction]
      rfl
    have hsnapshot : encSnapshot = snapshot := by
      funext x
      simp only [encSnapshot, harmed]
      rfl
    refine answered_query h rfl ?_
    simp only [runContent, encWfm, headTaken_frame, hsnapshot, hlevel', List.append_assoc]
    refine append_congr rfl (append_congr rfl (append_congr ?permit (append_congr ?stop (append_congr ?halt
      (append_congr ?later (append_congr rfl (append_congr rfl (append_congr ?window (append_congr rfl
        (append_congr ?watch rfl))))))))))
    case permit => cases s.run.permit <;> rfl
    case stop => cases s.run.firstStop <;> rfl
    case halt => cases s.run.haltCause <;> rfl
    case later => rcases s.run.lastLater with _ | _ | _ <;> rfl
    case window => cases s.wfm.window <;> rfl
    case watch => cases s.wfm.watch <;> rfl
  · intro slot ordinal buffer
    have hbuffer : encBuffer = buffer := by
      funext b
      cases b <;> rfl
    refine answered_query h rfl ?_
    unfold slotsContent encTag
    rw [hbuffer]
    simp only [List.append_assoc]
    rfl
  · refine answered_query h rfl ?_
    simp only [trackerContent, headTaken_frame, hlevel', List.append_assoc]
    refine append_congr rfl (append_congr rfl (append_congr ?position (append_congr rfl (append_congr ?highest rfl))))
    case position => cases s.tbm.machine <;> rfl
    case highest => cases s.tbm.machine <;> rfl
  · intro c flags entry state
    have hflags : ∀ f, enc8 (ModuleFlags.code f) = flags f := fun f => congrArg enc8 (moduleFlags_code f)
    have hentry : encModuleEntry = entry := by
      funext e
      simp only [encModuleEntry, hflags]
      rfl
    refine answered_queryModules h hk ?_
    have hstate : enc8 c.phase.name.code ++ (encOpt encWord c.phase.ordinal? ++ encBool c.phase.degradedFlag) = state := by
      simp only [state]
      cases c.phase <;> rfl
    simp only [modulesContent, headTaken_frame, hentry]
    rw [← hstate]
    simp only [List.append_assoc]
    rfl
  · intro report
    have hreport : ∀ dc : DriverIdx, encDriverChannel s.drv.channels[dc] s.tbm.drivers[dc] = report dc := by
      intro dc
      simp only [encDriverChannel, report, List.append_assoc]
      refine append_congr rfl (append_congr ?block (append_congr rfl (append_congr ?copy (append_congr ?flags rfl))))
      case block =>
        rcases (s.drv.channels[dc]).block with _ | _ | _ <;> rfl
      case copy => cases (s.drv.channels[dc]).inUse <;> rfl
      case flags =>
        cases (s.drv.channels[dc]).flagOvercurrent <;> cases (s.drv.channels[dc]).flagOpenLoad <;> rfl
    refine answered_query h rfl ?_
    simp only [driversContent, headTaken_frame, hreport, List.append_assoc]
    rfl

end Sys2Proof.Machine

/-! ## FLUSH, and what the evaluations of the shed keep -/

namespace Sys2Proof.Machine

/-! ### What the evaluation of the preparation target keeps of images, tags and lines -/

/-- From `s` to `t` no buffer comes to hold an image, no chain becomes READY, what is driven stays and HLS is not
strobed. -/
structure NoNewImage (s t : State) : Prop where
  buffer0 : ∀ o e i, t.shb.buffer0 = .held o e i → s.shb.buffer0 = .held o e i
  buffer1 : ∀ o e i, t.shb.buffer1 = .held o e i → s.shb.buffer1 = .held o e i
  ready : ∀ (k : ChainIdx) o, (t.hci.chains[k]).phase.readyWith o = true → (s.hci.chains[k]).phase.readyWith o = true
  lines : s.lineOut <+: t.lineOut
  strobe : LineItem.strobe ∈ t.lineOut → LineItem.strobe ∈ s.lineOut

namespace NoNewImage

theorem refl (s : State) : NoNewImage s s := ⟨fun _ _ _ => id, fun _ _ _ => id, fun _ _ => id, List.prefix_refl _, id⟩

theorem trans {s t u : State} (h1 : NoNewImage s t) (h2 : NoNewImage t u) : NoNewImage s u :=
  ⟨fun o e i h => h1.buffer0 o e i (h2.buffer0 o e i h), fun o e i h => h1.buffer1 o e i (h2.buffer1 o e i h),
    fun k o h => h1.ready k o (h2.ready k o h), h1.lines.trans h2.lines, fun h => h1.strobe (h2.strobe h)⟩

theorem foldl {β : Type} {f : State → β → State} (h : ∀ s x, NoNewImage s (f s x)) (l : List β) (s : State) :
    NoNewImage s (l.foldl f s) := by
  induction l generalizing s with
  | nil => exact refl s
  | cons x xs ih => exact (h s x).trans (ih _)

end NoNewImage

/-- A chain takes a phase in which it is not READY, and a mark is driven. -/
theorem markChain_noNewImage (s : State) (k : ChainIdx) (ph : ChainPhase) (code : Byte)
    (h : ∀ o, ph.readyWith o = false) :
    NoNewImage s (emit (.mark k code) (setChain k { s.hci.chains[k] with phase := ph } s)) := by
  refine ⟨fun _ _ _ => id, fun _ _ _ => id, fun j o hj => ?_, List.prefix_append _ _, fun hs => by simpa using hs⟩
  by_cases hkj : k.val = j.val
  · cases Fin.ext hkj
    simp [h] at hj
  · simpa [hkj] using hj

theorem handChain_noNewImage (o : Ordinal) (s : State) (k : ChainIdx) : NoNewImage s (handChain o s k) := by
  unfold handChain
  dsimp only
  repeat' split
  · exact markChain_noNewImage s k (.shifting o) _ fun _ => rfl
  · exact .refl s
  · exact markChain_noNewImage s k (.shifting o) _ fun _ => rfl
  · exact .refl s
  · exact .refl s

theorem abortChain_noNewImage (s : State) (k : ChainIdx) : NoNewImage s (abortChain s k) := by
  unfold abortChain
  dsimp only
  split
  · exact markChain_noNewImage s k .idle _ fun _ => rfl
  · exact markChain_noNewImage s k .idle _ fun _ => rfl
  · exact .refl s
  · exact .refl s

theorem setBuffer_filling_noNewImage (i : BufferIdx) (o : Ordinal) (e : Word16) (row : Word16)
    (effects : List (Fin 16)) (s : State) : NoNewImage s (setBuffer i (.filling o e row effects) s) := by
  cases i with
  | b0 => exact ⟨fun _ _ _ h => by simp [setBuffer] at h, fun _ _ _ => id, fun _ _ => id, List.prefix_refl _, id⟩
  | b1 => exact ⟨fun _ _ _ => id, fun _ _ _ h => by simp [setBuffer] at h, fun _ _ => id, List.prefix_refl _, id⟩

theorem takeUp_noNewImage (o : Ordinal) (s : State) : NoNewImage s (takeUp o s) := by
  unfold takeUp
  split
  · exact .foldl (handChain_noNewImage o) _ s
  · unfold startExpansion
    split
    · exact setBuffer_filling_noNewImage _ _ _ _ _ s
    · exact .refl s

theorem abandon_held {b : Buffer} {o : Ordinal} {e : Word16} {i : List Bool} (h : b.abandon = .held o e i) :
    b = .held o e i := by
  cases b <;> simp_all [Buffer.abandon, Buffer.isFilling]

/-- 03 R55: the evaluation of the preparation target makes no image. -/
theorem evalTarget_noNewImage (s : State) : NoNewImage s (evalTarget s) := by
  have habandon : NoNewImage s (abandonExpansion { s with shb := { s.shb with target := s.newTarget } }) :=
    ⟨fun _ _ _ h => abandon_held h, fun _ _ _ h => abandon_held h, fun _ _ => id, List.prefix_refl _, id⟩
  have habort := habandon.trans (NoNewImage.foldl abortChain_noNewImage chainList _)
  unfold evalTarget
  dsimp only
  split
  · exact .refl s
  · split
    · exact habort
    · exact habort.trans (takeUp_noNewImage _ _)

/-- 04 R77: either no latch is due, or the strobe is driven and the tag alone is set. -/
theorem latchIfDue_cases (s : State) :
    latchIfDue s = s ∨ s.run.state = .stopped ∧ ∃ o, latchIfDue s = fireLatch o s := by
  unfold latchIfDue
  split
  · exact .inl rfl
  · split
    · rename_i o _ h
      exact .inr ⟨h.1, o, rfl⟩
    · exact .inl rfl

/-- 04 R76, R77, 03 R55: settling makes no image, though it may latch. -/
theorem settle_images (s : State) :
    (∀ o e i, (settle s).shb.buffer0 = .held o e i → s.shb.buffer0 = .held o e i) ∧
      (∀ o e i, (settle s).shb.buffer1 = .held o e i → s.shb.buffer1 = .held o e i) ∧
      ∀ (k : ChainIdx) o, ((settle s).hci.chains[k]).phase.readyWith o = true →
        (s.hci.chains[k]).phase.readyWith o = true := by
  have h := evalTarget_noNewImage (latchIfDue (evalRequired s))
  obtain he | ⟨_, o, he⟩ := latchIfDue_cases (evalRequired s)
  · rw [he] at h
    unfold settle
    rw [he]
    exact ⟨h.buffer0, h.buffer1, h.ready⟩
  · rw [he] at h
    unfold settle
    rw [he]
    exact ⟨h.buffer0, h.buffer1, h.ready⟩

/-- Outside STOPPED settling drives no strobe. -/
theorem settle_no_strobe (s : State) (h : s.run.state ≠ .stopped) (hs : LineItem.strobe ∉ s.lineOut) :
    LineItem.strobe ∉ (settle s).lineOut := by
  rw [settle_running s h]
  exact fun hm => hs ((evalTarget_noNewImage (evalRequired s)).strobe hm)

/-- Where settling drives no strobe it leaves the tag. -/
theorem settle_tag_of_no_strobe (s : State) (h : LineItem.strobe ∉ (settle s).lineOut) :
    (settle s).hci.tag = s.hci.tag := by
  unfold settle at h ⊢
  obtain he | ⟨_, o, he⟩ := latchIfDue_cases (evalRequired s)
  · rw [he]
    simp
  · rw [he] at h
    refine absurd ((evalTarget_noNewImage _).lines.subset ?_) h
    simp [fireLatch]

/-- In OFFLINE and HALTED, with no preparation target, settling leaves the buffers, the chains and the tag. -/
theorem settle_still (s : State) (h : s.run.state = .offline ∨ s.run.state = .halted) (ht : s.shb.target = none) :
    (settle s).shb = s.shb ∧ (settle s).hci.chains = s.hci.chains := by
  have hr : s.run.state ≠ .stopped := by rcases h with h | h <;> simp [h]
  have hn : (evalRequired s).newTarget = (evalRequired s).shb.target := by
    rcases h with h | h <;> simp [State.newTarget, h, ht]
  rw [settle_running s hr, evalTarget_same _ hn]
  exact ⟨rfl, rfl⟩

end Sys2Proof.Machine

namespace Sys2Proof.Machine

/-! ### The records FLUSH takes back -/

/-- 03 R59: a buffer after several records are discarded. -/
theorem foldl_dropOrdinal (l : List PickRecord) (b : Buffer) :
    l.foldl (fun x r => x.dropOrdinal r.ordinal) b =
      if ∃ r ∈ l, b.ordinal? = some r.ordinal then .empty else b := by
  have hempty : ∀ l : List PickRecord, l.foldl (fun x r => x.dropOrdinal r.ordinal) Buffer.empty = .empty := by
    intro l
    induction l with
    | nil => rfl
    | cons r rs ih => exact ih
  induction l with
  | nil => simp
  | cons r rs ih =>
    rw [List.foldl_cons]
    by_cases h : b.ordinal? = some r.ordinal
    · rw [if_pos ⟨r, by simp, h⟩, Buffer.dropOrdinal, if_pos h, hempty]
    · rw [Buffer.dropOrdinal, if_neg h, ih]
      simp [h]

/-- 04 R68: a chain after several records are discarded. -/
theorem foldl_chain_dropOrdinal (l : List PickRecord) (c : Chain) :
    l.foldl (fun x r => x.dropOrdinal r.ordinal) c =
      if ∃ r ∈ l, c.phase.readyWith r.ordinal = true then { c with phase := .idle } else c := by
  have hidle : ∀ (l : List PickRecord) (c : Chain), c.phase = .idle →
      l.foldl (fun x r => x.dropOrdinal r.ordinal) c = c := by
    intro l
    induction l with
    | nil => exact fun c _ => rfl
    | cons r rs ih =>
      intro c hc
      have he : c.dropOrdinal r.ordinal = c := by simp [Chain.dropOrdinal, hc, ChainPhase.readyWith]
      rw [List.foldl_cons, he, ih c hc]
  induction l with
  | nil => simp
  | cons r rs ih =>
    rw [List.foldl_cons]
    by_cases h : c.phase.readyWith r.ordinal = true
    · rw [if_pos ⟨r, by simp, h⟩, Chain.dropOrdinal, if_pos h, hidle _ _ rfl]
    · rw [Chain.dropOrdinal, if_neg h, ih]
      simp [h]

/-- 04 R70: the tag after several records are discarded. -/
def staleIfAny (l : List PickRecord) (t : ShedTag) : ShedTag :=
  if ∃ r ∈ l, t.ordinal = some r.ordinal then { t with stale := true } else t

theorem flushRecord_buffer0 (s : State) (r : PickRecord) :
    (flushRecord s r).shb.buffer0 = s.shb.buffer0.dropOrdinal r.ordinal := by
  simp [flushRecord, dropRecord, modChains]

theorem flushRecord_buffer1 (s : State) (r : PickRecord) :
    (flushRecord s r).shb.buffer1 = s.shb.buffer1.dropOrdinal r.ordinal := by
  simp [flushRecord, dropRecord, modChains]

theorem flushRecord_target (s : State) (r : PickRecord) : (flushRecord s r).shb.target = s.shb.target := by
  simp [flushRecord, dropRecord, modChains]

theorem flushRecord_chain (s : State) (r : PickRecord) (k : ChainIdx) :
    (flushRecord s r).hci.chains[k] = (s.hci.chains[k]).dropOrdinal r.ordinal := by
  simp only [flushRecord, staleIfCarries]
  split <;> simp [dropRecord, modChains]

theorem flushRecord_tag (s : State) (r : PickRecord) : (flushRecord s r).hci.tag = staleIfAny [r] s.hci.tag := by
  simp only [flushRecord, staleIfCarries, staleIfAny]
  by_cases h : s.hci.tag.ordinal = some r.ordinal
  · simp [dropRecord, modChains, h, ShedTag.markStale]
  · simp [dropRecord, modChains, h]

@[simp] theorem flushRecord_frame (s : State) (r : PickRecord) :
    (flushRecord s r).pending = s.pending ∧ (flushRecord s r).resetLine = s.resetLine ∧
    (flushRecord s r).lineOut = s.lineOut ∧ (flushRecord s r).dlp = s.dlp ∧ (flushRecord s r).tbm = s.tbm ∧
    (flushRecord s r).psq = s.psq ∧ (flushRecord s r).stk = s.stk ∧ (flushRecord s r).asc = s.asc ∧
    (flushRecord s r).wfm = s.wfm ∧ (flushRecord s r).drv = s.drv ∧ (flushRecord s r).run = s.run := by
  simp [flushRecord]

theorem flushRecords_buffer0 (l : List PickRecord) (s : State) :
    (l.foldl flushRecord s).shb.buffer0 =
      if ∃ r ∈ l, s.shb.buffer0.ordinal? = some r.ordinal then .empty else s.shb.buffer0 := by
  rw [← foldl_dropOrdinal]
  exact (List.foldl_hom (fun x : State => x.shb.buffer0) fun x r => (flushRecord_buffer0 x r).symm).symm

theorem flushRecords_buffer1 (l : List PickRecord) (s : State) :
    (l.foldl flushRecord s).shb.buffer1 =
      if ∃ r ∈ l, s.shb.buffer1.ordinal? = some r.ordinal then .empty else s.shb.buffer1 := by
  rw [← foldl_dropOrdinal]
  exact (List.foldl_hom (fun x : State => x.shb.buffer1) fun x r => (flushRecord_buffer1 x r).symm).symm

theorem flushRecords_target (l : List PickRecord) (s : State) :
    (l.foldl flushRecord s).shb.target = s.shb.target :=
  foldl_keeps (fun x : State => x.shb.target) _ flushRecord_target _ _

theorem flushRecords_chain (l : List PickRecord) (s : State) (k : ChainIdx) :
    (l.foldl flushRecord s).hci.chains[k] =
      if ∃ r ∈ l, (s.hci.chains[k]).phase.readyWith r.ordinal = true then { s.hci.chains[k] with phase := .idle }
      else s.hci.chains[k] := by
  rw [← foldl_chain_dropOrdinal]
  exact (List.foldl_hom (fun x : State => x.hci.chains[k]) fun x r => (flushRecord_chain x r k).symm).symm

theorem flushRecords_tag (l : List PickRecord) (s : State) :
    (l.foldl flushRecord s).hci.tag = staleIfAny l s.hci.tag := by
  induction l generalizing s with
  | nil => simp [staleIfAny]
  | cons r rs ih =>
    rw [List.foldl_cons, ih, flushRecord_tag]
    unfold staleIfAny
    by_cases h : s.hci.tag.ordinal = some r.ordinal
    · simp [h]
    · simp [h]

theorem flushRecords_frame (l : List PickRecord) (s : State) :
    (l.foldl flushRecord s).pending = s.pending ∧ (l.foldl flushRecord s).resetLine = s.resetLine ∧
    (l.foldl flushRecord s).lineOut = s.lineOut ∧ (l.foldl flushRecord s).dlp = s.dlp ∧
    (l.foldl flushRecord s).tbm = s.tbm ∧ (l.foldl flushRecord s).stk = s.stk ∧
    (l.foldl flushRecord s).asc = s.asc ∧ (l.foldl flushRecord s).wfm = s.wfm ∧
    (l.foldl flushRecord s).drv = s.drv ∧ (l.foldl flushRecord s).run = s.run := by
  refine ⟨?_, ?_, ?_, ?_, ?_, ?_, ?_, ?_, ?_, ?_⟩ <;> exact foldl_keeps _ _ (by intros; simp) _ _

/-! ### FLUSH -/

/-- The state in which FLUSH has taken the records back and set the run, before the shed is settled. -/
def takenBack (arg : Ordinal) (s : State) : State :=
  { s.flushed.foldl flushRecord s with psq := s.psq.flushedTo s.nextOnHooks arg }

theorem flushRun_eq (arg : Ordinal) (s : State) : flushRun arg s = settle (takenBack arg s) := rfl

@[simp] theorem takenBack_frame (arg : Ordinal) (s : State) :
    (takenBack arg s).pending = s.pending ∧ (takenBack arg s).resetLine = s.resetLine ∧
    (takenBack arg s).lineOut = s.lineOut ∧ (takenBack arg s).dlp = s.dlp ∧ (takenBack arg s).tbm = s.tbm ∧
    (takenBack arg s).stk = s.stk ∧ (takenBack arg s).asc = s.asc ∧ (takenBack arg s).wfm = s.wfm ∧
    (takenBack arg s).drv = s.drv ∧ (takenBack arg s).run = s.run := by
  simp [takenBack, flushRecords_frame]

theorem takenBack_held_buffer0 {arg : Ordinal} {s : State} {r : PickRecord} (hr : r ∈ s.flushed) (e : Word16)
    (i : List Bool) : (takenBack arg s).shb.buffer0 ≠ .held r.ordinal e i := by
  simp only [takenBack, flushRecords_buffer0]
  split
  · simp
  · rename_i h
    intro hb
    exact h ⟨r, hr, by rw [hb]; rfl⟩

theorem takenBack_held_buffer1 {arg : Ordinal} {s : State} {r : PickRecord} (hr : r ∈ s.flushed) (e : Word16)
    (i : List Bool) : (takenBack arg s).shb.buffer1 ≠ .held r.ordinal e i := by
  simp only [takenBack, flushRecords_buffer1]
  split
  · simp
  · rename_i h
    intro hb
    exact h ⟨r, hr, by rw [hb]; rfl⟩

theorem takenBack_readyWith {arg : Ordinal} {s : State} {r : PickRecord} (hr : r ∈ s.flushed) (k : ChainIdx) :
    ((takenBack arg s).hci.chains[k]).phase.readyWith r.ordinal = false := by
  simp only [takenBack, flushRecords_chain]
  split
  · rfl
  · rename_i h
    exact Bool.eq_false_iff.mpr fun hw => h ⟨r, hr, hw⟩

/-- 01 R21: the records FLUSH takes back: those of RL and PQ, and of NEXT where the tag does not name it. -/
theorem mem_flushed {s : State} {r : PickRecord} :
    r ∈ s.flushed ↔ r ∈ s.psq.replay ++ s.psq.queue ∨ (¬s.nextOnHooks = true ∧ s.psq.nextPick = some r) := by
  unfold State.flushed
  split
  · simp [*]
  · simp only [List.append_assoc, List.mem_append, Option.mem_toList, *]
    tauto

theorem nextOnHooks_iff (s : State) :
    s.nextOnHooks = true ↔
      ∃ r, s.psq.nextPick = some r ∧ s.hci.tag.ordinal = some r.ordinal ∧ s.hci.tag.stale = false := by
  unfold State.nextOnHooks State.tagNames
  cases s.psq.nextPick <;> simp

/-- 01 R21: one more than the ordinal of the last record still held. -/
theorem flushedTo_expected (p : Psq) (keepNext : Bool) (arg : Ordinal) :
    (p.flushedTo keepNext arg).expected =
      match ((p.flushedTo keepNext arg).nextPick.or p.current).or p.history.getLast? with
      | some r => r.ordinal + 1
      | none => arg := by
  have hlast : (p.afterFlush keepNext).runRecords.getLast? =
      ((p.afterFlush keepNext).nextPick.or p.current).or p.history.getLast? := by
    simp only [Psq.runRecords, Psq.afterFlush, List.append_nil, List.getLast?_append]
    cases keepNext <;> cases p.nextPick <;> cases p.current <;> simp
  simp only [Psq.flushedTo, expectedAfterFlush, hlast]
  cases ((p.afterFlush keepNext).nextPick.or p.current).or p.history.getLast? <;> rfl

theorem allowsFlush_iff (st : RunState) : st.allowsFlush = true ↔ st ≠ .weaving ∧ st ≠ .stopping := by
  cases st <;> simp [RunState.allowsFlush]

theorem taken_flush {p : List Byte} {rest : List RxFrame} {s : State} (h : Taking .flush p rest s)
    (hr : s.run.state.allowsFlush = true) :
    exec .flush s =
      .next (kickTransmitter
        (answerCommand 6 .ok (encWord (flushRun (BitVec.ofNat 16 (wordAt p 1)) (headTaken rest s)).psq.expected)
          (flushRun (BitVec.ofNat 16 (wordAt p 1)) (headTaken rest s)))) := by
  refine (taking_headTaken h takeFlush).trans ?_
  simp [takeFlush, hr]

@[simp] theorem flushRun_frame (arg : Ordinal) (s : State) :
    (flushRun arg s).pending = s.pending ∧ (flushRun arg s).resetLine = s.resetLine ∧
    (flushRun arg s).dlp = s.dlp ∧ (flushRun arg s).tbm = s.tbm ∧ (flushRun arg s).stk = s.stk ∧
    (flushRun arg s).asc = s.asc ∧ (flushRun arg s).wfm = s.wfm ∧ (flushRun arg s).drv = s.drv ∧
    (flushRun arg s).run = s.run := by
  simp [flushRun_eq]

/-- 03 R59, 04 R68: no buffer holds the image of a record taken back and no chain is READY with it. -/
theorem flushRun_noImage {s : State} {r : PickRecord} (hr : r ∈ s.flushed) (arg : Ordinal) :
    (∀ e i, (flushRun arg s).shb.buffer0 ≠ .held r.ordinal e i ∧ (flushRun arg s).shb.buffer1 ≠ .held r.ordinal e i) ∧
      ∀ k : ChainIdx, ((flushRun arg s).hci.chains[k]).phase.readyWith r.ordinal = false := by
  obtain ⟨h0, h1, hk⟩ := settle_images (takenBack arg s)
  refine ⟨fun e i => ⟨fun h => ?_, fun h => ?_⟩, fun k => Bool.eq_false_iff.mpr fun h => ?_⟩
  · exact takenBack_held_buffer0 hr e i (h0 _ _ _ h)
  · exact takenBack_held_buffer1 hr e i (h1 _ _ _ h)
  · exact Bool.eq_false_iff.mp (takenBack_readyWith hr k) (hk _ _ h)

/-- 04 R70: where no latch follows, the tag is STALE as it names a record taken back. -/
theorem flushRun_tag {arg : Ordinal} {s : State} (h : LineItem.strobe ∉ (flushRun arg s).lineOut) :
    (flushRun arg s).hci.tag = staleIfAny s.flushed s.hci.tag :=
  (settle_tag_of_no_strobe (takenBack arg s) h).trans (flushRecords_tag _ _)

/-- Out of STOPPED, with no preparation target, the buffers and the chains are as the records taken back leave them. -/
theorem flushRun_still {s : State} (hr : s.run.state = .offline ∨ s.run.state = .halted) (ht : s.shb.target = none)
    (arg : Ordinal) :
    (flushRun arg s).shb = (s.flushed.foldl flushRecord s).shb ∧
      ∀ k : ChainIdx, (flushRun arg s).hci.chains[k] = (s.flushed.foldl flushRecord s).hci.chains[k] := by
  obtain ⟨hshb, hchains⟩ := settle_still (takenBack arg s) (by simpa using hr) ((flushRecords_target _ _).trans ht)
  exact ⟨hshb, fun k => by rw [flushRun_eq, hchains]; rfl⟩

/-- A discarded buffer and one that is kept, told by the ordinals taken back. -/
theorem discarded_cases {α : Type} {l : List PickRecord} {gone : Ordinal → Prop}
    (hgone : ∀ o, gone o ↔ ∃ r ∈ l, r.ordinal = o) (b : Option Ordinal) (x y : α) :
    (∀ o, b = some o → gone o → (if ∃ r ∈ l, b = some r.ordinal then x else y) = x) ∧
      ((∀ o, b = some o → ¬gone o) → (if ∃ r ∈ l, b = some r.ordinal then x else y) = y) := by
  refine ⟨fun o hb ho => if_pos ?_, fun h => if_neg ?_⟩
  · obtain ⟨r, hr, he⟩ := (hgone o).mp ho
    exact ⟨r, hr, he ▸ hb⟩
  · rintro ⟨r, hr, hb⟩
    exact h _ hb ((hgone _).mpr ⟨r, hr, rfl⟩)

theorem readyWith_iff (ph : ChainPhase) (o : Ordinal) : ph.readyWith o = true ↔ ∃ dg, ph = .ready o dg := by
  cases ph <;> simp [ChainPhase.readyWith]

/-- The ordinals FLUSH takes back, as the records of RL and PQ and a NEXT that is not on the hooks carry them. -/
theorem flushed_ordinal {s : State} {named : Prop} (hnamed : s.nextOnHooks = true ↔ named) (o : Ordinal) :
    ((∃ r ∈ s.psq.replay ++ s.psq.queue, r.ordinal = o) ∨ (¬named ∧ ∃ r ∈ s.psq.nextPick, r.ordinal = o)) ↔
      ∃ r ∈ s.flushed, r.ordinal = o := by
  simp only [mem_flushed, hnamed]
  constructor
  · rintro (⟨r, hr, ho⟩ | ⟨hn, r, hr, ho⟩)
    · exact ⟨r, .inl hr, ho⟩
    · exact ⟨r, .inr ⟨hn, hr⟩, ho⟩
  · rintro ⟨r, hr | ⟨hn, hr⟩, ho⟩
    · exact .inl ⟨r, hr, ho⟩
    · exact .inr ⟨hn, r, hr, ho⟩

/-- Settles O11: FLUSH takes the records back one by one, sets the run and settles the shed. -/
theorem flushTakesBackThePicksAhead : Obligations.FlushTakesBackThePicksAhead := by
  intro s p rest htake named gone kept
  let u := headTaken rest s
  let arg : Ordinal := BitVec.ofNat 16 (wordAt p 1)
  have hnamed : u.nextOnHooks = true ↔ named := nextOnHooks_iff u
  have hgone : ∀ o, gone o ↔ ∃ r ∈ u.flushed, r.ordinal = o := flushed_ordinal hnamed
  refine ⟨fun hw hst => ?_, fun hr => ?_⟩
  · refine ⟨_, taken_flush htake ((allowsFlush_iff _).mpr ⟨hw, hst⟩), ?_⟩
    have hnextKept : u.nextOnHooks = true → (s.psq.flushedTo u.nextOnHooks arg).nextPick = s.psq.nextPick :=
      fun h => by rw [h]; rfl
    have hnextGone : ¬u.nextOnHooks = true → (s.psq.flushedTo u.nextOnHooks arg).nextPick = none :=
      fun h => by rw [Bool.eq_false_iff.mpr h]; rfl
    simp only [kickTransmitter_frame, answerCommand_frame, flushRun_psq]
    refine ⟨by simp [ChangedOnly], linkLeft_of (by simp [answerCommand]; rfl), fun h => hnextKept (hnamed.mpr h),
      fun h => hnextGone fun hn => h (hnamed.mp hn), rfl, rfl, rfl, rfl, rfl, rfl, rfl, rfl,
      flushedTo_expected _ _ _, fun o ho => ?image, fun hns => ?strobe, fun hno => ?tag, fun hns ht => ?still⟩
    case image =>
      obtain ⟨r, hr, rfl⟩ := (hgone o).mp ho
      exact flushRun_noImage hr arg
    case strobe =>
      exact settle_no_strobe (takenBack arg u) (by simpa [u] using hns) (by simp [u])
    case tag =>
      rw [flushRun_tag hno]
      exact discarded_cases hgone _ _ _
    case still =>
      have hr : s.run.state = .offline ∨ s.run.state = .halted := by
        cases h : s.run.state <;> simp_all
      obtain ⟨hshb, hchains⟩ := flushRun_still (s := u) hr ht arg
      rw [hshb, flushRecords_buffer0, flushRecords_buffer1]
      refine ⟨discarded_cases hgone _ _ _, discarded_cases hgone _ _ _, fun k => ?_⟩
      have hk := (hchains k).trans (flushRecords_chain u.flushed u k)
      refine ⟨fun o dg hc ho => hk.trans (if_pos ?_), fun h => hk.trans (if_neg ?_)⟩
      · obtain ⟨r, hr, rfl⟩ := (hgone o).mp ho
        exact ⟨r, hr, (readyWith_iff _ _).mpr ⟨dg, hc⟩⟩
      · rintro ⟨r, hr, hc⟩
        obtain ⟨dg, hc⟩ := (readyWith_iff _ _).mp hc
        exact h _ dg hc ((hgone _).mpr ⟨r, hr, rfl⟩)
  · have hno : s.run.state.allowsFlush = false := by rcases hr with hr | hr <;> simp [hr, RunState.allowsFlush]
    exact answered_of htake takeFlush rfl (by simp [takeFlush, hno]; rfl)

end Sys2Proof.Machine

/-! ## The wrap step: what it hands on, and what every event of the loom leaves -/

namespace Sys2Proof.Machine

/-! ### Events of the loom -/

/-- What an event of the loom leaves as it was, RUN's taking of a cause among them: what `Undisturbed` names, the
transmitter, and the records already posted. -/
structure LoomEvent (s t : State) : Prop where
  undisturbed : Undisturbed s t
  transmitter : t.dlp.transmitter = s.dlp.transmitter
  posted : ∀ e, Posted e s → Posted e t

/-- A loom event in which RUN takes no cause: what RUN keeps stays but for the causes handed to it. -/
structure HandedOn (s t : State) : Prop extends LoomEvent s t where
  run : t.run = { s.run with handed := t.run.handed }
  grows : ∀ c ∈ s.run.handed, c ∈ t.run.handed

namespace LoomEvent

theorem trans {s t u : State} (h1 : LoomEvent s t) (h2 : LoomEvent t u) : LoomEvent s u where
  undisturbed := by
    obtain ⟨a1, a2, a3, a4, a5, a6, a7, a8, a9⟩ := h1.undisturbed
    obtain ⟨b1, b2, b3, b4, b5, b6, b7, b8, b9⟩ := h2.undisturbed
    exact ⟨b1.trans a1, b2.trans a2, b3.trans a3, b4.trans a4, b5.trans a5, b6.trans a6, b7.trans a7, b8.trans a8,
      b9.trans a9⟩
  transmitter := h2.transmitter.trans h1.transmitter
  posted e h := h2.posted e (h1.posted e h)

/-- An event that posts nothing. -/
theorem of_same {s t : State} (hp : t.pending = s.pending) (hl : t.resetLine = s.resetLine) (htbm : t.tbm = s.tbm)
    (hd : t.dlp = s.dlp) (ha : t.wfm.arv = s.wfm.arv) (hf : t.wfm.feeders = s.wfm.feeders) : LoomEvent s t where
  undisturbed := by simp [Undisturbed, *]
  transmitter := by rw [hd]
  posted e h := by rwa [Posted, hd]

end LoomEvent

namespace HandedOn

theorem trans {s t u : State} (h1 : HandedOn s t) (h2 : HandedOn t u) : HandedOn s u where
  toLoomEvent := h1.toLoomEvent.trans h2.toLoomEvent
  run := by
    have h := h2.run
    rw [h1.run] at h
    exact h
  grows c h := h2.grows c (h1.grows c h)

/-- An event that posts nothing and hands no cause. -/
theorem of_same {s t : State} (hp : t.pending = s.pending) (hl : t.resetLine = s.resetLine) (htbm : t.tbm = s.tbm)
    (hd : t.dlp = s.dlp) (ha : t.wfm.arv = s.wfm.arv) (hf : t.wfm.feeders = s.wfm.feeders) (hr : t.run = s.run) :
    HandedOn s t where
  toLoomEvent := .of_same hp hl htbm hd ha hf
  run := by rw [hr]
  grows c h := by rwa [hr]

theorem refl (s : State) : HandedOn s s := of_same rfl rfl rfl rfl rfl rfl rfl

theorem foldl {β : Type} {f : State → β → State} (h : ∀ s x, HandedOn s (f s x)) (l : List β) (s : State) :
    HandedOn s (l.foldl f s) := by
  induction l generalizing s with
  | nil => exact refl s
  | cons x xs ih => exact (h s x).trans (ih _)

end HandedOn

/-! ### Records and causes -/

theorem dlp_post_frame (e : Event) (d : Dlp) :
    (d.post e).receiver = d.receiver ∧ (d.post e).held = d.held ∧ (d.post e).answer = d.answer ∧
    (d.post e).linkErrors = d.linkErrors ∧ (d.post e).transmitter = d.transmitter := by
  unfold Dlp.post
  split <;> simp

/-- 10 R183: a record posted has joined the queue, or is lost with the queue full. -/
theorem post_posted (e : Event) (s : State) : Posted e (post e s) := by
  unfold Posted
  rw [post_dlp, Dlp.post, Config.eventCapacity]
  split
  · simp
  · rename_i h
    exact .inr ⟨rfl, Nat.le_of_not_lt h⟩

/-- 10 R183: posting a record takes none from the queue. -/
theorem posted_post {x : Event} {s : State} (e : Event) (h : Posted x s) : Posted x (post e s) := by
  unfold Posted at *
  rw [post_dlp, Dlp.post, Config.eventCapacity]
  split
  · rename_i hl
    rcases h with h | ⟨_, hfull⟩
    · exact .inl (by simp [h])
    · omega
  · rename_i hl
    rcases h with h | ⟨_, hfull⟩
    · exact .inl h
    · exact .inr ⟨rfl, hfull⟩

theorem post_handedOn (e : Event) (s : State) : HandedOn s (post e s) where
  undisturbed := by simp [Undisturbed, dlp_post_frame]
  transmitter := by simp [dlp_post_frame]
  posted _ h := posted_post e h
  run := by simp
  grows c h := by simpa using h

theorem hand_handedOn (c : Cause) (s : State) : HandedOn s (hand c s) where
  toLoomEvent := .of_same rfl rfl rfl rfl rfl rfl
  run := rfl
  grows x h := by
    rw [hand_run]
    exact List.mem_append_left _ h

/-! ### RUN takes a cause -/

theorem changeState_loomEvent (st : RunState) (s : State) : LoomEvent s (changeState st s) where
  undisturbed := by
    simp only [Undisturbed, changeState_frame, changeState_dlp, changeState_wfm, dlp_post_frame, true_and]
    split <;> simp
  transmitter := by simp [dlp_post_frame]
  posted e h := by
    have he := (post_handedOn (.runState st s.run.state s.run.firstStop s.run.haltCause none) s).posted e h
    simpa [Posted] using he

theorem takeCause_loomEvent (s : State) (c : Cause) : LoomEvent s (takeCause s c) := by
  have hwith : ∀ r : Run, LoomEvent s { s with run := r } := fun r => .of_same rfl rfl rfl rfl rfl rfl
  have hlater : ∀ c, LoomEvent s (laterCause c s) := fun c => (hwith _).trans (post_handedOn _ _).toLoomEvent
  cases c with
  | stop c =>
    simp only [takeCause, takeStop]
    split
    · have h := (hwith { s.run with firstStop := some c }).trans (changeState_loomEvent .stopping _)
      split
      · exact h.trans (changeState_loomEvent .stopped _)
      · exact h
    · exact hlater _
  | halt c =>
    have hhalt := (hwith { s.run with haltCause := some c }).trans (changeState_loomEvent .halted _)
    simp only [takeCause, takeHalt]
    split
    · exact hhalt
    · exact hhalt
    · exact hhalt
    · exact hlater _
    · exact hlater _

/-! ### The handlings -/

theorem evalTarget_handedOn (s : State) : HandedOn s (evalTarget s) := by apply HandedOn.of_same <;> simp

/-- What concerns the run alone. -/
theorem withPsq_handedOn (p : Psq) (s : State) : HandedOn s { s with psq := p } := .of_same rfl rfl rfl rfl rfl rfl rfl

theorem settle_handedOn (s : State) : HandedOn s (settle s) := by apply HandedOn.of_same <;> simp

theorem modCurrent_handedOn (f : PickRecord → PickRecord) (s : State) : HandedOn s (modCurrent f s) :=
  .of_same rfl rfl rfl rfl rfl rfl rfl

theorem setArmed_handedOn (a : Option ArmedPart) (s : State) : HandedOn s (setArmed a s) := by
  apply HandedOn.of_same <;> simp

theorem closeWindow_handedOn (s : State) : HandedOn s (closeWindow s) := .of_same rfl rfl rfl rfl rfl rfl rfl

theorem makeSnapshot_handedOn (e : SnapshotEntry) (adv : Nat → Nat) (s : State) :
    HandedOn s (makeSnapshot e adv s) := by apply HandedOn.of_same <;> simp

theorem weftFault_handedOn (d : WeftDetail) (c : Ordinal → StopCause) (s : State) : HandedOn s (weftFault d c s) := by
  unfold weftFault
  split
  · exact .refl s
  · refine HandedOn.trans ?_ ((post_handedOn _ _).trans (hand_handedOn _ _))
    exact .of_same rfl rfl rfl rfl rfl rfl rfl

theorem openWindow_handedOn (s : State) : HandedOn s (openWindow s) := by
  unfold openWindow
  split
  · exact .refl s
  · exact .of_same rfl rfl rfl rfl rfl rfl rfl

theorem judgeWindow_handedOn (s : State) : HandedOn s (judgeWindow s) := by
  unfold judgeWindow
  split
  · split
    · exact (modCurrent_handedOn _ s).trans (closeWindow_handedOn _)
    · exact (weftFault_handedOn _ _ s).trans (closeWindow_handedOn _)
  · exact closeWindow_handedOn s

theorem watchedBreak_handedOn (f : FeederIdx) (s : State) : HandedOn s (watchedBreak f s) := by
  have hw : HandedOn s { s with wfm := { s.wfm with watch := none } } := .of_same rfl rfl rfl rfl rfl rfl rfl
  unfold watchedBreak
  dsimp only
  split
  · exact hw.trans (weftFault_handedOn _ _ _)
  · exact hw

theorem beginWatch_handedOn (line : Option FeederIdx) (s : State) : HandedOn s (beginWatch line s) := by
  unfold beginWatch
  split
  · exact .refl s
  · rename_i f
    have hw : HandedOn s { s with wfm := { s.wfm with watch := some f } } := .of_same rfl rfl rfl rfl rfl rfl rfl
    dsimp only
    split
    · exact hw.trans (watchedBreak_handedOn f _)
    · exact hw

theorem sendAction_handedOn (a : ArmedPart) (j : Nat) (x : ArmedAction) (s : State) :
    HandedOn s (sendAction a j x s) := by apply HandedOn.of_same <;> simp

theorem fireOne_handedOn (s : State) (j : Nat) : HandedOn s (fireOne s j) := by
  obtain h | ⟨a, x, _, _, h⟩ := fireOne_cases s j
  · rw [h]
    exact .refl s
  · rw [h]
    split
    · exact (sendAction_handedOn a j x s).trans (beginWatch_handedOn _ _)
    · exact sendAction_handedOn a j x s

theorem fireAction_handedOn (x : Nat → Bool) (i : Nat) (s : State) : HandedOn s (fireAction x i s) := by
  unfold fireAction
  split
  · exact .refl s
  · exact .foldl fireOne_handedOn _ s

theorem handOpening_handedOn (x : Nat → Bool) (s : State) : HandedOn s (handOpening x s) := by
  unfold handOpening
  split
  · exact .refl s
  · split
    · exact (setArmed_handedOn _ s).trans (openWindow_handedOn _)
    · exact .refl s

theorem handClosing_handedOn (x : Nat → Bool) (s : State) : HandedOn s (handClosing x s) := by
  unfold handClosing
  dsimp only
  split
  · exact handOpening_handedOn x s
  · split
    · exact (handOpening_handedOn x s).trans ((setArmed_handedOn _ _).trans (judgeWindow_handedOn _))
    · exact handOpening_handedOn x s

theorem latchRequest_handedOn (dir : Direction) (s : State) : HandedOn s (latchRequest dir s) := by
  have hmiss : ∀ (e : Event) (c : Cause), HandedOn s
      (if dir = .forward ∧ s.run.state = .weaving then hand c (post e s) else post e s) := by
    intro e c
    split
    · exact (post_handedOn e s).trans (hand_handedOn c _)
    · exact post_handedOn e s
  unfold latchRequest
  dsimp only
  split
  · exact hmiss _ _
  · split
    · exact HandedOn.trans (t := fireLatch _ s) (.of_same rfl rfl rfl rfl rfl rfl rfl) (evalTarget_handedOn _)
    · exact hmiss _ _

theorem requestLatch_handedOn (x : Nat → Bool) (dir : Direction) (s : State) : HandedOn s (requestLatch x dir s) := by
  unfold requestLatch
  split
  · exact .refl s
  · split
    · exact latchRequest_handedOn dir s
    · exact .refl s

/-! ### The pick boundary -/

theorem dropOldest_handedOn (s : State) : HandedOn s (dropOldest s) := by
  apply HandedOn.of_same <;> simp

theorem retireCurrent_handedOn (s : State) : HandedOn s (retireCurrent s) := by
  unfold retireCurrent
  split
  · exact .refl s
  · refine (dropOldest_handedOn s).trans (HandedOn.trans ?_ (post_handedOn _ _))
    exact .of_same rfl rfl rfl rfl rfl rfl rfl

theorem lowWaterAfterFill_handedOn (s : State) : HandedOn s (lowWaterAfterFill s) := by
  unfold lowWaterAfterFill
  split
  · exact (withPsq_handedOn _ s).trans (post_handedOn _ _)
  · exact .refl s

theorem fillNext_handedOn (s : State) : HandedOn s (fillNext s) := by
  have hfill : ∀ p : Psq, HandedOn s (lowWaterAfterFill { s with psq := p }) := fun p =>
    (withPsq_handedOn p s).trans (lowWaterAfterFill_handedOn _)
  unfold fillNext
  split
  · exact .refl s
  · split
    · exact hfill _
    · split
      · exact hfill _
      · exact .refl s

theorem armCurrent_handedOn (adv : Nat → Nat) (s : State) : HandedOn s (armCurrent adv s) := by
  unfold armCurrent
  repeat' split
  · exact .refl s
  · exact modCurrent_handedOn _ s
  · exact weftFault_handedOn _ _ s
  · exact weftFault_handedOn _ _ s
  · exact (setArmed_handedOn _ s).trans (modCurrent_handedOn _ _)
  · exact weftFault_handedOn _ _ s

theorem armPromoted_handedOn (s : State) : HandedOn s (armPromoted s) := by
  unfold armPromoted
  split
  · exact armCurrent_handedOn _ s
  · exact .refl s

theorem promote_handedOn (s : State) : HandedOn s (promote s) := by
  unfold promote
  refine (retireCurrent_handedOn s).trans (HandedOn.trans ?_ (fillNext_handedOn _))
  exact .of_same rfl rfl rfl rfl rfl rfl rfl

theorem forwardSnapshot_handedOn (s : State) : HandedOn s (forwardSnapshot s) := makeSnapshot_handedOn _ _ s

theorem forwardBoundary_handedOn (s : State) : HandedOn s (forwardBoundary s) := by
  unfold forwardBoundary
  split
  · exact (withPsq_handedOn _ s).trans (forwardSnapshot_handedOn _)
  · split
    · exact (promote_handedOn s).trans ((forwardSnapshot_handedOn _).trans
        ((armPromoted_handedOn _).trans (settle_handedOn _)))
    · exact (withPsq_handedOn _ s).trans (forwardSnapshot_handedOn _)

theorem disarmBackward_handedOn (s : State) : HandedOn s (disarmBackward s) := by
  unfold disarmBackward
  split
  · exact .refl s
  · refine HandedOn.trans (t := offReached _ s) ?_ ((setArmed_handedOn _ _).trans (closeWindow_handedOn _))
    apply HandedOn.of_same <;> simp

theorem unwind_handedOn (newest : PickRecord) (s : State) : HandedOn s (unwind newest s) := by
  unfold unwind
  refine HandedOn.trans ?_ (post_handedOn _ _)
  apply HandedOn.of_same <;> simp

theorem backwardBoundary_handedOn (s : State) : HandedOn s (backwardBoundary s) := by
  have h : HandedOn s (modCurrent PickRecord.disarmed (makeSnapshot .backward (fun _ => 0) (disarmBackward s))) :=
    (disarmBackward_handedOn s).trans ((makeSnapshot_handedOn _ _ _).trans (modCurrent_handedOn _ _))
  unfold backwardBoundary
  dsimp only
  split
  · exact h.trans ((unwind_handedOn _ _).trans (settle_handedOn _))
  · refine h.trans (HandedOn.trans ?_ (post_handedOn _ _))
    exact .of_same rfl rfl rfl rfl rfl rfl rfl

/-- 05 R97: what a step hands on is an event of the loom in which RUN takes no cause. -/
theorem handle_handedOn (c : StepInfo) (s : State) (h : Handling) : HandedOn s (handle c s h) := by
  cases h with
  | direction => exact evalTarget_handedOn s
  | release => apply HandedOn.of_same <;> simp [handle]
  | boundary =>
    simp only [handle]
    split
    · exact forwardBoundary_handedOn s
    · exact backwardBoundary_handedOn s
  | keep => apply HandedOn.of_same <;> simp [handle]
  | latch => exact requestLatch_handedOn _ _ s
  | fire i => exact fireAction_handedOn _ i s
  | windowOpen => exact handOpening_handedOn _ s
  | windowClose => exact handClosing_handedOn _ s
  | indexMissing => exact (post_handedOn _ s).trans (hand_handedOn _ _)
  | reverse => exact hand_handedOn _ s

end Sys2Proof.Machine

namespace Sys2Proof.Machine

/-! ### The order of a step's handlings -/

/-- What a step hands on before its crossing of the pick boundary. -/
def beforeBoundary (dir : Direction) (k : Stk) : List Handling :=
  (if k.direction ≠ dir then [.direction] else []) ++
    match dir with
    | .forward => [.release]
    | .backward => []

/-- What a step hands on after its crossing of the pick boundary. -/
def afterBoundary (m : MachineRecord) (run : RunState) (dir : Direction) (k : Stk) : List Handling :=
  [.keep, .latch] ++
    (match dir with
      | .forward => fireList ++ [.windowOpen, .windowClose]
      | .backward => []) ++
    (if missesIndex m.counts k dir then [.indexMissing] else []) ++
    (if reversesInRun run m.reverseTolerance k.reverseCount dir then [.reverse] else [])

/-- 05 R97: a HOMED step over the wrap hands on the crossing of the pick boundary. -/
theorem stepHandlings_wrap {m : MachineRecord} {dir : Direction} {k : Stk} (run : RunState) (hh : k.homing = .homed)
    (hw : (stepInfo m.counts k.position dir).wrap = true) :
    stepHandlings m run dir k = beforeBoundary dir k ++ .boundary :: afterBoundary m run dir k := by
  have hd : (stepInfo m.counts k.position dir).direction = dir := by cases dir <;> rfl
  cases dir <;>
    simp [stepHandlings, beforeBoundary, afterBoundary, crossingHandlings, hh, hw, hd]

theorem mem_afterBoundary {m : MachineRecord} {run : RunState} {dir : Direction} {k : Stk} {h : Handling}
    (hm : h ∈ afterBoundary m run dir k) : h ≠ .boundary ∧ h ≠ .release := by
  have hif : ∀ (b : Prop) [Decidable b] (x : Handling), h ∈ (if b then [x] else []) → h = x := by
    intro b _ x hx
    split at hx <;> simp_all
  simp only [afterBoundary, fireList, List.mem_append] at hm
  rcases hm with ((hm | hm) | hm) | hm
  · simp only [List.mem_cons, List.not_mem_nil, or_false] at hm
    rcases hm with rfl | rfl <;> simp
  · cases dir with
    | forward =>
      simp only [List.mem_append, List.mem_map, List.mem_cons, List.not_mem_nil, or_false] at hm
      rcases hm with ⟨i, _, rfl⟩ | rfl | rfl <;> simp
    | backward => simp at hm
  · rw [hif _ _ hm]
    simp
  · rw [hif _ _ hm]
    simp

/-- With no cause waiting, or none taken, the first handling is taken before anything else. -/
theorem handleRest_cons {taken : CausesTaken} {s : State} (hn : NoneTaken taken s) (c : StepInfo) (h : Handling)
    (rest : List Handling) : handleRest c taken (h :: rest) s = handleRest c taken rest (handle c s h) := by
  cases taken with
  | only places => rfl
  | every =>
    have hs : s.run.handed = [] := hn.resolve_left (by simp)
    simp only [handleRest, List.foldl_cons, handleAndDrain, drain_of_none s hs]

/-- What is handed on before the boundary hands no cause, so it is taken before anything else. -/
theorem handleRest_before {taken : CausesTaken} {s : State} (hn : NoneTaken taken s) (c : StepInfo)
    {pre : List Handling} (hp : ∀ x ∈ pre, x = .direction ∨ x = .release) (rest : List Handling) :
    handleRest c taken (pre ++ rest) s = handleRest c taken rest (pre.foldl (handle c) s) := by
  induction pre generalizing s with
  | nil => rfl
  | cons x xs ih =>
    have hx : (handle c s x).run = s.run := by
      rcases hp x (by simp) with rfl | rfl <;> simp [handle]
    rw [List.cons_append, handleRest_cons hn]
    exact ih (by rwa [NoneTaken, hx]) fun y hy => hp y (by simp [hy])

/-- What every handling of the rest and RUN's taking of a cause preserve holds to the end of the step. -/
theorem takeCauses_handleRest_preserves {P : State → Prop} {c : StepInfo} {rest : List Handling}
    (hw : ∀ s l, P s → P { s with run := { s.run with handed := l } }) (hc : ∀ s x, P s → P (takeCause s x))
    (hh : ∀ s, ∀ h ∈ rest, P s → P (handle c s h)) {u : State} (hu : P u) (taken : CausesTaken) :
    P (takeCauses taken (handleRest c taken rest u)) := by
  refine takeCauses_preserves P hw hc taken _ ?_
  have hdrain : ∀ s, P s → P (drain s) := takeCauses_preserves P hw hc .every
  unfold handleRest
  split
  · exact List.foldlRecOn _ _ (hdrain _ hu) fun s hs h hm => hdrain _ (hh s h hm hs)
  · exact List.foldlRecOn _ _ hu fun s hs h hm => hh s h hm hs

/-! ### The wrap step -/

/-- The tracker as a line has changed its accepted level, before the step is counted (05 R88, R99). -/
def Stk.lineMoved (line : EncLine) (elapsed : Nat) (l : Level) (k : Stk) : Stk :=
  (k.elapse elapsed).setLine line (flipLevel l)

@[simp] theorem Stk.lineMoved_frame (line : EncLine) (elapsed : Nat) (l : Level) (k : Stk) :
    (k.lineMoved line elapsed l).position = k.position ∧ (k.lineMoved line elapsed l).homing = k.homing ∧
    (k.lineMoved line elapsed l).revTime = k.revTime ∧
    (k.lineMoved line elapsed l).revTimer = k.revTimer.map (· + elapsed) := by
  cases line <;> simp [Stk.lineMoved, Stk.setLine, Stk.elapse]

/-- The position a wrap step leaves (05 R88). -/
def positionAcross (n : Nat) : Direction → Nat
  | .forward => 0
  | .backward => n - 1

/-- T_rev as a wrap step leaves it: a forward crossing takes it from a running timer, a backward step drops it (05
R99, R100). -/
def Stk.revTimeAcross (k : Stk) (elapsed : Nat) : Direction → Option Nat
  | .forward =>
    match k.revTimer with
    | some x => some (min (x + elapsed) 16777215)
    | none => k.revTime
  | .backward => none

/-- The channels as the boundary handling of a step meets them (08 R150). -/
def drvAcross (s : State) : Direction → Drv
  | .forward => (releasePerPick s).drv
  | .backward => s.drv

theorem nextPosition_wrap {n p : Nat} {dir : Direction} (hw : (stepInfo n p dir).wrap = true) :
    nextPosition n p dir = positionAcross n dir := by
  cases dir <;> simp_all [stepInfo, nextPosition, positionAcross]

theorem Stk.step_wrap {m : MachineRecord} {k : Stk} {dir : Direction} (run : RunState) (hh : k.homing = .homed)
    (hw : (stepInfo m.counts k.position dir).wrap = true) (line : EncLine) (elapsed : Nat) (l : Level) :
    ((k.lineMoved line elapsed l).step m run dir).position = positionAcross m.counts dir ∧
      ((k.lineMoved line elapsed l).step m run dir).revTime = k.revTimeAcross elapsed dir := by
  refine ⟨?_, ?_⟩
  · simp only [Stk.step, Stk.lineMoved_frame]
    exact nextPosition_wrap hw
  · cases dir with
    | backward => rfl
    | forward =>
      simp only [Stk.step, Stk.lineMoved_frame, hh, hw, Stk.timeStep, Stk.revTimeAcross, maxRevTime]
      cases k.revTimer <;> simp

/-- The state in which a wrap step's crossing of the boundary is handled, as the state before the step has it. -/
structure AtBoundary (m : MachineRecord) (dir : Direction) (elapsed : Nat) (s u : State) : Prop where
  pending : u.pending = s.pending
  resetLine : u.resetLine = s.resetLine
  tbm : u.tbm = s.tbm
  dlp : u.dlp = s.dlp
  psq : u.psq = s.psq
  asc : u.asc = s.asc
  wfm : u.wfm = s.wfm
  run : u.run = s.run
  tag : u.hci.tag = s.hci.tag
  position : u.stk.position = positionAcross m.counts dir
  revTime : u.stk.revTime = s.stk.revTimeAcross elapsed dir
  drv : u.drv = drvAcross s dir

/-- What is handed on before the boundary: the SHB's target is evaluated, and on a forward step the PER_PICK blocks are
released. -/
theorem beforeBoundary_cases (c : StepInfo) (dir : Direction) (k : Stk) (u : State) :
    ∃ v, (v = u ∨ v = evalTarget u) ∧
      (beforeBoundary dir k).foldl (handle c) u = match dir with | .forward => releasePerPick v | .backward => v := by
  unfold beforeBoundary
  split
  · exact ⟨evalTarget u, .inr rfl, by cases dir <;> rfl⟩
  · exact ⟨u, .inl rfl, by cases dir <;> rfl⟩

theorem releasePerPick_drv_congr {s u : State} (h : u.drv = s.drv) : (releasePerPick u).drv = (releasePerPick s).drv := by
  simp [releasePerPick, modChannels, h]

theorem atBoundary_of_counted {m : MachineRecord} {dir : Direction} {elapsed : Nat} {s : State} {k : Stk}
    (hp : k.position = positionAcross m.counts dir) (hr : k.revTime = s.stk.revTimeAcross elapsed dir) (c : StepInfo)
    (k' : Stk) :
    AtBoundary m dir elapsed s ((beforeBoundary dir k').foldl (handle c) { s with lineOut := [], stk := k }) := by
  obtain ⟨v, hv, he⟩ := beforeBoundary_cases c dir k' { s with lineOut := [], stk := k }
  rw [he]
  have hrel : (releasePerPick v).drv = (releasePerPick s).drv :=
    releasePerPick_drv_congr (by rcases hv with rfl | rfl <;> simp)
  cases dir with
  | forward => rcases hv with rfl | rfl <;> constructor <;> simp [hp, hr, hrel, drvAcross]
  | backward => rcases hv with rfl | rfl <;> constructor <;> simp [hp, hr, drvAcross]

/-- 05 R88, R97: a HOMED step over the wrap, its handlings in the default order and no earlier cause taken. -/
theorem exec_wrapStep {m : MachineRecord} {line : EncLine} {dir : Direction} {s : State} {taken : CausesTaken}
    (h : StepReady m line dir s) (hw : (stepInfo m.counts s.stk.position dir).wrap = true) (hn : NoneTaken taken s)
    (elapsed : Nat) :
    ∃ u k, AtBoundary m dir elapsed s u ∧
      exec (.encoderStep line elapsed [] taken) s =
        .next (kickTransmitter (takeCauses taken
          (handleRest (stepInfo m.counts s.stk.position dir) taken (afterBoundary m s.run.state dir k)
            (handle (stepInfo m.counts s.stk.position dir) u .boundary)))) := by
  obtain ⟨hready, hm, hhomed, hpos, hdir⟩ := h
  obtain ⟨a, ha, b, hb, hdir⟩ : ∃ a, s.stk.encA = some a ∧ ∃ b, s.stk.encB = some b ∧ stepDirection line a b = dir := by
    cases ha : s.stk.encA <;> cases hb : s.stk.encB <;> simp_all
  obtain ⟨l, hl⟩ : ∃ l, s.stk.lineLevel line = some l := by
    cases line
    · exact ⟨a, ha⟩
    · exact ⟨b, hb⟩
  let k := s.stk.lineMoved line elapsed l
  let v : State := { s with lineOut := [], stk := k.step m s.run.state dir }
  let c := stepInfo m.counts s.stk.position dir
  have hk : stepInfo m.counts k.position dir = c := by simp [k, c]
  have hchange : lineChange line elapsed [] taken { s with lineOut := [] } =
      handleRest c taken (stepHandlings m s.run.state dir k) v := by
    simp only [lineChange, hm, hl, ha, hb, hdir, takeStep]
    simp only [runOrder]
    rw [← hk]
    rfl
  have hlist := stepHandlings_wrap (m := m) (dir := dir) (k := k) s.run.state (by simp [k, hhomed]) (hk ▸ hw)
  have hbefore : ∀ x ∈ beforeBoundary dir k, x = .direction ∨ x = .release := by
    intro x hx
    unfold beforeBoundary at hx
    cases dir <;> split at hx <;> simp_all
  have hnv : NoneTaken taken v := hn
  refine ⟨(beforeBoundary dir k).foldl (handle c) v, k, ?_, ?_⟩
  · obtain ⟨hp, hr⟩ := Stk.step_wrap s.run.state hhomed hw line elapsed l
    exact atBoundary_of_counted hp hr c k
  · refine (causing_high taken _ s hready).trans ?_
    rw [hchange, hlist, handleRest_before hnv c hbefore, handleRest_cons]
    have hrun : ((beforeBoundary dir k).foldl (handle c) v).run = v.run := by
      cases dir <;> (unfold beforeBoundary; split) <;> simp [handle]
    rwa [NoneTaken, hrun]

end Sys2Proof.Machine

/-! ## The backward boundary crossing -/

namespace Sys2Proof.Machine

/-! ### What follows the boundary handling -/

/-- What the rest of a step, RUN's taking of causes among it, leaves of the state after the boundary handling. -/
structure StepRest (u t : State) : Prop where
  loom : LoomEvent u t
  psq : u.psq.OutcomeOnly t.psq

theorem LoomEvent.refl (s : State) : LoomEvent s s := (HandedOn.refl s).toLoomEvent

/-- 05 R97: the handlings after the boundary and the causes RUN takes. -/
theorem stepRest {c : StepInfo} {rest : List Handling} (hr : ∀ h ∈ rest, h ≠ .boundary) (taken : CausesTaken)
    (u : State) : StepRest u (takeCauses taken (handleRest c taken rest u)) :=
  takeCauses_handleRest_preserves (P := StepRest u)
    (fun _ _ h => ⟨h.loom.trans (.of_same rfl rfl rfl rfl rfl rfl), h.psq⟩)
    (fun s x h => ⟨h.loom.trans (takeCause_loomEvent s x), h.psq.trans (takeCause_outcome s x)⟩)
    (fun s x hx h =>
      ⟨h.loom.trans (handle_handedOn c s x).toLoomEvent, h.psq.trans (handle_outcome c s x (hr x hx))⟩)
    ⟨.refl u, .refl _⟩ taken

/-- With a frame being sent the transmitter begins none. -/
theorem kickTransmitter_busy {s : State} (h : s.dlp.transmitter ≠ none) : kickTransmitter s = s := by
  simp [kickTransmitter, Option.isSome_iff_ne_none.mpr h]

/-- What an event leaves undisturbed, the transmitter leaves so too. -/
theorem undisturbed_kick {s t : State} (h : Undisturbed s t) : Undisturbed s (kickTransmitter t) := by
  unfold Undisturbed at *
  simpa using h

/-- A record posted stays posted to the command's end while the transmitter is busy. -/
theorem LoomEvent.posted_kick {s u t : State} (hs : LoomEvent s u) (h : LoomEvent u t)
    (hb : s.dlp.transmitter ≠ none) {e : Event} (he : Posted e u) : Posted e (kickTransmitter t) := by
  rw [kickTransmitter_busy (by rwa [h.transmitter, hs.transmitter])]
  exact h.posted e he

theorem AtBoundary.loomEvent {m : MachineRecord} {dir : Direction} {elapsed : Nat} {s u : State}
    (h : AtBoundary m dir elapsed s u) : LoomEvent s u :=
  .of_same h.pending h.resetLine h.tbm h.dlp (by rw [h.wfm]) (by rw [h.wfm])

/-! ### With no armed part -/

theorem armedPart_congr {s t : State} (h : t.asc = s.asc) : t.armedPart = s.armedPart := by
  unfold State.armedPart
  rw [h]

/-- With no armed part a handling after the boundary leaves the run, the snapshot, the monitor and the channels. -/
theorem handle_unarmed {s : State} (ha : s.armedPart = none) (c : StepInfo) {h : Handling} (hb : h ≠ .boundary)
    (hr : h ≠ .release) :
    (handle c s h).psq = s.psq ∧ (handle c s h).asc = s.asc ∧ (handle c s h).wfm = s.wfm ∧
      (handle c s h).drv = s.drv := by
  have hopen : handOpening c.crosses s = s := by simp [handOpening, ha]
  have hlatch : (requestLatch c.crosses c.direction s).asc = s.asc ∧
      (requestLatch c.crosses c.direction s).wfm = s.wfm := by simp
  cases h with
  | boundary => exact absurd rfl hb
  | release => exact absurd rfl hr
  | fire i => simp [handle, fireAction, ha]
  | windowOpen => simp [handle, hopen]
  | windowClose => simp [handle, handClosing, hopen, ha]
  | _ => simp [handle]

/-- What the rest of a step can do where no part is armed: RUN may take causes, which switch channels off, close the
window and interrupt an ARMED pick. -/
structure UnarmedRest (u t : State) : Prop where
  asc : t.asc = u.asc
  psq : (∀ r, u.psq.current = some r → r.state ≠ .armed) → t.psq = u.psq
  wfm : t.wfm = u.wfm ∨ t.wfm = (closeWindow u).wfm
  drv : ∀ dc : DriverIdx,
    t.drv.channels[dc] = u.drv.channels[dc] ∨ t.drv.channels[dc] = (u.drv.channels[dc]).switchedOff

namespace UnarmedRest

theorem refl (u : State) : UnarmedRest u u := ⟨rfl, fun _ => rfl, .inl rfl, fun _ => .inl rfl⟩

theorem trans {u v t : State} (h1 : UnarmedRest u v) (h2 : UnarmedRest v t) : UnarmedRest u t where
  asc := h2.asc.trans h1.asc
  psq h := (h2.psq (by rwa [h1.psq h])).trans (h1.psq h)
  wfm := by
    have hclose : (closeWindow v).wfm = (closeWindow u).wfm := by
      rcases h1.wfm with h | h <;> simp [h]
    rcases h2.wfm with h | h
    · exact h ▸ h1.wfm
    · exact .inr (h.trans hclose)
  drv dc := by
    rcases h1.drv dc with ha | ha <;> rcases h2.drv dc with hb | hb <;> simp [ha, hb]

end UnarmedRest

theorem interrupt_of_unarmed {p : Psq} (h : ∀ r, p.current = some r → r.state ≠ .armed) :
    { p with current := p.current.map PickRecord.interrupt } = p := by
  cases hc : p.current with
  | none => cases p; simp_all
  | some r =>
    have hr : r.interrupt = r := by simp [PickRecord.interrupt, h r hc]
    cases p
    simp_all

theorem changeState_unarmedRest (st : RunState) {s : State} (ha : s.armedPart = none) :
    UnarmedRest s (changeState st s) where
  asc := by
    have hsn : (changeState st s).asc.snapshot = s.asc.snapshot := by
      rw [changeState_snapshot]
      split
      · unfold State.armedPart at ha
        cases hs : s.asc.snapshot with
        | none => rfl
        | some sn =>
          rw [hs] at ha
          cases sn
          simp_all
      · rfl
    exact congrArg Asc.mk hsn
  psq h := by
    rw [changeState_psq]
    split
    · exact interrupt_of_unarmed h
    · rfl
  wfm := by
    rw [changeState_wfm]
    split
    · exact .inr rfl
    · exact .inl rfl
  drv dc := by
    rw [changeState_drv]
    split
    · exact .inl rfl
    · exact .inr (by simp)

theorem takeCause_unarmedRest {s : State} (ha : s.armedPart = none) (c : Cause) : UnarmedRest s (takeCause s c) := by
  have hlater : ∀ c, UnarmedRest s (laterCause c s) := fun c => by
    constructor <;> simp
  have hchange : ∀ (st : RunState) (r : Run), UnarmedRest s (changeState st { s with run := r }) := fun st r =>
    UnarmedRest.trans (v := { s with run := r }) ⟨rfl, fun _ => rfl, .inl rfl, fun _ => .inl rfl⟩
      (changeState_unarmedRest st ha)
  cases c with
  | stop c =>
    simp only [takeCause, takeStop]
    split
    · have h := hchange .stopping { s.run with firstStop := some c }
      split
      · exact h.trans (changeState_unarmedRest .stopped ((armedPart_congr h.asc).trans ha))
      · exact h
    · exact hlater _
  | halt c =>
    have hhalt := hchange .halted { s.run with haltCause := some c }
    simp only [takeCause, takeHalt]
    split
    · exact hhalt
    · exact hhalt
    · exact hhalt
    · exact hlater _
    · exact hlater _

theorem unarmedRest {c : StepInfo} {rest : List Handling} (hr : ∀ h ∈ rest, h ≠ .boundary ∧ h ≠ .release)
    (taken : CausesTaken) {u : State} (ha : u.armedPart = none) :
    UnarmedRest u (takeCauses taken (handleRest c taken rest u)) := by
  refine takeCauses_handleRest_preserves (P := UnarmedRest u) (fun _ _ h => ⟨h.asc, h.psq, h.wfm, h.drv⟩)
    (fun s x h => h.trans (takeCause_unarmedRest ((armedPart_congr h.asc).trans ha) x)) (fun s x hx h => ?_) (.refl u)
    taken
  obtain ⟨hb, hrel⟩ := hr x hx
  obtain ⟨hpsq, hasc, hwfm, hdrv⟩ := handle_unarmed ((armedPart_congr h.asc).trans ha) c hb hrel
  exact h.trans ⟨hasc, fun _ => hpsq, .inl hwfm, fun _ => .inl (by rw [hdrv])⟩

/-- With no cause taken, and no part armed, nothing of the run, the monitor and the channels changes further. -/
theorem handleRest_unarmed {c : StepInfo} {rest : List Handling} (hr : ∀ h ∈ rest, h ≠ .boundary ∧ h ≠ .release)
    {u : State} (ha : u.armedPart = none) :
    (handleRest c (.only []) rest u).psq = u.psq ∧ (handleRest c (.only []) rest u).asc = u.asc ∧
      (handleRest c (.only []) rest u).wfm = u.wfm ∧ (handleRest c (.only []) rest u).drv = u.drv := by
  refine List.foldlRecOn rest (handle c)
    (motive := fun t => t.psq = u.psq ∧ t.asc = u.asc ∧ t.wfm = u.wfm ∧ t.drv = u.drv) ⟨rfl, rfl, rfl, rfl⟩ ?_
  rintro t ⟨hpsq, hasc, hwfm, hdrv⟩ x hx
  obtain ⟨hb, hrel⟩ := hr x hx
  obtain ⟨h1, h2, h3, h4⟩ := handle_unarmed ((armedPart_congr hasc).trans ha) c hb hrel
  exact ⟨h1.trans hpsq, h2.trans hasc, h3.trans hwfm, h4.trans hdrv⟩

/-! ### The boundary handling of a backward step -/

/-- 06 R120: OFF reaches the channels of the disarmed list and no other. -/
theorem offReached_channel (a : ArmedPart) (s : State) (dc : DriverIdx) :
    (offReached a s).drv.channels[dc] =
      if ∃ x ∈ a.actions, x.channel = dc then (s.drv.channels[dc]).switchedOff else s.drv.channels[dc] := by
  unfold offReached
  generalize a.actions = l
  have hoff : ∀ (x : ArmedAction) (u : State), (driverOff x.channel u).drv.channels[dc] =
      if x.channel = dc then (u.drv.channels[dc]).switchedOff else u.drv.channels[dc] := by
    intro x u
    by_cases h : x.channel = dc
    · subst h
      simp [driverOff]
    · have hne : x.channel.val ≠ dc.val := fun hv => h (Fin.ext hv)
      simp [driverOff, h, hne]
  induction l generalizing s with
  | nil => simp
  | cons x xs ih =>
    rw [List.foldl_cons, ih, hoff]
    by_cases h : x.channel = dc <;> by_cases hx : ∃ y ∈ xs, y.channel = dc <;> simp_all

/-- 06 R120, 07 R130: with an armed part OFF reaches its channels and the window closes unjudged. -/
theorem disarmBackward_armed {s : State} {a : ArmedPart} (h : s.armedPart = some a) :
    (disarmBackward s).wfm = { s.wfm with window := none, capture := none, watch := none } ∧
      (disarmBackward s).drv = (offReached a s).drv := by
  simp [disarmBackward, h]

theorem disarmBackward_unarmed {s : State} (h : s.armedPart = none) : disarmBackward s = s := by
  simp [disarmBackward, h]

/-- The state in which the ASC has disarmed at a backward crossing and made the BACKWARD snapshot (06 R107, R120). -/
def disarmedAt (s : State) : State :=
  modCurrent PickRecord.disarmed (makeSnapshot .backward (fun _ => 0) (disarmBackward s))

theorem disarmedAt_psq (s : State) :
    (disarmedAt s).psq = { s.psq with current := s.psq.current.map PickRecord.disarmed } := by
  simp [disarmedAt]

theorem disarmedAt_frame (s : State) :
    (disarmedAt s).tbm = s.tbm ∧ (disarmedAt s).wfm = (disarmBackward s).wfm ∧
      (disarmedAt s).drv = (disarmBackward s).drv := by
  simp [disarmedAt]

theorem disarmedAt_snapshot {s : State} {m : MachineRecord} (hm : s.tbm.machine = some m) :
    (disarmedAt s).asc =
      { snapshot := some { entry := .backward, hookAdvance := 0, latchAngle := m.latchAngle, armed := none } } := by
  simp [disarmedAt, makeSnapshot, hm]

theorem backwardBoundary_unwinds {s : State} {newest : PickRecord} (h : s.psq.history.getLast? = some newest) :
    backwardBoundary s = settle (unwind newest (disarmedAt s)) := by
  have h' : (disarmedAt s).psq.history.getLast? = some newest := by rw [disarmedAt_psq]; exact h
  unfold backwardBoundary
  unfold disarmedAt at h'
  dsimp only
  rw [h']
  rfl

/-- 01 R19: a backward crossing with PH empty raises D. -/
def depthRaised (s : State) : State := { s with psq := { s.psq with depth := satInc 255 s.psq.depth } }

theorem backwardBoundary_fallsBehind {s : State} (h : s.psq.history = []) :
    backwardBoundary s = postBackstep (depthRaised (disarmedAt s)) := by
  have h' : (disarmedAt s).psq.history.getLast? = none := by rw [disarmedAt_psq, h]; rfl
  unfold backwardBoundary
  unfold disarmedAt at h'
  dsimp only
  rw [h']
  rfl

/-- Whichever way it steps the run back, the handling leaves the snapshot, the monitor and the channels as the
disarm does. -/
theorem backwardBoundary_disarms (s : State) :
    (backwardBoundary s).asc = (disarmedAt s).asc ∧ (backwardBoundary s).wfm = (disarmedAt s).wfm ∧
      (backwardBoundary s).drv = (disarmedAt s).drv := by
  cases h : s.psq.history.getLast? with
  | some newest => simp [backwardBoundary_unwinds h]
  | none =>
    rw [backwardBoundary_fallsBehind (List.getLast?_eq_none_iff.mp h)]
    simp [depthRaised]

theorem unwound_disarmed (r : PickRecord) : r.disarmed.unwound = r.unwound := by
  unfold PickRecord.disarmed
  split <;> rfl

theorem disarmed_not_armed (r : PickRecord) : r.disarmed.state ≠ .armed := by
  unfold PickRecord.disarmed
  split
  · simp [PickRecord.unwound]
  · assumption

/-- The run as the unwind of a disarmed run leaves it (01 R18, R22). -/
theorem unwind_disarmedAt_psq (newest : PickRecord) (s : State) :
    (unwind newest (disarmedAt s)).psq =
      { s.psq.unwound newest with
        warningReady :=
          s.psq.warningReady ||
            decide (0 < s.lowWaterMark ∧
              s.lowWaterMark ≤ (s.psq.nextPick.toList ++ s.psq.replay).length + s.psq.queue.length) } := by
  have hmark : (disarmedAt s).lowWaterMark = s.lowWaterMark := by simp [State.lowWaterMark, disarmedAt_frame]
  have hcurrent : (s.psq.current.map PickRecord.disarmed).map PickRecord.unwound = s.psq.current.map PickRecord.unwound := by
    cases s.psq.current <;> simp [unwound_disarmed]
  rw [unwind_psq, hmark, disarmedAt_psq]
  simp only [Psq.unwound, hcurrent]

theorem backwardBoundary_psq_unwinds {s : State} {newest : PickRecord} (h : s.psq.history.getLast? = some newest) :
    (backwardBoundary s).psq =
      { s.psq.unwound newest with
        warningReady :=
          s.psq.warningReady ||
            decide (0 < s.lowWaterMark ∧
              s.lowWaterMark ≤ (s.psq.nextPick.toList ++ s.psq.replay).length + s.psq.queue.length) } := by
  rw [backwardBoundary_unwinds h, ← unwind_disarmedAt_psq]
  simp

theorem backwardBoundary_psq_fallsBehind {s : State} (h : s.psq.history = []) :
    (backwardBoundary s).psq =
      { s.psq with current := s.psq.current.map PickRecord.disarmed, depth := satInc 255 s.psq.depth } := by
  rw [backwardBoundary_fallsBehind h]
  simp [depthRaised, disarmedAt_psq]

/-- 01 R18, R19: a back-step is no matter of the queue, the expected ordinal and the counters. -/
theorem backwardBoundary_psq_kept (s : State) :
    (backwardBoundary s).psq.queue = s.psq.queue ∧ (backwardBoundary s).psq.expected = s.psq.expected ∧
      (backwardBoundary s).psq.dwells = s.psq.dwells ∧ (backwardBoundary s).psq.picksEntered = s.psq.picksEntered := by
  cases h : s.psq.history.getLast? with
  | some newest => simp [backwardBoundary_psq_unwinds h, Psq.unwound]
  | none => simp [backwardBoundary_psq_fallsBehind (List.getLast?_eq_none_iff.mp h)]

theorem postBackstep_posted (s : State) {e : Event}
    (h : .backstep (s.psq.current.map fun r => (r.ordinal, r.state)) s.nextOrdinal s.psq.depth = e) :
    Posted e (postBackstep s) :=
  h ▸ post_posted _ s

/-- 01 R18: BACKSTEP names the record that comes back, the record that becomes NEXT, and D as it stays. -/
theorem backwardBoundary_posts_unwinds {s : State} {newest : PickRecord} (h : s.psq.history.getLast? = some newest) :
    Posted (.backstep (some (newest.ordinal, newest.state)) s.currentOrdinal s.psq.depth) (backwardBoundary s) := by
  rw [backwardBoundary_unwinds h]
  refine (settle_handedOn _).posted _ (postBackstep_posted _ ?_)
  have hpsq := unwind_disarmedAt_psq newest s
  simp only [unwind, postBackstep_frame] at hpsq
  have hnext : (s.psq.current.map PickRecord.unwound).map PickRecord.ordinal = s.currentOrdinal := by
    unfold State.currentOrdinal
    cases s.psq.current <;> rfl
  simp only [State.nextOrdinal, hpsq, Psq.unwound, hnext]
  rfl

/-- 01 R19: with PH empty BACKSTEP carries CURRENT as the disarm leaves it, and D as it rises. -/
theorem backwardBoundary_posts_fallsBehind {s : State} (h : s.psq.history = []) :
    Posted (.backstep (s.psq.current.map fun r => (r.ordinal, r.disarmed.state)) s.nextOrdinal (satInc 255 s.psq.depth))
      (backwardBoundary s) := by
  rw [backwardBoundary_fallsBehind h]
  refine postBackstep_posted _ ?_
  have hcur : ((s.psq.current.map PickRecord.disarmed).map fun r => (r.ordinal, r.state)) =
      s.psq.current.map fun r => (r.ordinal, r.disarmed.state) := by
    cases s.psq.current <;> simp [disarmed_ordinal]
  simp only [depthRaised, State.nextOrdinal, disarmedAt_psq, hcur]

/-- 06 R120, 07 R130: what the handling leaves of the monitor and the channels where a part is armed. -/
theorem backwardBoundary_armed {s : State} {a : ArmedPart} (h : s.armedPart = some a) :
    (backwardBoundary s).wfm = (closeWindow s).wfm ∧ (backwardBoundary s).drv = (offReached a s).drv := by
  obtain ⟨_, hwfm, hdrv⟩ := backwardBoundary_disarms s
  obtain ⟨_, hdwfm, hddrv⟩ := disarmedAt_frame s
  obtain ⟨hw, hd⟩ := disarmBackward_armed h
  exact ⟨hwfm.trans (hdwfm.trans hw), hdrv.trans (hddrv.trans hd)⟩

theorem backwardBoundary_unarmed {s : State} (h : s.armedPart = none) :
    (backwardBoundary s).wfm = s.wfm ∧ (backwardBoundary s).drv = s.drv := by
  obtain ⟨_, hwfm, hdrv⟩ := backwardBoundary_disarms s
  obtain ⟨_, hdwfm, hddrv⟩ := disarmedAt_frame s
  rw [disarmBackward_unarmed h] at hdwfm hddrv
  exact ⟨hwfm.trans hdwfm, hdrv.trans hddrv⟩

theorem backwardBoundary_asc {s : State} {m : MachineRecord} (hm : s.tbm.machine = some m) :
    (backwardBoundary s).asc =
      { snapshot := some { entry := .backward, hookAdvance := 0, latchAngle := m.latchAngle, armed := none } } :=
  (backwardBoundary_disarms s).1.trans (disarmedAt_snapshot hm)

/-! ### The backward wrap step -/

/-- A backward step over the wrap ends in what the rest of the step leaves of the boundary handling. -/
theorem exec_backwardWrap {m : MachineRecord} {line : EncLine} {s : State} {taken : CausesTaken}
    (h : StepReady m line .backward s) (hpos : s.stk.position = 0) (hn : NoneTaken taken s) (elapsed : Nat) :
    ∃ u t, AtBoundary m .backward elapsed s u ∧
      exec (.encoderStep line elapsed [] taken) s = .next (kickTransmitter t) ∧ StepRest (backwardBoundary u) t ∧
      UnarmedRest (backwardBoundary u) t ∧
      (taken = .only [] →
        t.psq = (backwardBoundary u).psq ∧ t.wfm = (backwardBoundary u).wfm ∧ t.drv = (backwardBoundary u).drv) := by
  obtain ⟨u, k, hu, hexec⟩ := exec_wrapStep h (by simp [stepInfo, hpos]) hn elapsed
  have hrest : ∀ x ∈ afterBoundary m s.run.state .backward k, x ≠ .boundary ∧ x ≠ .release :=
    fun x => mem_afterBoundary
  have hunarmed : (backwardBoundary u).armedPart = none := by
    simp [State.armedPart, backwardBoundary_asc (hu.tbm ▸ h.2.1)]
  refine ⟨u, _, hu, hexec, stepRest (fun x hx => (hrest x hx).1) taken _, unarmedRest hrest taken hunarmed, ?_⟩
  rintro rfl
  obtain ⟨hpsq, _, hwfm, hdrv⟩ := handleRest_unarmed
    (c := stepInfo m.counts s.stk.position .backward) hrest hunarmed
  exact ⟨hpsq, hwfm, hdrv⟩

/-- Settles O35: the disarm, the step back, and the rest of the step, which leaves what they set. -/
theorem backwardBoundaryUnwindsTheRun : Obligations.BackwardBoundaryUnwindsTheRun := by
  intro s m line elapsed taken hready hpos hn disarmed
  obtain ⟨u, t, hu, hexec, hall, hafter, honly⟩ := exec_backwardWrap hready hpos hn elapsed
  have hum : u.tbm.machine = some m := by rw [hu.tbm, hready.2.1]
  have hlow : u.lowWaterMark = m.lowWater := by simp [State.lowWaterMark, hum]
  have hua : u.armedPart = s.armedPart := armedPart_congr hu.asc
  have hudrv : u.drv = s.drv := hu.drv
  have hevent : LoomEvent s (backwardBoundary u) := hu.loomEvent.trans (backwardBoundary_handedOn u).toLoomEvent
  have hposted : ∀ e, Posted e (backwardBoundary u) → s.dlp.transmitter ≠ none → Posted e (kickTransmitter t) :=
    fun e he hbusy => hevent.posted_kick hall.loom hbusy he
  obtain ⟨hqueue, hexpected, hdwells, hpicks⟩ := backwardBoundary_psq_kept u
  obtain ⟨f, hf, hpsq⟩ := hall.psq
  refine ⟨kickTransmitter t, hexec, undisturbed_kick (hevent.trans hall.loom).undisturbed, ?_⟩
  simp only [kickTransmitter_frame, State.currentOrdinal]
  refine ⟨by rw [hpsq, ← hu.psq, ← hqueue], by rw [hpsq, ← hu.psq, ← hexpected], by rw [hpsq, ← hu.psq, ← hdwells],
    by rw [hpsq, ← hu.psq, ← hpicks], by rw [hafter.asc, backwardBoundary_asc hum], fun a ha => ?armed,
    fun ha ho => ?unarmed, fun newest hnew => ?unwinds, fun hempty => ?behind⟩
  case armed =>
    obtain ⟨hwfm, hdrv⟩ := backwardBoundary_armed (hua.trans ha)
    have hchannel := offReached_channel a u
    rw [← hdrv, hudrv] at hchannel
    refine ⟨?_, fun dc hdc => ?_, fun ho dc hdc => ?_⟩
    · have hclosed : t.wfm = (closeWindow u).wfm := by
        rcases hafter.wfm with h | h <;> simp [h, hwfm]
      rw [hclosed, closeWindow_wfm, hu.wfm]
    · have hoff := (hchannel dc).trans (if_pos hdc)
      rcases hafter.drv dc with h | h
      · rw [h, hoff]
      · rw [h, hoff, switchedOff_twice]
    · obtain ⟨_, _, hd⟩ := honly ho
      have hsame : t.drv.channels[dc] = (backwardBoundary u).drv.channels[dc] := by rw [hd]
      exact hsame.trans ((hchannel dc).trans (if_neg (by simpa using hdc)))
  case unarmed =>
    obtain ⟨hwfm, hdrv⟩ := backwardBoundary_unarmed (hua.trans ha)
    obtain ⟨_, hw, hd⟩ := honly ho
    exact ⟨by rw [hw, hwfm, hu.wfm], by rw [hd, hdrv, hudrv]⟩
  case unwinds =>
    have hnew' : u.psq.history.getLast? = some newest := by rw [hu.psq, hnew]
    have hb := backwardBoundary_psq_unwinds hnew'
    rw [hlow, hu.psq] at hb
    rw [hb] at hpsq
    refine ⟨by rw [hpsq]; rfl, by rw [hpsq]; exact congrArg some (hf newest), fun ho => ?_, by rw [hpsq]; rfl,
      by rw [hpsq]; rfl, by rw [hpsq]; rfl, by rw [hpsq]; rfl, fun hbusy => ?_⟩
    · have hsame : t.psq = (backwardBoundary u).psq := by
        rcases ho with ho | ho
        · exact (honly ho).1
        · refine hafter.psq fun r hr => ?_
          rw [hb] at hr
          cases hr
          exact ho
      rw [hsame, hb]
      rfl
    · have hpost := backwardBoundary_posts_unwinds hnew'
      simp only [State.currentOrdinal, hu.psq] at hpost
      exact hposted _ hpost hbusy
  case behind =>
    have hempty' : u.psq.history = [] := by rw [hu.psq, hempty]
    have hb := backwardBoundary_psq_fallsBehind hempty'
    rw [hu.psq] at hb
    have hsame : t.psq = (backwardBoundary u).psq := by
      refine hafter.psq fun r hr => ?_
      rw [hb] at hr
      obtain ⟨r', _, rfl⟩ := Option.map_eq_some_iff.mp hr
      exact disarmed_not_armed r'
    rw [hsame, hb]
    refine ⟨hempty, rfl, rfl, rfl, rfl, rfl, fun hbusy => ?_⟩
    have hpost := backwardBoundary_posts_fallsBehind hempty'
    simp only [State.nextOrdinal, hu.psq] at hpost
    exact hposted _ hpost hbusy

end Sys2Proof.Machine

/-! ## The armed part and the channels through the rest of a step -/

namespace Sys2Proof.Machine

/-! ### The armed part after each handling -/

theorem mem_insertBy {α : Type} (le : α → α → Bool) (x y : α) (l : List α) : y ∈ insertBy le x l ↔ y = x ∨ y ∈ l := by
  induction l with
  | nil => simp [insertBy]
  | cons z zs ih =>
    unfold insertBy
    split
    · simp only [List.mem_cons, ih]
      tauto
    · simp

theorem mem_sortBy {α : Type} (le : α → α → Bool) (y : α) (l : List α) : y ∈ sortBy le l ↔ y ∈ l := by
  have h : ∀ (l acc : List α), y ∈ l.foldl (fun acc x => insertBy le x acc) acc ↔ y ∈ acc ∨ y ∈ l := by
    intro l
    induction l with
    | nil => simp
    | cons z zs ih =>
      intro acc
      rw [List.foldl_cons, ih, mem_insertBy, List.mem_cons]
      tauto
  simpa [sortBy] using h l []

/-- The armed part after action `j` is fired, where there is one (06 R114). -/
def ArmedPart.fireAt (a : ArmedPart) (j : Nat) : ArmedPart :=
  match a.actions[j]? with
  | none => a
  | some x => a.fire j x

/-- The armed part after the window opening angle is handed, where the step crosses it (06 R116). -/
def ArmedPart.opened (crosses : Nat → Bool) (a : ArmedPart) : ArmedPart :=
  if !a.openHanded && crosses a.windowOpen then { a with openHanded := true } else a

/-- The armed part after the window close angle is handed, where the step crosses it (06 R116). -/
def ArmedPart.closed (crosses : Nat → Bool) (a : ArmedPart) : ArmedPart :=
  if !a.closeHanded && crosses a.windowClose then { a with closeHanded := true } else a

/-- What a handling after the boundary does to the armed part. -/
def Handling.onArmed (crosses : Nat → Bool) : Handling → ArmedPart → ArmedPart
  | .fire i => fun a => (a.firings crosses i).foldl ArmedPart.fireAt a
  | .windowOpen => ArmedPart.opened crosses
  | .windowClose => fun a => (a.opened crosses).closed crosses
  | _ => id

/-- The snapshot is `sn` but for its armed part, which is `a`. -/
def State.HasSnapshot (s : State) (sn : Snapshot) (a : Option ArmedPart) : Prop :=
  s.asc.snapshot = some { sn with armed := a }

namespace State.HasSnapshot

variable {s t : State} {sn : Snapshot} {a : Option ArmedPart}

theorem armedPart (h : s.HasSnapshot sn a) : s.armedPart = a := by
  simp only [HasSnapshot] at h
  simp [State.armedPart, h]

theorem congr (h : s.HasSnapshot sn a) (he : t.asc = s.asc) : t.HasSnapshot sn a := by
  rwa [HasSnapshot, he]

theorem setArmed (h : s.HasSnapshot sn a) (b : Option ArmedPart) : (setArmed b s).HasSnapshot sn b := by
  simp only [HasSnapshot] at *
  simp [Machine.setArmed, h]

end State.HasSnapshot

theorem fireOne_sends {s : State} {a : ArmedPart} {j : Nat} {x : ArmedAction} (ha : s.armedPart = some a)
    (hx : a.actions[j]? = some x) :
    fireOne s j = if a.beginsWatch x then beginWatch a.weft.feeder (sendAction a j x s) else sendAction a j x s := by
  simp only [fireOne, ha, hx]
  rfl

theorem fireOne_snapshot {s : State} {sn : Snapshot} {a : ArmedPart} (h : s.HasSnapshot sn (some a)) (j : Nat) :
    (fireOne s j).HasSnapshot sn (some (a.fireAt j)) := by
  unfold ArmedPart.fireAt
  cases hx : a.actions[j]? with
  | none =>
    have hsame : fireOne s j = s := by simp [fireOne, h.armedPart, hx]
    rwa [hsame]
  | some x =>
    rw [fireOne_sends h.armedPart hx]
    refine (h.setArmed (some (a.fire j x))).congr ?_
    split <;> simp [sendAction]

theorem fireOnes_snapshot {s : State} {sn : Snapshot} {a : ArmedPart} (h : s.HasSnapshot sn (some a)) (l : List Nat) :
    (l.foldl fireOne s).HasSnapshot sn (some (l.foldl ArmedPart.fireAt a)) := by
  induction l generalizing s a with
  | nil => exact h
  | cons j js ih => exact ih (fireOne_snapshot h j)

theorem handOpening_snapshot {s : State} {sn : Snapshot} {a : ArmedPart} (h : s.HasSnapshot sn (some a))
    (crosses : Nat → Bool) : (handOpening crosses s).HasSnapshot sn (some (a.opened crosses)) := by
  simp only [handOpening, h.armedPart, ArmedPart.opened]
  split
  · exact (h.setArmed _).congr (by simp)
  · exact h

theorem handClosing_snapshot {s : State} {sn : Snapshot} {a : ArmedPart} (h : s.HasSnapshot sn (some a))
    (crosses : Nat → Bool) :
    (handClosing crosses s).HasSnapshot sn (some ((a.opened crosses).closed crosses)) := by
  have ho := handOpening_snapshot h crosses
  simp only [handClosing, ho.armedPart, ArmedPart.closed]
  split
  · exact (ho.setArmed _).congr (by simp)
  · exact ho

/-- 06 R114 to R116: a handling after the boundary does to the armed part what `onArmed` says. -/
theorem handle_snapshot {s : State} {sn : Snapshot} {a : ArmedPart} (h : s.HasSnapshot sn (some a)) (c : StepInfo)
    {x : Handling} (hx : x ≠ .boundary) : (handle c s x).HasSnapshot sn (some (x.onArmed c.crosses a)) := by
  cases x with
  | boundary => exact absurd rfl hx
  | fire i =>
    simp only [handle, fireAction, h.armedPart]
    exact fireOnes_snapshot h _
  | windowOpen => exact handOpening_snapshot h _
  | windowClose => exact handClosing_snapshot h _
  | _ => exact h.congr (by simp [handle])

theorem handles_snapshot {s : State} {sn : Snapshot} {a : ArmedPart} (h : s.HasSnapshot sn (some a)) (c : StepInfo)
    {l : List Handling} (hl : ∀ x ∈ l, x ≠ .boundary) :
    (l.foldl (handle c) s).HasSnapshot sn (some (l.foldl (fun b x => x.onArmed c.crosses b) a)) := by
  induction l generalizing s a with
  | nil => exact h
  | cons x xs ih => exact ih (handle_snapshot h c (hl x (by simp))) fun y hy => hl y (by simp [hy])

/-! ### What is fired by the end of a step -/

/-- The armed part with the actions of the indices in `F` fired. -/
def ArmedPart.marked (a : ArmedPart) (F : Nat → Bool) : ArmedPart :=
  { a with actions := a.actions.mapIdx fun j x => { x with fired := F j } }

theorem marked_getElem? (a : ArmedPart) (F : Nat → Bool) (j : Nat) :
    (a.marked F).actions[j]? = a.actions[j]?.map fun x : ArmedAction => { x with fired := F j } := by
  simp [ArmedPart.marked]

theorem marked_fireAt (a : ArmedPart) (F : Nat → Bool) (j : Nat) :
    (a.marked F).fireAt j = a.marked fun i => F i || decide (i = j) := by
  unfold ArmedPart.fireAt
  rw [marked_getElem?]
  cases hx : a.actions[j]? with
  | none =>
    have hlen := List.getElem?_eq_none_iff.mp hx
    refine congrArg (fun l => { a with actions := l }) (List.ext_getElem? fun i => ?_)
    by_cases hi : i = j
    · subst hi
      simp [hx]
    · simp [hi]
  | some x =>
    refine congrArg (fun l => { a with actions := l }) (List.ext_getElem? fun i => ?_)
    by_cases hi : i = j
    · subst hi
      obtain ⟨hlt, rfl⟩ := List.getElem?_eq_some_iff.mp hx
      simp [ArmedPart.marked, hlt]
    · simp [ArmedPart.marked, hi, Ne.symm hi]

theorem marked_foldl (a : ArmedPart) (F : Nat → Bool) (l : List Nat) :
    l.foldl ArmedPart.fireAt (a.marked F) = a.marked fun i => F i || decide (i ∈ l) := by
  induction l generalizing F with
  | nil => simp
  | cons j js ih =>
    rw [List.foldl_cons, marked_fireAt, ih]
    simp [Bool.or_assoc]

/-- The step crosses the effective angle of action `j` of the armed part. -/
def ArmedPart.crossedAt (a : ArmedPart) (crosses : Nat → Bool) (j : Nat) : Bool :=
  (a.actions[j]?).any fun x => crosses x.effective

theorem marked_firings (a : ArmedPart) (F : Nat → Bool) (crosses : Nat → Bool) (i : Nat) :
    (∀ j ∈ (a.marked F).firings crosses i, a.crossedAt crosses j = true) ∧
      (a.crossedAt crosses i = true → F i = false → i ∈ (a.marked F).firings crosses i) := by
  unfold ArmedPart.firings ArmedPart.crossedAt
  rw [marked_getElem?]
  cases hx : a.actions[i]? with
  | none => simp
  | some x =>
    simp only [Option.map_some]
    split
    · rename_i hno
      refine ⟨by simp, fun hc hf => ?_⟩
      simp_all
    · rename_i hyes
      refine ⟨fun j hj => ?_, fun hc hf => ?_⟩
      · rw [mem_sortBy, List.mem_filter] at hj
        obtain ⟨_, hj⟩ := hj
        unfold ArmedPart.handedBy at hj
        rw [marked_getElem?] at hj
        cases hy : a.actions[j]? <;> simp_all
      · rw [mem_sortBy, List.mem_filter]
        have hlt : i < a.actions.length := (List.getElem?_eq_some_iff.mp hx).1
        refine ⟨by simpa [ArmedPart.marked] using hlt, ?_⟩
        unfold ArmedPart.handedBy
        rw [marked_getElem?, hx]
        simp_all

/-- 06 R114: the actions handed in list order, every crossed action among them is fired, and no other. -/
theorem fires_marked (a : ArmedPart) (crosses : Nat → Bool) (n : Nat) :
    ∃ F, (List.range n).foldl (fun b i => (Handling.fire i).onArmed crosses b) (a.marked fun _ => false) = a.marked F ∧
      (∀ j, F j = true → a.crossedAt crosses j = true) ∧ ∀ i < n, a.crossedAt crosses i = true → F i = true := by
  induction n with
  | zero => exact ⟨_, rfl, by simp, by simp⟩
  | succ n ih =>
    obtain ⟨F, he, hF, hall⟩ := ih
    obtain ⟨hfired, hself⟩ := marked_firings a F crosses n
    refine ⟨fun j => F j || decide (j ∈ (a.marked F).firings crosses n), ?_, fun j hj => ?_, fun i hi hc => ?_⟩
    · rw [List.range_succ, List.foldl_append, he]
      exact marked_foldl a F _
    · rcases Bool.or_eq_true_iff.mp hj with h | h
      · exact hF j h
      · exact hfired j (of_decide_eq_true h)
    · rcases Nat.lt_succ_iff_lt_or_eq.mp hi with h | rfl
      · simp [hall i h hc]
      · cases hFi : F i with
        | true => simp [hFi]
        | false => simp [hself hc hFi]

theorem fires_fresh {a : ArmedPart} (hlen : a.actions.length ≤ 8) (hfresh : ∀ x ∈ a.actions, x.fired = false)
    (crosses : Nat → Bool) :
    fireList.foldl (fun b x => x.onArmed crosses b) a =
      { a with actions := a.actions.map fun x => { x with fired := crosses x.effective } } := by
  have hstart : a.marked (fun _ => false) = a := by
    refine congrArg (fun l => { a with actions := l }) (List.ext_getElem? fun i => ?_)
    cases hx : a.actions[i]? with
    | none => simp [hx]
    | some x => simp [hx, ← hfresh x (List.mem_of_getElem? hx)]
  obtain ⟨F, he, hF, hall⟩ := fires_marked a crosses 8
  rw [hstart] at he
  rw [fireList, List.foldl_map, he]
  refine congrArg (fun l => { a with actions := l }) (List.ext_getElem? fun i => ?_)
  cases hx : a.actions[i]? with
  | none => simp [hx]
  | some x =>
    have hlt : i < 8 := Nat.lt_of_lt_of_le (List.getElem?_eq_some_iff.mp hx).1 hlen
    have hc : a.crossedAt crosses i = crosses x.effective := by simp [ArmedPart.crossedAt, hx]
    have hFi : F i = crosses x.effective := by
      rw [← hc]
      exact Bool.eq_iff_iff.mpr ⟨hF i, hall i hlt⟩
    simp [hx, hFi]

/-- The armed part at the end of the forward step that armed it: every angle the step crosses is handed. -/
def ArmedPart.handed (a : ArmedPart) (crosses : Nat → Bool) : ArmedPart :=
  { a with
    actions := a.actions.map fun x => { x with fired := crosses x.effective }
    openHanded := crosses a.windowOpen, closeHanded := crosses a.windowClose }

/-- 06 R114 to R116: a freshly armed part through the handlings after a forward boundary crossing. -/
theorem afterBoundary_onArmed {a : ArmedPart} (hlen : a.actions.length ≤ 8) (hopen : a.openHanded = false)
    (hclose : a.closeHanded = false) (hfresh : ∀ x ∈ a.actions, x.fired = false) (crosses : Nat → Bool)
    (m : MachineRecord) (run : RunState) (k : Stk) :
    (afterBoundary m run .forward k).foldl (fun b x => x.onArmed crosses b) a = a.handed crosses := by
  have hid : ∀ (p : Prop) [Decidable p] (x : Handling) (b : ArmedPart), x.onArmed crosses = id →
      (if p then [x] else []).foldl (fun b x => x.onArmed crosses b) b = b := by
    intro p _ x b hx
    split <;> simp [hx]
  simp only [afterBoundary, List.foldl_append]
  rw [hid _ .reverse _ rfl, hid _ .indexMissing _ rfl]
  have hhead : [Handling.keep, Handling.latch].foldl (fun b x => x.onArmed crosses b) a = a := rfl
  rw [hhead, fires_fresh hlen hfresh]
  simp only [List.foldl_cons, List.foldl_nil, Handling.onArmed, ArmedPart.opened, ArmedPart.closed, ArmedPart.handed,
    hopen, hclose]
  cases ho : crosses a.windowOpen <;> cases hc : crosses a.windowClose <;> simp [ho, hc]

/-! ### A part with no angle at the crossing -/

/-- No angle of the armed part is crossed. -/
def ArmedPart.Uncrossed (a : ArmedPart) (crosses : Nat → Bool) : Prop :=
  (∀ x ∈ a.actions, crosses x.effective = false) ∧ crosses a.windowOpen = false ∧ crosses a.windowClose = false

theorem handle_uncrossed {s : State} {a : ArmedPart} (ha : s.armedPart = some a) {c : StepInfo}
    (hu : a.Uncrossed c.crosses) {x : Handling} (hx : x ≠ .boundary) :
    (handle c s x).psq = s.psq ∧ (handle c s x).asc = s.asc := by
  obtain ⟨hact, ho, hc⟩ := hu
  have hopening : handOpening c.crosses s = s := by simp [handOpening, ha, ho]
  cases x with
  | boundary => exact absurd rfl hx
  | fire i =>
    have hnone : a.firings c.crosses i = [] := by
      unfold ArmedPart.firings
      split
      · rfl
      · rename_i x hxi
        simp [hact x (List.mem_of_getElem? hxi)]
    simp [handle, fireAction, ha, hnone]
  | windowOpen => simp [handle, hopening]
  | windowClose => simp [handle, handClosing, hopening, ha, hc]
  | _ => simp [handle]

theorem handles_uncrossed {s : State} {a : ArmedPart} (ha : s.armedPart = some a) {c : StepInfo}
    (hu : a.Uncrossed c.crosses) {l : List Handling} (hl : ∀ x ∈ l, x ≠ .boundary) :
    (l.foldl (handle c) s).psq = s.psq := by
  have h := List.foldlRecOn l (handle c) (motive := fun t => t.psq = s.psq ∧ t.asc = s.asc) ⟨rfl, rfl⟩ (by
    rintro t ⟨hpsq, hasc⟩ x hx
    obtain ⟨h1, h2⟩ := handle_uncrossed ((armedPart_congr hasc).trans ha) hu (hl x hx)
    exact ⟨h1.trans hpsq, h2.trans hasc⟩)
  exact h.1

/-! ### Blocked channels -/

/-- 08 R141, R142: a blocked channel takes no ON and no OFF, and neither blocks a channel. -/
structure BlockKept (c c' : DriverChannel) : Prop where
  blocked : c.phase = .blocked → c' = c
  free : c.phase ≠ .blocked → c'.phase ≠ .blocked ∧ c'.block = c.block

namespace BlockKept

theorem refl (c : DriverChannel) : BlockKept c c := ⟨fun _ => rfl, fun h => ⟨h, rfl⟩⟩

theorem trans {a b c : DriverChannel} (h1 : BlockKept a b) (h2 : BlockKept b c) : BlockKept a c where
  blocked h := by
    have hab := h1.blocked h
    exact (h2.blocked (hab ▸ h)).trans hab
  free h := by
    obtain ⟨hb, hbl⟩ := h1.free h
    obtain ⟨hc, hcl⟩ := h2.free hb
    exact ⟨hc, hcl.trans hbl⟩

/-- One channel is set to one that keeps its block. -/
theorem setChannel {dc : DriverIdx} {c' : DriverChannel} {s : State} (h : BlockKept s.drv.channels[dc] c')
    (d : DriverIdx) : BlockKept s.drv.channels[d] (setChannel dc c' s).drv.channels[d] := by
  by_cases hd : dc = d
  · subst hd
    simpa using h
  · have hne : dc.val ≠ d.val := fun hv => hd (Fin.ext hv)
    have hsame : (Machine.setChannel dc c' s).drv.channels[d] = s.drv.channels[d] := by simp [hne]
    rw [hsame]
    exact refl _

end BlockKept

theorem switchedOff_blockKept (c : DriverChannel) : BlockKept c c.switchedOff where
  blocked h := by simp [DriverChannel.switchedOff, h, DrivePhase.driving]
  free h := by
    unfold DriverChannel.switchedOff
    split
    · simp
    · exact ⟨h, rfl⟩

theorem switchOn_blockKept {c : DriverChannel} (u : InUse) {phase : DrivePhase} (hc : c.phase = .idle)
    (hp : phase ≠ .blocked) : BlockKept c (c.switchOn u phase) where
  blocked h := by simp [hc] at h
  free _ := ⟨hp, rfl⟩

theorem driverOff_blockKept (dc : DriverIdx) (s : State) (d : DriverIdx) :
    BlockKept s.drv.channels[d] (driverOff dc s).drv.channels[d] :=
  (switchedOff_blockKept _).setChannel d

theorem driverOn_blockKept (dc : DriverIdx) (s : State) (d : DriverIdx) :
    BlockKept s.drv.channels[d] (driverOn dc s).drv.channels[d] := by
  unfold driverOn
  dsimp only
  split
  · rename_i h
    split
    · exact .refl _
    · split
      · exact .refl _
      · exact (switchOn_blockKept _ h.2 (by simp)).setChannel d
      · exact (switchOn_blockKept _ h.2 (by simp)).setChannel d
  · exact .refl _

theorem fireOne_blockKept (s : State) (j : Nat) (d : DriverIdx) :
    BlockKept s.drv.channels[d] (fireOne s j).drv.channels[d] := by
  have hsend : ∀ (a : ArmedPart) (x : ArmedAction), BlockKept s.drv.channels[d] (sendAction a j x s).drv.channels[d] := by
    intro a x
    let v := setArmed (some (a.fire j x)) s
    have hv : v.drv.channels[d] = s.drv.channels[d] := by simp [v]
    rw [← hv]
    unfold sendAction switchChannel
    split
    · exact driverOn_blockKept _ v d
    · exact driverOff_blockKept _ v d
  obtain h | ⟨a, x, _, _, h⟩ := fireOne_cases s j
  · rw [h]
    exact .refl _
  · rw [h]
    split
    · have hw : (beginWatch a.weft.feeder (sendAction a j x s)).drv.channels[d] =
          (sendAction a j x s).drv.channels[d] := by simp
      rw [hw]
      exact hsend a x
    · exact hsend a x

theorem handle_blockKept (c : StepInfo) (s : State) {x : Handling} (hb : x ≠ .boundary) (hr : x ≠ .release)
    (d : DriverIdx) : BlockKept s.drv.channels[d] (handle c s x).drv.channels[d] := by
  have hsame : ∀ t : State, t.drv = s.drv → BlockKept s.drv.channels[d] t.drv.channels[d] := fun t h => by
    rw [h]
    exact .refl _
  cases x with
  | boundary => exact absurd rfl hb
  | release => exact absurd rfl hr
  | fire i =>
    cases ha : s.armedPart with
    | none => exact hsame _ (by simp [handle, fireAction, ha])
    | some a =>
      simp only [handle, fireAction, ha]
      refine List.foldlRecOn _ fireOne (motive := fun t => BlockKept s.drv.channels[d] t.drv.channels[d]) (.refl _) ?_
      intro t ht j _
      exact ht.trans (fireOne_blockKept t j d)
  | _ => exact hsame _ (by simp [handle])

theorem handles_blockKept (c : StepInfo) (s : State) {l : List Handling} (hl : ∀ x ∈ l, x ≠ .boundary ∧ x ≠ .release)
    (d : DriverIdx) : BlockKept s.drv.channels[d] (l.foldl (handle c) s).drv.channels[d] := by
  refine List.foldlRecOn l (handle c) (motive := fun t => BlockKept s.drv.channels[d] t.drv.channels[d]) (.refl _) ?_
  intro t ht x hx
  obtain ⟨hb, hr⟩ := hl x hx
  exact ht.trans (handle_blockKept c t hb hr d)

theorem handles_handedOn (c : StepInfo) (l : List Handling) (s : State) : HandedOn s (l.foldl (handle c) s) :=
  .foldl (handle_handedOn c) l s

end Sys2Proof.Machine

/-! ## The forward boundary crossing -/

namespace Sys2Proof.Machine

/-! ### The run after a promotion -/

theorem promoted_fields (p : Psq) :
    p.promoted.current = p.nextPick ∧ p.promoted.depth = p.depth ∧ p.promoted.dwells = p.dwells ∧
      p.promoted.expected = p.expected ∧ p.promoted.history = p.retired.history ∧
      p.promoted.picksEntered = p.retired.picksEntered := by
  simp [Psq.promoted]

/-- The records ahead of the pick promoted stay in their order. -/
theorem promoted_ahead (p : Psq) :
    p.promoted.nextPick.toList ++ p.promoted.replay ++ p.promoted.queue = p.replay ++ p.queue := by
  simp only [Psq.promoted, filled_ahead, retired_ahead]
  rfl

theorem promoted_empty (p : Psq) (h : p.promoted.nextPick = none) : p.promoted.replay = [] ∧ p.promoted.queue = [] :=
  filled_empty _ h

/-- 01 R16: PICK_DONE is posted as a promotion moves the record out of CURRENT. -/
theorem promote_posts_pickDone {s : State} {r : PickRecord} (h : s.psq.current = some r) :
    Posted (.pickDone r.enterHistory) (promote s) := by
  have hretire : Posted (.pickDone r.enterHistory) (retireCurrent s) := by
    simp only [retireCurrent, h]
    exact post_posted _ _
  exact (fillNext_handedOn _).posted _ ((withPsq_handedOn _ _).posted _ hretire)

/-- 01 R22: LOW_WATER is posted as a fill takes held ahead below the mark while the warning is ready. -/
theorem fillNext_posts_lowWater {s : State} (hn : s.psq.nextPick = none) (hw : s.psq.warningReady = true)
    (hm : s.heldAhead = s.lowWaterMark) (hpos : 0 < s.lowWaterMark) :
    Posted (.lowWater (s.lowWaterMark - 1) s.psq.expected) (fillNext s) := by
  have hfill : ∀ p : Psq, p.warningReady = true → p.expected = s.psq.expected →
      p.replay.length + p.queue.length + 1 = s.lowWaterMark →
      Posted (.lowWater (s.lowWaterMark - 1) s.psq.expected) (lowWaterAfterFill { s with psq := p }) := by
    intro p hpw hpe hpl
    have hmark : ({ s with psq := p } : State).lowWaterMark = s.lowWaterMark := rfl
    have hheld : ({ s with psq := p } : State).heldAhead = s.lowWaterMark - 1 := by
      simp only [State.heldAhead]
      omega
    unfold lowWaterAfterFill
    rw [if_pos ⟨hpw, by rw [hmark, hheld]; omega⟩, hheld]
    simp only [hpe]
    exact post_posted _ _
  simp only [State.heldAhead] at hm
  unfold fillNext
  rw [hn]
  dsimp only
  cases hr : s.psq.replay with
  | cons r rest =>
    refine hfill _ hw rfl ?_
    simp only [hr, List.length_cons] at hm ⊢
    omega
  | nil =>
    cases hq : s.psq.queue with
    | cons r rest =>
      refine hfill _ hw rfl ?_
      simp only [hr, hq, List.length_cons, List.length_nil] at hm ⊢
      omega
    | nil =>
      simp only [hr, hq, List.length_nil] at hm
      omega

theorem promote_posts_lowWater {s : State} (hw : s.psq.warningReady = true) (hm : s.heldAhead = s.lowWaterMark)
    (hpos : 0 < s.lowWaterMark) : Posted (.lowWater (s.lowWaterMark - 1) s.psq.expected) (promote s) := by
  let v : State :=
    { retireCurrent s with
      psq := { (retireCurrent s).psq with current := (retireCurrent s).psq.nextPick, nextPick := none } }
  have hmark : v.lowWaterMark = s.lowWaterMark := by simp [v, State.lowWaterMark]
  have h := fillNext_posts_lowWater (s := v) rfl (by simp [v, retireCurrent_psq, hw])
    (by rw [hmark, ← hm]; simp [v, State.heldAhead, retireCurrent_psq]) (by rwa [hmark])
  have he : v.psq.expected = s.psq.expected := by simp [v, retireCurrent_psq]
  rw [hmark, he] at h
  exact h

/-! ### The three outcomes of a forward crossing (01 R15) -/

/-- The FORWARD snapshot with the advances of a T_rev, no part armed (06 R107). -/
def forwardEntry (m : MachineRecord) (advance : Nat → Nat) : Snapshot :=
  { entry := .forward, hookAdvance := advance m.hookLatency, latchAngle := m.latchAngle - advance m.hookLatency
    armed := none }

theorem forwardSnapshot_has {s : State} {m : MachineRecord} (hm : s.tbm.machine = some m) :
    (forwardSnapshot s).HasSnapshot (forwardEntry m (advanceOf s.stk.revTime)) none := by
  simp only [State.HasSnapshot, forwardSnapshot, makeSnapshot, hm]
  rfl

/-- The state in which the run is promoted and the FORWARD snapshot made. -/
def promotedAt (s : State) : State := forwardSnapshot (promote s)

theorem promotedAt_frame (s : State) :
    (promotedAt s).psq = (promote s).psq ∧ (promotedAt s).tbm = s.tbm ∧ (promotedAt s).stk = s.stk ∧
      (promotedAt s).wfm = s.wfm ∧ (promotedAt s).run = s.run := by
  simp [promotedAt]

theorem promotedAt_handedOn (s : State) : HandedOn s (promotedAt s) :=
  (promote_handedOn s).trans (forwardSnapshot_handedOn _)

theorem promotedAt_has {s : State} {m : MachineRecord} (hm : s.tbm.machine = some m) :
    (promotedAt s).HasSnapshot (forwardEntry m (advanceOf s.stk.revTime)) none := by
  have hstk : (promote s).stk = s.stk := by simp
  exact hstk ▸ forwardSnapshot_has (s := promote s) (m := m) (by simpa using hm)

/-- 01 R15: with D above 0, or NEXT not on the hooks, only D or the dwells move; the snapshot is made with no part. -/
theorem forwardBoundary_holds {s : State} {m : MachineRecord} (hm : s.tbm.machine = some m)
    (h : 0 < s.psq.depth ∨ s.nextOnHooks = false) :
    (forwardBoundary s).HasSnapshot (forwardEntry m (advanceOf s.stk.revTime)) none ∧
      (forwardBoundary s).psq =
        (if 0 < s.psq.depth then { s.psq with depth := s.psq.depth - 1 }
         else { s.psq with dwells := satInc 4294967295 s.psq.dwells }) := by
  unfold forwardBoundary
  split
  · exact ⟨forwardSnapshot_has hm, by simp⟩
  · rename_i hd
    rw [if_neg (by simp [h.resolve_left hd])]
    exact ⟨forwardSnapshot_has hm, by simp⟩

theorem forwardBoundary_promotes {s : State} (hd : s.psq.depth = 0) (hn : s.nextOnHooks = true) :
    forwardBoundary s = settle (armPromoted (promotedAt s)) := by
  simp [forwardBoundary, hd, hn, promotedAt]

/-- A promotion moves the run, and arming gives the pick promoted its outcome. -/
theorem forwardBoundary_promotes_outcome {s : State} (hd : s.psq.depth = 0) (hn : s.nextOnHooks = true) :
    (promote s).psq.OutcomeOnly (forwardBoundary s).psq := by
  have h := armPromoted_outcome (promotedAt s)
  obtain ⟨hpsq, _⟩ := promotedAt_frame s
  rw [forwardBoundary_promotes hd hn]
  simp only [settle_frame]
  rwa [hpsq] at h

/-! ### The arming of the pick promoted (01 R5, 06 R111, R112) -/

theorem armPromoted_idle {s : State} {r : PickRecord} (hc : s.psq.current = some r)
    (h : s.run.state ≠ .weaving ∨ r.state ≠ .pending) : armPromoted s = s := by
  unfold armPromoted
  rw [if_neg]
  rintro ⟨hw, hp⟩
  rcases h with h | h
  · exact h hw
  · exact h (by simpa [State.currentPending, hc] using hp)

theorem armPromoted_pending {s : State} {r : PickRecord} (hc : s.psq.current = some r) (hw : s.run.state = .weaving)
    (hp : r.state = .pending) : armPromoted s = armCurrent (advanceOf s.stk.revTime) s := by
  unfold armPromoted
  rw [if_pos ⟨hw, by simp [State.currentPending, hc, hp]⟩]

theorem armCurrent_weftless (advance : Nat → Nat) {s : State} {r : PickRecord} (hc : s.psq.current = some r)
    (hw : r.weft = 0) : armCurrent advance s = modCurrent (fun x => { x with state := .inserted }) s := by
  simp [armCurrent, hc, hw]

theorem armCurrent_arms (advance : Nat → Nat) {s : State} {r : PickRecord} {w : WeftChannel} {p : Profile}
    (hc : s.psq.current = some r) (hw : r.weft ≠ 0) (hr : s.tbm.weftRecord r.weft = some w) (he : w.enabled = true)
    (hp : s.tbm.profiles[r.profile] = some p) : armCurrent advance s = armWith advance w p r s := by
  simp only [armCurrent, hc, hw, hr, he, if_true, if_false]
  rw [hp]

/-- 06 R112: the channel or the profile of the pick cannot be used. -/
def ChannelUnusable (t : Tbm) (r : PickRecord) (reason : ChannelReason) : Prop :=
  (reason = .channelAbsent ∧ t.weftRecord r.weft = none) ∨
    (∃ w, t.weftRecord r.weft = some w ∧
      ((reason = .channelDisabled ∧ w.enabled = false) ∨
       (reason = .profileAbsent ∧ w.enabled = true ∧ t.profiles[r.profile] = none)))

theorem armCurrent_faults (advance : Nat → Nat) {s : State} {r : PickRecord} {reason : ChannelReason}
    (hc : s.psq.current = some r) (hw : r.weft ≠ 0) (h : ChannelUnusable s.tbm r reason) :
    armCurrent advance s = channelFault reason s := by
  rcases h with ⟨rfl, hr⟩ | ⟨w, hr, ⟨rfl, he⟩ | ⟨rfl, he, hp⟩⟩
  · simp [armCurrent, hc, hw, hr]
  · simp [armCurrent, hc, hw, hr, he]
  · simp only [armCurrent, hc, hw, hr, he, if_true, if_false]
    rw [hp]

/-- 06 R112, 07 R137: FAULTED with cause CHANNEL, counted, posted and handed. -/
theorem channelFault_settles {s : State} {r : PickRecord} (reason : ChannelReason) (hc : s.psq.current = some r) :
    (channelFault reason s).psq.current = some { r with state := .faulted, cause := some .channel } ∧
      (channelFault reason s).wfm.weftFaults = satInc 4294967295 s.wfm.weftFaults ∧
      .stop (.weftChannel r.ordinal) ∈ (channelFault reason s).run.handed ∧
      Posted (.weftFault r.ordinal r.row r.weft s.countAngle r.arrival (.channel reason)) (channelFault reason s) := by
  unfold channelFault weftFault
  rw [hc]
  dsimp only
  refine ⟨by simp [hc, WeftDetail.cause], by simp [max32], by simp, ?_⟩
  exact (hand_handedOn _ _).posted _ (post_posted _ _)

/-! ### The forward wrap step, no cause taken -/

/-- The state before a forward crossing and the one at which its boundary is handled agree in what the crossing asks. -/
theorem AtBoundary.forward {m : MachineRecord} {elapsed : Nat} {s u : State} (h : AtBoundary m .forward elapsed s u) :
    u.nextOnHooks = s.nextOnHooks ∧ u.lowWaterMark = s.lowWaterMark ∧ u.heldAhead = s.heldAhead ∧
      u.countAngle = 0 := by
  have hp : u.stk.position = 0 := h.position
  refine ⟨?_, ?_, ?_, ?_⟩
  · simp [State.nextOnHooks, State.tagNames, h.psq, h.tag]
  · simp [State.lowWaterMark, h.tbm]
  · simp [State.heldAhead, h.psq]
  · unfold State.countAngle angleOf
    rw [hp]
    split <;> simp

theorem crosses_wrap {c : StepInfo} (h : c.wrap = true) : c.crosses = fun x => decide (x = 0) := by
  funext x
  simp [StepInfo.crosses, h]

/-- Arming leaves the snapshot but for its armed part. -/
theorem armPromoted_has {s : State} {sn : Snapshot} {a : Option ArmedPart} (h : s.HasSnapshot sn a) :
    ∃ a', (armPromoted s).HasSnapshot sn a' := by
  unfold armPromoted
  split
  · unfold armCurrent
    repeat' split
    · exact ⟨a, h⟩
    · exact ⟨a, h⟩
    · exact ⟨a, h.congr (by simp)⟩
    · exact ⟨a, h.congr (by simp)⟩
    · exact ⟨_, (h.setArmed _).congr rfl⟩
    · exact ⟨a, h.congr (by simp)⟩
  · exact ⟨a, h⟩

theorem forwardBoundary_has {s : State} {m : MachineRecord} (hm : s.tbm.machine = some m) :
    ∃ a, (forwardBoundary s).HasSnapshot (forwardEntry m (advanceOf s.stk.revTime)) a := by
  by_cases h : 0 < s.psq.depth ∨ s.nextOnHooks = false
  · exact ⟨none, (forwardBoundary_holds hm h).1⟩
  · simp only [not_or, Nat.not_lt, Nat.le_zero, Bool.not_eq_false] at h
    obtain ⟨hd, hn⟩ := h
    obtain ⟨a, ha⟩ := armPromoted_has (promotedAt_has hm)
    rw [forwardBoundary_promotes hd hn]
    exact ⟨a, ha.congr (by simp)⟩

/-- The rest of a step in which no cause is taken: the snapshot keeps its fields, a part stays armed, and with none
armed the run, the monitor and the channels stay. -/
theorem rest_has {c : StepInfo} {rest : List Handling} (hr : ∀ h ∈ rest, h ≠ .boundary ∧ h ≠ .release) {b : State}
    {sn : Snapshot} {a : Option ArmedPart} (h : b.HasSnapshot sn a) :
    (rest.foldl (handle c) b).HasSnapshot sn (rest.foldl (handle c) b).armedPart ∧
      ((rest.foldl (handle c) b).armedPart = none → a = none) := by
  cases a with
  | none =>
    obtain ⟨_, hasc, _, _⟩ := handleRest_unarmed (c := c) hr h.armedPart
    have ht := h.congr hasc
    exact ⟨by rwa [← ht.armedPart] at ht, fun _ => rfl⟩
  | some part =>
    have ht := handles_snapshot h c fun x hx => (hr x hx).1
    exact ⟨by rwa [← ht.armedPart] at ht, fun hn => by simp [ht.armedPart] at hn⟩

/-- 08 R141, R142, R150: a channel over a forward crossing: a PER_PICK block is released and other blocks stay; with no
part armed nothing else changes. -/
theorem releasedPerPick_rest {c c' : DriverChannel} {unarmed : Prop} (hk : BlockKept c.releasedPerPick c')
    (hu : unarmed → c' = c.releasedPerPick) :
    (c.phase = .blocked → c.block = some .perPick →
        c'.phase ≠ .blocked ∧ c'.block = none ∧ (unarmed → c' = { c with phase := .idle, block := none })) ∧
      (c.phase = .blocked → c.block ≠ some .perPick → c' = c) ∧
      (c.phase ≠ .blocked → unarmed → c' = c) := by
  refine ⟨fun hp hb => ?_, fun hp hb => ?_, fun hp h => ?_⟩
  · have hrel : c.releasedPerPick = { c with phase := .idle, block := none } := by
      simp [DriverChannel.releasedPerPick, DriverChannel.released, hp, hb]
    rw [hrel] at hk hu
    obtain ⟨hfree, hblock⟩ := hk.free (by simp)
    exact ⟨hfree, hblock, hu⟩
  · have hrel : c.releasedPerPick = c := by simp [DriverChannel.releasedPerPick, hb]
    rw [hrel] at hk
    exact hk.blocked hp
  · have hrel : c.releasedPerPick = c := by simp [DriverChannel.releasedPerPick, DriverChannel.released, hp]
    rw [hu h, hrel]

end Sys2Proof.Machine

/-! ## The forward boundary crossing moves the run -/

namespace Sys2Proof.Machine

/-- What stays of the run where only the outcome of CURRENT is given. -/
theorem Psq.OutcomeOnly.kept {p q : Psq} (h : p.OutcomeOnly q) :
    q.expected = p.expected ∧ q.depth = p.depth ∧ q.history = p.history ∧ q.nextPick = p.nextPick ∧
      q.replay = p.replay ∧ q.queue = p.queue ∧ q.dwells = p.dwells ∧ q.picksEntered = p.picksEntered ∧
      q.warningReady = p.warningReady ∧ q.current.map PickRecord.ordinal = p.current.map PickRecord.ordinal := by
  obtain ⟨f, hf, rfl⟩ := h
  refine ⟨rfl, rfl, rfl, rfl, rfl, rfl, rfl, rfl, rfl, ?_⟩
  cases p.current <;> simp [hf]

theorem forwardBoundary_expected (s : State) : (forwardBoundary s).psq.expected = s.psq.expected := by
  unfold forwardBoundary
  split
  · simp
  · split
    · obtain ⟨hexp, _⟩ := (armPromoted_outcome (promotedAt s)).kept
      obtain ⟨hpsq, _⟩ := promotedAt_frame s
      obtain ⟨_, _, _, hpe, _⟩ := promoted_fields s.psq
      simp only [settle_frame]
      refine hexp.trans ?_
      rw [hpsq, promote_psq]
      exact hpe
    · simp

/-- 01 R15, R16: the run after a promotion, whatever outcome arming gives the pick promoted. -/
theorem promoted_run {s : State} {q : Psq} (h : (promote s).psq.OutcomeOnly q) {n : PickRecord}
    (hn : s.psq.nextPick = some n) :
    q.depth = s.psq.depth ∧ q.current.map PickRecord.ordinal = some n.ordinal ∧ q.dwells = s.psq.dwells ∧
      q.nextPick.toList ++ q.replay ++ q.queue = s.psq.replay ++ s.psq.queue ∧
      (q.nextPick = none → q.replay = [] ∧ q.queue = []) ∧
      (s.psq.current = none → q.history = s.psq.history ∧ q.picksEntered = s.psq.picksEntered) ∧
      (∀ c, s.psq.current = some c →
        q.history = trimHistory s.psq.history ++ [c.enterHistory] ∧
        q.picksEntered = satInc 4294967295 s.psq.picksEntered) := by
  rw [promote_psq] at h
  obtain ⟨_, hdep, hhist, hnext, hrep, hque, hdw, hpe, _, hcur⟩ := h.kept
  obtain ⟨hc, hd, hdwells, _, hhistory, hpicks⟩ := promoted_fields s.psq
  simp only at hdep hhist hnext hrep hque hdw hpe hcur
  rw [hdep, hcur, hdw, hnext, hrep, hque, hhist, hpe, hc, hn, hhistory, hpicks]
  refine ⟨hd, rfl, hdwells, promoted_ahead _, promoted_empty _, fun hnone => ?_, fun c hsome => ?_⟩
  · simp [Psq.retired, hnone]
  · simp [Psq.retired, hsome, max32]

/-- A forward step over the wrap: the rest of the step follows the boundary handling. -/
theorem exec_forwardWrap {m : MachineRecord} {line : EncLine} {s : State} {taken : CausesTaken}
    (h : StepReady m line .forward s) (hpos : s.stk.position + 1 = m.counts) (hn : NoneTaken taken s) (elapsed : Nat) :
    ∃ u c k, AtBoundary m .forward elapsed s u ∧ c.crosses = (fun x => decide (x = 0)) ∧
      exec (.encoderStep line elapsed [] taken) s =
        .next (kickTransmitter (takeCauses taken
          (handleRest c taken (afterBoundary m s.run.state .forward k) (forwardBoundary u)))) := by
  have hw : (stepInfo m.counts s.stk.position .forward).wrap = true := by
    simp [stepInfo, nextPosition, hpos]
  obtain ⟨u, k, hu, hexec⟩ := exec_wrapStep h hw hn elapsed
  exact ⟨u, _, k, hu, crosses_wrap hw, hexec⟩

/-- 01 R15: the run as a forward crossing leaves it, whatever causes RUN takes. -/
theorem forwardWrap_run {m : MachineRecord} {elapsed : Nat} {s u t : State} (hu : AtBoundary m .forward elapsed s u)
    (hm : u.tbm.machine = some m) (hall : StepRest (forwardBoundary u) t) :
    t.psq.expected = s.psq.expected ∧
      (0 < s.psq.depth →
        t.psq.depth = s.psq.depth - 1 ∧ t.psq.history = s.psq.history ∧ t.psq.nextPick = s.psq.nextPick ∧
        t.psq.replay = s.psq.replay ∧ t.psq.queue = s.psq.queue ∧ t.currentOrdinal = s.currentOrdinal ∧
        t.psq.dwells = s.psq.dwells ∧ t.psq.picksEntered = s.psq.picksEntered) ∧
      (s.psq.depth = 0 → s.nextOnHooks = false →
        t.psq.depth = 0 ∧ t.psq.history = s.psq.history ∧ t.psq.nextPick = s.psq.nextPick ∧
        t.psq.replay = s.psq.replay ∧ t.psq.queue = s.psq.queue ∧ t.currentOrdinal = s.currentOrdinal ∧
        t.psq.dwells = satInc 4294967295 s.psq.dwells ∧ t.psq.picksEntered = s.psq.picksEntered) ∧
      (s.psq.depth = 0 → s.nextOnHooks = true → (promote u).psq.OutcomeOnly t.psq) := by
  obtain ⟨hexp, hdep, hhist, hnext, hrep, hque, hdw, hpe, _, hcur⟩ := hall.psq.kept
  obtain ⟨hhooks, _, _, _⟩ := hu.forward
  refine ⟨hexp.trans ((forwardBoundary_expected u).trans (congrArg Psq.expected hu.psq)), fun h => ?_, fun h hn => ?_,
    fun h hn => ?_⟩
  · obtain ⟨_, hb⟩ := forwardBoundary_holds hm (.inl (by rwa [hu.psq]))
    rw [hu.psq, if_pos h] at hb
    rw [hb] at hdep hhist hnext hrep hque hdw hpe hcur
    exact ⟨hdep, hhist, hnext, hrep, hque, hcur, hdw, hpe⟩
  · obtain ⟨_, hb⟩ := forwardBoundary_holds hm (.inr (hhooks.trans hn))
    rw [hu.psq, if_neg (by omega)] at hb
    rw [hb] at hdep hhist hnext hrep hque hdw hpe hcur
    exact ⟨hdep.trans h, hhist, hnext, hrep, hque, hcur, hdw, hpe⟩
  · exact (forwardBoundary_promotes_outcome (by rwa [hu.psq]) (hhooks.trans hn)).trans hall.psq

end Sys2Proof.Machine

namespace Sys2Proof.Machine

/-! ### The pick promoted, and what its arming leaves -/

/-- The state in which the pick `n` has come into CURRENT over a forward crossing and may be armed. -/
structure Promoted (m : MachineRecord) (elapsed : Nat) (s : State) (n : PickRecord) (v : State) : Prop where
  current : v.psq.current = some n
  run : v.run = s.run
  tbm : v.tbm = s.tbm
  wfm : v.wfm = s.wfm
  angle : v.countAngle = 0
  revTime : v.stk.revTime = s.stk.revTimeAcross elapsed .forward
  snapshot : v.HasSnapshot (forwardEntry m (advanceOf (s.stk.revTimeAcross elapsed .forward))) none

theorem promotedAt_promoted {m : MachineRecord} {elapsed : Nat} {s u : State} {n : PickRecord}
    (hu : AtBoundary m .forward elapsed s u) (hm : s.tbm.machine = some m) (hn : s.psq.nextPick = some n) :
    Promoted m elapsed s n (promotedAt u) := by
  obtain ⟨hpsq, htbm, hstk, hwfm, hrun⟩ := promotedAt_frame u
  obtain ⟨_, _, _, hangle⟩ := hu.forward
  obtain ⟨hcurrent, _⟩ := promoted_fields u.psq
  refine ⟨?_, hrun.trans hu.run, htbm.trans hu.tbm, hwfm.trans hu.wfm, ?_, by rw [hstk, hu.revTime], ?_⟩
  · rw [hpsq, promote_psq]
    exact hcurrent.trans (by rw [hu.psq, hn])
  · rw [← hangle]
    simp [State.countAngle, htbm, hstk]
  · rw [← hu.revTime]
    exact promotedAt_has (by rw [hu.tbm, hm])

namespace Promoted

variable {m : MachineRecord} {elapsed : Nat} {s v : State} {n : PickRecord}

theorem idle (h : Promoted m elapsed s n v) (hi : s.run.state ≠ .weaving ∨ n.state ≠ .pending) : armPromoted v = v :=
  armPromoted_idle h.current (by rwa [h.run])

theorem arms_by (h : Promoted m elapsed s n v) (hw : s.run.state = .weaving) (hp : n.state = .pending) :
    armPromoted v = armCurrent (advanceOf (s.stk.revTimeAcross elapsed .forward)) v := by
  rw [armPromoted_pending h.current (by rw [h.run, hw]) hp, h.revTime]

/-- A pick without a channel is INSERTED as it is promoted (01 R5). -/
theorem weftless (h : Promoted m elapsed s n v) (hw : s.run.state = .weaving) (hp : n.state = .pending)
    (h0 : n.weft = 0) :
    (armPromoted v).HasSnapshot (forwardEntry m (advanceOf (s.stk.revTimeAcross elapsed .forward))) none ∧
      (armPromoted v).psq.current = some { n with state := .inserted } := by
  rw [h.arms_by hw hp, armCurrent_weftless _ h.current h0]
  exact ⟨h.snapshot.congr rfl, by simp [h.current]⟩

/-- A pick whose channel or profile cannot be used is FAULTED as it is promoted (06 R112). -/
theorem faults (h : Promoted m elapsed s n v) (hw : s.run.state = .weaving) (hp : n.state = .pending)
    (h0 : n.weft ≠ 0) {reason : ChannelReason} (hr : ChannelUnusable s.tbm n reason) :
    (armPromoted v).HasSnapshot (forwardEntry m (advanceOf (s.stk.revTimeAcross elapsed .forward))) none ∧
      (armPromoted v).psq.current = some { n with state := .faulted, cause := some .channel } ∧
      (armPromoted v).wfm.weftFaults = satInc 4294967295 s.wfm.weftFaults ∧
      .stop (.weftChannel n.ordinal) ∈ (armPromoted v).run.handed ∧
      Posted (.weftFault n.ordinal n.row n.weft 0 n.arrival (.channel reason)) (armPromoted v) := by
  obtain ⟨hcur, hcount, hhand, hpost⟩ := channelFault_settles reason h.current
  rw [h.wfm] at hcount
  rw [h.angle] at hpost
  rw [h.arms_by hw hp, armCurrent_faults _ h.current h0 (h.tbm.symm ▸ hr)]
  exact ⟨h.snapshot.congr (by simp), hcur, hcount, hhand, hpost⟩

/-- A pick whose channel and profile can be used is ARMED with the part they give (06 R111). -/
theorem arms (h : Promoted m elapsed s n v) (hm : s.tbm.machine = some m) (hw : s.run.state = .weaving)
    (hp : n.state = .pending) (h0 : n.weft ≠ 0) {w : WeftChannel} {prof : Profile}
    (hr : s.tbm.weftRecord n.weft = some w) (he : w.enabled = true)
    (hprof : s.tbm.profiles[n.profile] = some prof) :
    let part := buildArmed s.tbm (advanceOf (s.stk.revTimeAcross elapsed .forward)) m.highestAngle n.ordinal w prof
    (armPromoted v).HasSnapshot (forwardEntry m (advanceOf (s.stk.revTimeAcross elapsed .forward))) (some part) ∧
      (armPromoted v).psq.current = some { n with state := .armed, clipped := part.clipped } := by
  have hhigh : v.highestAngle = m.highestAngle := by simp [State.highestAngle, h.tbm, hm]
  rw [h.arms_by hw hp, armCurrent_arms _ h.current h0 (h.tbm.symm ▸ hr) he (h.tbm.symm ▸ hprof)]
  unfold armWith
  rw [hhigh, h.tbm]
  exact ⟨(h.snapshot.setArmed _).congr rfl, by simp [h.current]⟩

end Promoted

/-! ### The statement -/

theorem armedPart_kick (s : State) : (kickTransmitter s).armedPart = s.armedPart := armedPart_congr (by simp)

/-- What a forward step leaves whatever its crossing does, no cause being taken. -/
theorem forwardStep_frame {m : MachineRecord} {elapsed : Nat} {s u : State} (hu : AtBoundary m .forward elapsed s u)
    (hm : s.tbm.machine = some m) {c : StepInfo} {rest : List Handling}
    (hr : ∀ h ∈ rest, h ≠ .boundary ∧ h ≠ .release) {t : State} (ht : t = rest.foldl (handle c) (forwardBoundary u)) :
    t.run = { s.run with handed := t.run.handed } ∧
      t.HasSnapshot (forwardEntry m (advanceOf (s.stk.revTimeAcross elapsed .forward))) t.armedPart ∧
      ∀ dc : DriverIdx, BlockKept (s.drv.channels[dc]).releasedPerPick t.drv.channels[dc] ∧
        (t.armedPart = none → t.drv.channels[dc] = (s.drv.channels[dc]).releasedPerPick) := by
  subst ht
  have hrun := ((forwardBoundary_handedOn u).trans (handles_handedOn c rest _)).run
  rw [hu.run] at hrun
  obtain ⟨a, ha⟩ := forwardBoundary_has (hu.tbm ▸ hm)
  rw [hu.revTime] at ha
  obtain ⟨hsnap, hnone⟩ := rest_has (c := c) hr ha
  refine ⟨hrun, hsnap, fun dc => ?_⟩
  have hstart : (forwardBoundary u).drv.channels[dc] = (s.drv.channels[dc]).releasedPerPick := by
    have hdrv : (forwardBoundary u).drv = (releasePerPick s).drv := Eq.trans (by simp) hu.drv
    refine (congrArg (fun x : Drv => x.channels[dc]) hdrv).trans ?_
    simp [releasePerPick, modChannels]
  have hblock := handles_blockKept c (forwardBoundary u) hr dc
  rw [hstart] at hblock
  refine ⟨hblock, fun hn => ?_⟩
  cases hnone hn
  obtain ⟨_, _, _, hdrv⟩ := handleRest_unarmed (c := c) hr ha.armedPart
  have hsame : (rest.foldl (handle c) (forwardBoundary u)).drv.channels[dc] = (forwardBoundary u).drv.channels[dc] :=
    congrArg (fun x : Drv => x.channels[dc]) hdrv
  exact hsame.trans hstart

/-- The end of a forward step at whose boundary handling no part is armed, no cause being taken. -/
theorem forwardStep_unarmed {c : StepInfo} {rest : List Handling} (hr : ∀ h ∈ rest, h ≠ .boundary ∧ h ≠ .release)
    {b : State} {sn : Snapshot} (h : b.HasSnapshot sn none) :
    (rest.foldl (handle c) b).armedPart = none ∧ (rest.foldl (handle c) b).psq = b.psq ∧
      (rest.foldl (handle c) b).wfm = b.wfm := by
  obtain ⟨hpsq, hasc, hwfm, _⟩ := handleRest_unarmed (c := c) hr h.armedPart
  exact ⟨(h.congr hasc).armedPart, hpsq, hwfm⟩

/-- The armed part as the end of the step that armed it leaves it: the angles at 0 are handed. -/
def ArmedPart.atZero (part : ArmedPart) : ArmedPart := part.handed fun x => decide (x = 0)

/-- The end of a forward step that armed a pick: the angles at 0 are handed, and with none at 0 the run stays. -/
theorem forwardStep_armed {c : StepInfo} (hc : c.crosses = fun x => decide (x = 0)) {m : MachineRecord}
    {run : RunState} {k : Stk} {b : State} {sn : Snapshot} {part : ArmedPart} (h : b.HasSnapshot sn (some part))
    (hlen : part.actions.length ≤ 8) (hopen : part.openHanded = false) (hclose : part.closeHanded = false)
    (hfresh : ∀ x ∈ part.actions, x.fired = false) :
    ((afterBoundary m run .forward k).foldl (handle c) b).armedPart =
        some part.atZero ∧
      ((∀ x ∈ part.actions, 0 < x.effective) → 0 < part.windowOpen → 0 < part.windowClose →
        ((afterBoundary m run .forward k).foldl (handle c) b).psq = b.psq) := by
  have hrest : ∀ x ∈ afterBoundary m run .forward k, x ≠ .boundary := fun x hx => (mem_afterBoundary hx).1
  refine ⟨?_, fun hact ho hcl => ?_⟩
  · rw [(handles_snapshot h c hrest).armedPart, afterBoundary_onArmed hlen hopen hclose hfresh, hc]
    rfl
  · refine handles_uncrossed h.armedPart ⟨fun x hx => ?_, ?_, ?_⟩ hrest
    · have := hact x hx
      simp [hc]
      omega
    · simp [hc]
      omega
    · simp [hc]
      omega

/-- A forward step over the wrap in which no cause is taken: `u` is the state at its boundary handling, `t` its end. -/
structure ForwardStep (m : MachineRecord) (elapsed : Nat) (s u t : State) : Prop where
  machine : s.tbm.machine = some m
  start : AtBoundary m .forward elapsed s u
  handled : HandedOn (forwardBoundary u) t
  outcome : (forwardBoundary u).psq.OutcomeOnly t.psq
  unarmed : ∀ {sn}, (forwardBoundary u).HasSnapshot sn none →
    t.armedPart = none ∧ t.psq = (forwardBoundary u).psq ∧ t.wfm = (forwardBoundary u).wfm
  armed : ∀ {sn part}, (forwardBoundary u).HasSnapshot sn (some part) → part.actions.length ≤ 8 →
    part.openHanded = false → part.closeHanded = false → (∀ x ∈ part.actions, x.fired = false) →
      t.armedPart = some part.atZero ∧
        ((∀ x ∈ part.actions, 0 < x.effective) → 0 < part.windowOpen → 0 < part.windowClose →
          t.psq = (forwardBoundary u).psq)

/-- A forward step over the wrap, no cause taken, and what it leaves whatever its crossing does. -/
theorem exec_forwardStep {m : MachineRecord} {line : EncLine} {s : State} (h : StepReady m line .forward s)
    (hpos : s.stk.position + 1 = m.counts) (elapsed : Nat) :
    ∃ u t, ForwardStep m elapsed s u t ∧
      exec (.encoderStep line elapsed [] (.only [])) s = .next (kickTransmitter t) ∧
      t.run = { s.run with handed := t.run.handed } ∧
      t.HasSnapshot (forwardEntry m (advanceOf (s.stk.revTimeAcross elapsed .forward))) t.armedPart ∧
      ∀ dc : DriverIdx, BlockKept (s.drv.channels[dc]).releasedPerPick t.drv.channels[dc] ∧
        (t.armedPart = none → t.drv.channels[dc] = (s.drv.channels[dc]).releasedPerPick) := by
  have hm : s.tbm.machine = some m := h.2.1
  obtain ⟨u, c, k, hu, hcross, hexec⟩ := exec_forwardWrap (taken := .only []) h hpos (.inl rfl) elapsed
  have hrest : ∀ x ∈ afterBoundary m s.run.state .forward k, x ≠ .boundary ∧ x ≠ .release := fun x => mem_afterBoundary
  refine ⟨u, _, ⟨hm, hu, handles_handedOn c _ _, ?_, fun h => forwardStep_unarmed hrest h, ?_⟩, hexec,
    forwardStep_frame hu hm hrest rfl⟩
  · exact (stepRest (c := c) (fun x hx => (hrest x hx).1) (.only []) (forwardBoundary u)).psq
  · intro sn part hhas hlen hopen hclose hfresh
    exact forwardStep_armed hcross hhas hlen hopen hclose hfresh

namespace ForwardStep

variable {m : MachineRecord} {elapsed : Nat} {s u t : State} {n : PickRecord}

/-- With D above 0, or NEXT not on the hooks, no part is armed and CURRENT and the warning stay (01 R15, R17). -/
theorem holds (h : ForwardStep m elapsed s u t) (hh : 0 < s.psq.depth ∨ s.nextOnHooks = false) :
    t.armedPart = none ∧ t.psq.current = s.psq.current ∧ t.psq.warningReady = s.psq.warningReady := by
  obtain ⟨hhooks, _, _, _⟩ := h.start.forward
  rw [← hhooks, ← h.start.psq] at hh
  obtain ⟨hhas, hpsq⟩ := forwardBoundary_holds (h.start.tbm ▸ h.machine) hh
  obtain ⟨harm, hkept, _⟩ := h.unarmed hhas
  rw [hkept, hpsq, h.start.psq]
  refine ⟨harm, ?_, ?_⟩ <;> split <;> rfl

/-- With D at 0 and NEXT on the hooks the boundary handling promotes it. -/
theorem promotes (h : ForwardStep m elapsed s u t) (hd : s.psq.depth = 0) (hn : s.nextOnHooks = true) :
    forwardBoundary u = settle (armPromoted (promotedAt u)) ∧ (promote u).psq.OutcomeOnly t.psq := by
  obtain ⟨hhooks, _, _, _⟩ := h.start.forward
  have hud : u.psq.depth = 0 := by rw [h.start.psq, hd]
  have hun : u.nextOnHooks = true := hhooks.trans hn
  exact ⟨forwardBoundary_promotes hud hun, (forwardBoundary_promotes_outcome hud hun).trans h.outcome⟩

/-- What a promotion posts stays posted while the transmitter is busy. -/
theorem posted (h : ForwardStep m elapsed s u t) (hb : forwardBoundary u = settle (armPromoted (promotedAt u)))
    {e : Event} (he : Posted e (promote u)) (hbusy : s.dlp.transmitter ≠ none) : Posted e (kickTransmitter t) := by
  have hsettled := (forwardSnapshot_handedOn (promote u)).trans
    ((armPromoted_handedOn (promotedAt u)).trans (settle_handedOn _))
  rw [← hb] at hsettled
  exact LoomEvent.posted_kick (h.start.loomEvent.trans (promote_handedOn u).toLoomEvent)
    (hsettled.trans h.handled).toLoomEvent hbusy he

theorem lowWater (h : ForwardStep m elapsed s u t) :
    u.lowWaterMark = m.lowWater ∧ u.heldAhead = s.heldAhead := by
  obtain ⟨_, _, hheld, _⟩ := h.start.forward
  exact ⟨by simp [State.lowWaterMark, h.start.tbm, h.machine], hheld⟩

/-- 01 R22: the warning is spent where held ahead stood at the mark. -/
theorem warning (h : ForwardStep m elapsed s u t) (ho : (promote u).psq.OutcomeOnly t.psq) :
    t.psq.warningReady = (s.psq.warningReady && !decide (0 < s.heldAhead ∧ s.heldAhead = m.lowWater)) := by
  obtain ⟨hmark, hheld⟩ := h.lowWater
  obtain ⟨_, _, _, _, _, _, _, _, hwr, _⟩ := ho.kept
  rw [hwr, promote_psq, hheld, hmark, h.start.psq]

theorem promoted (h : ForwardStep m elapsed s u t) (hn : s.psq.nextPick = some n) :
    Promoted m elapsed s n (promotedAt u) :=
  promotedAt_promoted h.start h.machine hn

/-- Where arming leaves no part armed the step ends as arming leaves CURRENT and the monitor. -/
theorem ends_unarmed (h : ForwardStep m elapsed s u t) (hb : forwardBoundary u = settle (armPromoted (promotedAt u)))
    {sn : Snapshot} (hhas : (armPromoted (promotedAt u)).HasSnapshot sn none) :
    t.armedPart = none ∧ t.psq.current = (armPromoted (promotedAt u)).psq.current ∧
      t.wfm = (armPromoted (promotedAt u)).wfm := by
  obtain ⟨harm, hpsq, hwfm⟩ := h.unarmed (hhas.congr (t := forwardBoundary u) (by simp [hb]))
  exact ⟨harm, by rw [hpsq, hb]; simp, by rw [hwfm, hb]; simp⟩

theorem idle (h : ForwardStep m elapsed s u t) (hb : forwardBoundary u = settle (armPromoted (promotedAt u)))
    (hn : s.psq.nextPick = some n) (hi : s.run.state ≠ .weaving ∨ n.state ≠ .pending) :
    t.armedPart = none ∧ t.psq.current = some n := by
  have hpro := h.promoted hn
  have hsame := hpro.idle hi
  obtain ⟨harm, hcur, _⟩ := h.ends_unarmed hb (hsame ▸ hpro.snapshot)
  exact ⟨harm, hcur.trans ((congrArg (fun x : State => x.psq.current) hsame).trans hpro.current)⟩

theorem weftless (h : ForwardStep m elapsed s u t) (hb : forwardBoundary u = settle (armPromoted (promotedAt u)))
    (hn : s.psq.nextPick = some n) (hw : s.run.state = .weaving) (hp : n.state = .pending) (h0 : n.weft = 0) :
    t.armedPart = none ∧ t.psq.current = some { n with state := .inserted } := by
  obtain ⟨hhas, hcur⟩ := (h.promoted hn).weftless hw hp h0
  obtain ⟨harm, hkept, _⟩ := h.ends_unarmed hb hhas
  exact ⟨harm, hkept.trans hcur⟩

theorem faults (h : ForwardStep m elapsed s u t) (hb : forwardBoundary u = settle (armPromoted (promotedAt u)))
    (hn : s.psq.nextPick = some n) (hw : s.run.state = .weaving) (hp : n.state = .pending) (h0 : n.weft ≠ 0)
    {reason : ChannelReason} (hr : ChannelUnusable s.tbm n reason) :
    t.armedPart = none ∧ t.psq.current = some { n with state := .faulted, cause := some .channel } ∧
      t.wfm.weftFaults = satInc 4294967295 s.wfm.weftFaults ∧ .stop (.weftChannel n.ordinal) ∈ t.run.handed ∧
      (s.dlp.transmitter ≠ none →
        Posted (.weftFault n.ordinal n.row n.weft 0 n.arrival (.channel reason)) (kickTransmitter t)) := by
  obtain ⟨hhas, hcur, hcount, hhand, hpost⟩ := (h.promoted hn).faults hw hp h0 hr
  obtain ⟨harm, hkept, hwfm⟩ := h.ends_unarmed hb hhas
  have hend : HandedOn (armPromoted (promotedAt u)) t := (settle_handedOn _).trans (hb ▸ h.handled)
  have hreach : LoomEvent s (armPromoted (promotedAt u)) :=
    h.start.loomEvent.trans ((promotedAt_handedOn u).trans (armPromoted_handedOn _)).toLoomEvent
  exact ⟨harm, hkept.trans hcur, by rw [hwfm, hcount], hend.grows _ hhand,
    fun hbusy => hreach.posted_kick hend.toLoomEvent hbusy hpost⟩

theorem arms (h : ForwardStep m elapsed s u t) (hb : forwardBoundary u = settle (armPromoted (promotedAt u)))
    (hn : s.psq.nextPick = some n) (hw : s.run.state = .weaving) (hp : n.state = .pending) (h0 : n.weft ≠ 0)
    {w : WeftChannel} {prof : Profile} (hr : s.tbm.weftRecord n.weft = some w) (he : w.enabled = true)
    (hprof : s.tbm.profiles[n.profile] = some prof) (hlen : prof.actions.length ≤ 8) :
    ∃ part,
      ArmedFrom s.tbm m (advanceOf (s.stk.revTimeAcross elapsed .forward)) n.ordinal w prof part ∧
        t.armedPart = some part.atZero ∧
        ((∀ x ∈ part.actions, 0 < x.effective) → 0 < part.windowOpen → 0 < part.windowClose →
          t.psq.current = some { n with state := .armed, clipped := part.clipped }) := by
  let advance := advanceOf (s.stk.revTimeAcross elapsed .forward)
  obtain ⟨hhas, hcur⟩ := (h.promoted hn).arms h.machine hw hp h0 hr he hprof
  obtain ⟨hopen, hclose, hfresh⟩ := buildArmed_fresh s.tbm advance m.highestAngle n.ordinal w prof
  obtain ⟨harm, hkept⟩ := h.armed (hhas.congr (t := forwardBoundary u) (by simp [hb]))
    (by simpa [buildArmed] using hlen) hopen hclose hfresh
  refine ⟨_, buildArmed_armedFrom s.tbm m advance n.ordinal w prof, harm, fun hact ho hcl => ?_⟩
  rw [hkept hact ho hcl, hb]
  exact Eq.trans (by simp) hcur

end ForwardStep

/-- Settles O34: the crossing handled in its three outcomes, the pick promoted settled or armed, and the rest of the
step. -/
theorem forwardBoundaryMovesTheRun : Obligations.ForwardBoundaryMovesTheRun := by
  intro s m line elapsed hready hpos named woven advance snapshot
  have hnamed : ∀ n, s.psq.nextPick = some n → named n → s.nextOnHooks = true :=
    fun n hn hna => (nextOnHooks_iff s).mpr ⟨n, hn, hna⟩
  have hunnamed : (∀ n, s.psq.nextPick = some n → ¬named n) → s.nextOnHooks = false := fun h => by
    refine Bool.eq_false_iff.mpr fun hn => ?_
    obtain ⟨n, hn, hna⟩ := (nextOnHooks_iff s).mp hn
    exact h n hn hna
  refine ⟨fun taken hn => ?_, ?_⟩
  · obtain ⟨u, c, k, hu, _, hexec⟩ := exec_forwardWrap hready hpos hn elapsed
    have hall := stepRest (c := c) (fun x (hx : x ∈ afterBoundary m s.run.state .forward k) => (mem_afterBoundary hx).1)
      taken (forwardBoundary u)
    have hevent := hu.loomEvent.trans ((forwardBoundary_handedOn u).toLoomEvent.trans hall.loom)
    obtain ⟨hexp, hbehind, hdwell, hpromote⟩ := forwardWrap_run hu (hu.tbm ▸ hready.2.1) hall
    refine ⟨_, hexec, undisturbed_kick hevent.undisturbed, ?_⟩
    simp only [kickTransmitter_frame, State.currentOrdinal] at hbehind hdwell ⊢
    refine ⟨hexp, hbehind, fun n hd hnext hna => ?_, fun hd h => hdwell hd (hunnamed h)⟩
    have hrun := promoted_run (hpromote hd (hnamed n hnext hna)) (n := n) (by rw [hu.psq, hnext])
    rw [hu.psq, hd] at hrun
    exact hrun
  · obtain ⟨u, t, hstep, hexec, hrun, hsnap, hchannel⟩ := exec_forwardStep hready hpos elapsed
    refine ⟨_, hexec, ?_⟩
    simp only [kickTransmitter_frame, armedPart_kick]
    refine ⟨hrun, hsnap, fun dc => ?_, fun h => hstep.holds (h.imp_right hunnamed), fun n hd hn hna => ?_⟩
    · obtain ⟨hblock, hnone⟩ := hchannel dc
      exact releasedPerPick_rest hblock hnone
    · obtain ⟨hbound, houtcome⟩ := hstep.promotes hd (hnamed n hn hna)
      obtain ⟨hmark, hheld⟩ := hstep.lowWater
      have hwarn := hstep.warning houtcome
      refine ⟨fun r hr hbusy => ?done, fun hw hat hsome => ⟨?spent, fun hbusy => ?low⟩, fun hno => ?stays,
        fun hi => hstep.idle hbound hn hi, fun hw hp h0 => hstep.weftless hbound hn hw hp h0,
        fun w prof hw hp h0 hr he hprof hlen => hstep.arms hbound hn hw hp h0 hr he hprof hlen,
        fun reason hw hp h0 hr => hstep.faults hbound hn hw hp h0 hr⟩
      case done => exact hstep.posted hbound (promote_posts_pickDone (by rw [hstep.start.psq, hr])) hbusy
      case spent => simp [hwarn, hat, hsome]
      case low =>
        have hpost := promote_posts_lowWater (s := u) (by rw [hstep.start.psq, hw]) (by rw [hheld, hmark, hat])
          (by rwa [hmark])
        rw [hmark, hstep.start.psq] at hpost
        exact hstep.posted hbound hpost hbusy
      case stays =>
        rw [hwarn]
        cases hw : s.psq.warningReady with
        | false => rfl
        | true =>
          rw [decide_eq_false fun ⟨hsome, hat⟩ => hno ⟨hw, hat, hat ▸ hsome⟩]
          rfl

end Sys2Proof.Machine

/-! ## The tables and the tracker -/

namespace Sys2Proof.Machine

/-! ### What a table write does -/

theorem foldl_ne_none {α β : Type} {f : Option α → β → Option α} (h : ∀ b x, f b x ≠ none) (l : List β)
    {b : Option α} (hb : b ≠ none) : l.foldl f b ≠ none := by
  induction l generalizing b with
  | nil => exact hb
  | cons x xs ih => exact ih (h b x)

/-- 02 R28 check 4: no field is found out of range exactly when every check passes. -/
theorem firstBad_none (checks : List FieldCheck) : firstBad checks = none ↔ ∀ c ∈ checks, c.ok = true := by
  have hnil : firstBad checks = none ↔ checks.filter (fun c => !c.ok) = [] := by
    unfold firstBad
    cases checks.filter fun c => !c.ok with
    | nil => simp
    | cons c cs =>
      refine iff_of_false (foldl_ne_none (fun b n => ?_) (cs.map FieldCheck.field) (Option.some_ne_none c.field))
        (List.cons_ne_nil c cs)
      cases b <;> exact Option.some_ne_none _
  simp [hnil, List.filter_eq_nil_iff]

/-- 02 R28: a write is refused and answered, or it passes the checks and is made and answered OK. -/
theorem checkedWrite_cases (p : List Byte) (ok : Bool) (checks : List FieldCheck) (write : State → State) (s : State) :
    (∃ r x, checkedWrite p ok checks write s = answerTable p r x s) ∨
      firstBad checks = none ∧ ∃ x, checkedWrite p ok checks write s = answerTable p .ok x (write s) := by
  unfold checkedWrite
  split
  · exact .inl ⟨_, _, rfl⟩
  · split
    · exact .inl ⟨_, _, rfl⟩
    · exact .inr ⟨‹_›, _, rfl⟩

/-- 02 R28, R34, R35: a pattern write is refused and answered, or made in OFFLINE. -/
theorem patternTable_cases (p : List Byte) (ok : Bool) (checks : List FieldCheck) (write : State → State) (s : State) :
    (∃ r x, patternTable p ok checks write s = answerTable p r x s) ∨
      s.run.state = .offline ∧ firstBad checks = none ∧
        ∃ x, patternTable p ok checks write s = answerTable p .ok x (patternWrite (write s)) := by
  unfold patternTable
  split
  · rename_i hoff
    exact (checkedWrite_cases p ok checks _ s).imp id fun h => ⟨hoff, h⟩
  · exact .inl ⟨_, _, rfl⟩

theorem MachineRecord.valid_iff (m : MachineRecord) :
    m.valid = true ↔
      720 ≤ m.counts ∧ m.counts ≤ 16384 ∧ m.offset < m.counts ∧ 1800 ≤ m.latchAngle ∧ m.latchAngle ≤ 3500 ∧
        m.armLimit ≤ 900 := by
  simp only [MachineRecord.valid, Bool.and_eq_true, decide_eq_true_eq, and_assoc]

/-- 02 R29: what the write checks of a machine record establish. -/
theorem machineRecordOf_valid {p : List Byte} (h : firstBad (machineChecks p) = none) :
    (machineRecordOf p).valid = true := by
  have hchecks := (firstBad_none _).mp h
  simp only [machineChecks, List.mem_cons, List.not_mem_nil, or_false, forall_eq_or_imp, forall_eq, within,
    withinOrDefault, Bool.and_eq_true, Bool.or_eq_true, decide_eq_true_eq] at hchecks
  obtain ⟨_, _, _, _, _, _, _, hcounts, hoffset, hlatch, _, harm, _⟩ := hchecks
  rw [MachineRecord.valid_iff]
  refine ⟨hcounts.1, hcounts.2, hoffset, hlatch.1, hlatch.2, ?_⟩
  simp only [machineRecordOf, orDefault]
  split <;> omega

/-! ### What the write of the machine record does to each block -/

/-- 02 R30: the first write, or a change of N or O. -/
theorem shaftChanges_iff (old : Option MachineRecord) (m : MachineRecord) :
    shaftChanges old m = true ↔ ∀ o, old = some o → o.counts ≠ m.counts ∨ o.offset ≠ m.offset := by
  cases old <;> simp [shaftChanges]

/-- 02 R30: the first write, or a change of one of M0 to M3. -/
theorem headChanges_iff (old : Option MachineRecord) (m : MachineRecord) :
    headChanges old m = true ↔ ∀ o, old = some o → o.modules ≠ m.modules := by
  cases old <;> simp [headChanges]

theorem writeMachine_frame (m : MachineRecord) (s : State) :
    (writeMachine m s).pending = s.pending ∧ (writeMachine m s).resetLine = s.resetLine ∧
    (writeMachine m s).lineOut = s.lineOut ∧ (writeMachine m s).dlp = s.dlp ∧
    (writeMachine m s).tbm = { s.tbm with machine := some m } ∧ (writeMachine m s).shb = s.shb ∧
    (writeMachine m s).hci.tag = s.hci.tag ∧ (writeMachine m s).asc = s.asc ∧ (writeMachine m s).wfm = s.wfm ∧
    (writeMachine m s).drv = s.drv ∧ (writeMachine m s).run = s.run := by
  simp only [writeMachine]
  split <;> split <;> exact ⟨rfl, rfl, rfl, rfl, rfl, rfl, rfl, rfl, rfl, rfl, rfl⟩

/-- 02 R30, 01 R22: the low-water warning follows the new M. -/
theorem writeMachine_psq (m : MachineRecord) (s : State) :
    (writeMachine m s).psq =
      { s.psq with warningReady := decide (0 < m.lowWater ∧ m.lowWater ≤ s.heldAhead) } := by
  simp only [writeMachine]
  split <;> split <;> rfl

/-- 02 R30: the tracker is put on a new scale. -/
theorem writeMachine_stk (m : MachineRecord) (s : State) :
    (writeMachine m s).stk = if shaftChanges s.tbm.machine m then (rescaleShaft s).stk else s.stk := by
  simp only [writeMachine]
  split <;> split <;> rfl

/-- 02 R30: the module status table is re-formed for a new head. -/
theorem writeMachine_chain (m : MachineRecord) (s : State) (k : ChainIdx) :
    (writeMachine m s).hci.chains[k] =
      if headChanges s.tbm.machine m then
        { phase := .idle, lengthFlag := false, entries := List.replicate (m.modulesOf k) ModuleEntry.fresh }
      else s.hci.chains[k] := by
  simp only [writeMachine]
  split <;> split <;> simp [resetWarning, reformChains, modChains, rescaleShaft]

end Sys2Proof.Machine

namespace Sys2Proof.Machine

/-! ### Which commands leave the tables and the tracker -/

/-- From `s` to `t` neither the tables nor the tracker change. -/
structure ShaftKept (s t : State) : Prop where
  tbm : t.tbm = s.tbm
  stk : t.stk = s.stk

namespace ShaftKept

theorem refl (s : State) : ShaftKept s s := ⟨rfl, rfl⟩

theorem trans {s t u : State} (h1 : ShaftKept s t) (h2 : ShaftKept t u) : ShaftKept s u :=
  ⟨h2.tbm.trans h1.tbm, h2.stk.trans h1.stk⟩

end ShaftKept

theorem SamePick.shaftKept {s t : State} (h : SamePick s t) : ShaftKept s t := ⟨h.tbm, h.stk⟩

/-- A frame is taken: what its row's effect keeps is kept. -/
theorem takeFrame_keeps {α : Type} (g : State → α) (hg : ∀ s d, g { s with dlp := d } = g s) (row : FrameRow)
    {eff : List Byte → State → State} (he : ∀ p s, g (eff p s) = g s) (s : State) : g (takeFrame row eff s) = g s := by
  unfold takeFrame
  split
  · rfl
  · split
    · exact (he _ _).trans (hg _ _)
    · rfl

theorem takeFrame_shaftKept (row : FrameRow) {eff : List Byte → State → State} (he : ∀ p s, ShaftKept s (eff p s))
    (s : State) : ShaftKept s (takeFrame row eff s) :=
  ⟨takeFrame_keeps State.tbm (fun _ _ => rfl) row (fun p s => (he p s).tbm) s,
    takeFrame_keeps State.stk (fun _ _ => rfl) row (fun p s => (he p s).stk) s⟩

theorem takeCauses_shaftKept (taken : CausesTaken) (s : State) : ShaftKept s (takeCauses taken s) :=
  ⟨by simp, takeCauses_stk taken s⟩

/-- Entering any state but WEAVING leaves the tracker (05 R102). -/
theorem changeState_shaftKept {st : RunState} (h : st ≠ .weaving) (s : State) : ShaftKept s (changeState st s) :=
  ⟨by simp, by simp [h]⟩

theorem takePick_shaftKept (p : List Byte) (s : State) : ShaftKept s (takePick p s) := by
  unfold takePick
  repeat' split
  all_goals constructor <;> simp [refusePick, acceptPick_frame]

theorem takeArm_shaftKept (p : List Byte) (s : State) : ShaftKept s (takeArm p s) := by
  unfold takeArm
  repeat' split
  all_goals constructor <;> simp

theorem takeDisarm_shaftKept (p : List Byte) (s : State) : ShaftKept s (takeDisarm p s) := by
  unfold takeDisarm
  split <;> constructor <;> simp

theorem takeStopCommand_shaftKept (taken : CausesTaken) (p : List Byte) (s : State) :
    ShaftKept s (takeStopCommand taken p s) := by
  have hstop : ShaftKept s (takeStop .stopCommand s) := ⟨by simp, takeCause_stk s (.stop .stopCommand)⟩
  unfold takeStopCommand
  split
  · exact (hstop.trans (takeCauses_shaftKept taken _)).trans ⟨rfl, rfl⟩
  · exact ⟨rfl, rfl⟩

theorem takeClear_shaftKept (p : List Byte) (s : State) : ShaftKept s (takeClear p s) := by
  unfold takeClear
  repeat' split
  all_goals constructor <;> simp

theorem takeFlush_shaftKept (p : List Byte) (s : State) : ShaftKept s (takeFlush p s) := by
  unfold takeFlush
  split <;> constructor <;> simp

theorem takeSoftReset_shaftKept (p : List Byte) (s : State) : ShaftKept s (takeSoftReset p s) := by
  constructor <;> simp [takeSoftReset]

theorem acquireSensor_shaftKept (x : Sensor) (l : Level) (s : State) : ShaftKept s (acquireSensor x l s) := by
  unfold acquireSensor
  repeat' split
  all_goals constructor <;> simp

theorem arvRises_shaftKept (s : State) : ShaftKept s (arvRises s) := by
  unfold arvRises takeRise
  repeat' split
  all_goals constructor <;> simp

theorem feederBreaks_shaftKept (f : FeederIdx) (s : State) : ShaftKept s (feederBreaks f s) := by
  unfold feederBreaks
  split <;> constructor <;> simp

theorem peakLimitEnds_shaftKept (dc : DriverIdx) (s : State) : ShaftKept s (peakLimitEnds dc s) := by
  simp only [peakLimitEnds]
  split <;> constructor <;> simp

theorem deglitchEnds_shaftKept (dc : DriverIdx) (s : State) : ShaftKept s (deglitchEnds dc s) := by
  simp only [deglitchEnds]
  split <;> constructor <;> simp

/-- The commands that write a table (02 R27). -/
def Instr.writesTable : Instr → Bool
  | .tableMachine | .tableSections | .tableEffects | .tableWeaves | .tableProfiles | .tableWefts | .tableDrivers => true
  | _ => false

/-- The commands that may change the tracker, beside the write of the machine record (05). -/
def Instr.onShaft : Instr → Bool
  | .start _ | .home | .encoderLevelAcquired _ _ | .encoderStep _ _ _ _ | .illegalTransition _ => true
  | .indexPulse _ | .standstill | .enczFall => true
  | _ => false

theorem commandEffect_shaftKept (c : Instr) (ht : Instr.writesTable c = false) (hs : Instr.onShaft c = false)
    (s : State) : ShaftKept s (commandEffect c s) := by
  cases c with
  | pickFrame => exact takeFrame_shaftKept .pick takePick_shaftKept s
  | arm => exact takeFrame_shaftKept .arm takeArm_shaftKept s
  | disarm => exact takeFrame_shaftKept .disarm takeDisarm_shaftKept s
  | stop taken => exact takeFrame_shaftKept .stop (takeStopCommand_shaftKept taken) s
  | clear => exact takeFrame_shaftKept .clear takeClear_shaftKept s
  | flush => exact takeFrame_shaftKept .flush takeFlush_shaftKept s
  | softReset => exact takeFrame_shaftKept .softReset takeSoftReset_shaftKept s
  | sensorLevelAcquired x l taken => exact (acquireSensor_shaftKept x l s).trans (takeCauses_shaftKept taken _)
  | arvRise => exact arvRises_shaftKept s
  | feederBreak f taken => exact (feederBreaks_shaftKept f s).trans (takeCauses_shaftKept taken _)
  | peakTimeLimitEnd dc taken => exact (peakLimitEnds_shaftKept dc s).trans (takeCauses_shaftKept taken _)
  | deglitchEnd dc taken => exact (deglitchEnds_shaftKept dc s).trans (takeCauses_shaftKept taken _)
  | endOfChecking k taken => exact (closeChecking_samePick k s).shaftKept.trans (takeCauses_shaftKept taken _)
  | tableMachine | tableSections | tableEffects | tableWeaves | tableProfiles | tableWefts | tableDrivers =>
    simp [Instr.writesTable] at ht
  | start _ | home | encoderLevelAcquired _ _ | encoderStep _ _ _ _ | illegalTransition _ | indexPulse _ | standstill
  | enczFall => simp [Instr.onShaft] at hs
  | _ => exact (bystander_samePick _ rfl s).shaftKept

/-! ### The tables are kept by every command but their writes -/

theorem takingOwn_tbm {f : State → State} (hf : ∀ s, (f s).tbm = s.tbm) (s : State) : (takingOwn f s).tbm = s.tbm := by
  simp [takingOwn, hf]

theorem startWeaving_tbm (s : State) : (startWeaving s).tbm = s.tbm := by simp [startWeaving]

theorem takeStart_tbm (taken : CausesTaken) (p : List Byte) (s : State) : (takeStart taken p s).tbm = s.tbm := by
  unfold takeStart
  repeat' split
  all_goals simp [takingOwn_tbm startWeaving_tbm]

theorem startHoming_tbm (s : State) : (startHoming s).tbm = s.tbm := by
  simp only [startHoming, settle_frame]
  split <;> rfl

theorem takeHome_tbm (p : List Byte) (s : State) : (takeHome p s).tbm = s.tbm := by
  unfold takeHome
  repeat' split
  all_goals simp [startHoming_tbm]

theorem acquireLevel_tbm (input : EncInput) (l : Level) (s : State) : (acquireLevel input l s).tbm = s.tbm := by
  unfold acquireLevel
  split <;> rfl

theorem runOrder_tbm (c : StepInfo) (taken : CausesTaken) (order : List Nat) (rest : List Handling) (s : State) :
    (runOrder c taken order rest s).tbm = s.tbm :=
  runOrder_keeps State.tbm c (by simp) (by simp) (by simp) taken order rest s

theorem lineChange_tbm (line : EncLine) (elapsed : Nat) (order : List Nat) (taken : CausesTaken) (s : State) :
    (lineChange line elapsed order taken s).tbm = s.tbm := by
  obtain h | ⟨m, l, _, h | ⟨dir, h⟩⟩ := lineChange_cases line elapsed order taken s
  · rw [h]
  · rw [h]
    rfl
  · rw [h]
    exact runOrder_tbm _ _ _ _ _

theorem illegalChange_tbm (s : State) : (illegalChange s).tbm = s.tbm := by
  unfold illegalChange
  split <;> simp

theorem takeIndex_tbm (m : MachineRecord) (s : State) : (takeIndex m s).tbm = s.tbm := by
  unfold takeIndex
  split
  · rfl
  · simp [homeAt]
  · dsimp only
    split
    · rfl
    · simp [indexFails]

theorem indexRise_tbm (s : State) : (indexRise s).tbm = s.tbm := by
  unfold indexRise
  split
  · exact takeIndex_tbm _ _
  · rfl

theorem declareStandstill_tbm (s : State) : (declareStandstill s).tbm = s.tbm := by
  unfold declareStandstill
  split
  · dsimp only
    split <;> simp
  · rfl

theorem indexFall_tbm (s : State) : (indexFall s).tbm = s.tbm := by
  unfold indexFall
  split <;> rfl

theorem commandEffect_tbm (c : Instr) (h : Instr.writesTable c = false) (s : State) :
    (commandEffect c s).tbm = s.tbm := by
  cases hs : Instr.onShaft c with
  | false => exact (commandEffect_shaftKept c h hs s).tbm
  | true =>
    cases c with
    | start taken => exact takeFrame_keeps State.tbm (fun _ _ => rfl) .start (takeStart_tbm taken) s
    | home => exact takeFrame_keeps State.tbm (fun _ _ => rfl) .home takeHome_tbm s
    | encoderLevelAcquired input l => exact acquireLevel_tbm input l s
    | encoderStep line elapsed order taken => simp [commandEffect, lineChange_tbm]
    | illegalTransition taken => simp [commandEffect, illegalChange_tbm]
    | indexPulse taken => simp [commandEffect, indexRise_tbm]
    | standstill => exact declareStandstill_tbm s
    | enczFall => exact indexFall_tbm s
    | _ => simp [Instr.onShaft] at hs

end Sys2Proof.Machine

namespace Sys2Proof.Machine

/-! ### Pattern tables outside OFFLINE -/

/-- From `s` to `t` no pattern table changes, nor the epoch (02 R35). -/
def SamePattern (s t : State) : Prop :=
  t.tbm.machine = s.tbm.machine ∧ t.tbm.sections = s.tbm.sections ∧ t.tbm.effects = s.tbm.effects ∧
    t.tbm.weaves = s.tbm.weaves ∧ t.tbm.epoch = s.tbm.epoch

theorem SamePattern.of_tbm {s t : State} (h : t.tbm = s.tbm) : SamePattern s t := by simp [SamePattern, h]

/-- 02 R34: outside OFFLINE a pattern write is answered alone. -/
theorem patternTable_running (p : List Byte) (ok : Bool) (checks : List FieldCheck) (write : State → State) {s : State}
    (h : s.run.state ≠ .offline) : patternTable p ok checks write s = answerTable p .state [] s := by
  simp [patternTable, h]

theorem patternTable_samePattern (p : List Byte) (ok : Bool) (checks : List FieldCheck) (write : State → State)
    {s : State} (h : s.run.state ≠ .offline) : SamePattern s (patternTable p ok checks write s) := by
  rw [patternTable_running p ok checks write h]
  exact .of_tbm rfl

/-- 02 R36: a write that leaves the pattern tables leaves them whether or not it passes its checks. -/
theorem checkedWrite_samePattern (p : List Byte) (ok : Bool) (checks : List FieldCheck) {write : State → State}
    {s : State} (h : SamePattern s (write s)) : SamePattern s (checkedWrite p ok checks write s) := by
  obtain ⟨r, x, he⟩ | ⟨_, x, he⟩ := checkedWrite_cases p ok checks write s
  · rw [he]
    exact .of_tbm rfl
  · rw [he]
    exact h

/-- What a row's effect does of the pattern tables outside OFFLINE, taking its frame does. -/
theorem takeFrame_samePattern (row : FrameRow) {eff : List Byte → State → State} {s : State}
    (h : s.run.state ≠ .offline) (he : ∀ p u, u.run.state ≠ .offline → SamePattern u (eff p u)) :
    SamePattern s (takeFrame row eff s) := by
  unfold takeFrame
  split
  · exact .of_tbm rfl
  · split
    · exact he _ _ h
    · exact .of_tbm rfl

theorem commandEffect_samePattern (c : Instr) {s : State} (h : s.run.state ≠ .offline) :
    SamePattern s (commandEffect c s) := by
  cases hw : Instr.writesTable c with
  | false => exact .of_tbm (commandEffect_tbm c hw s)
  | true =>
    cases c with
    | tableMachine =>
      exact takeFrame_samePattern (.table .machine) h fun p u hu => patternTable_samePattern p _ _ _ hu
    | tableSections =>
      exact takeFrame_samePattern (.table .sections) h fun p u hu => patternTable_samePattern p _ _ _ hu
    | tableEffects =>
      exact takeFrame_samePattern (.table .effects) h fun p u hu => patternTable_samePattern p _ _ _ hu
    | tableWeaves =>
      exact takeFrame_samePattern (.table .weaves) h fun p u hu => patternTable_samePattern p _ _ _ hu
    | tableProfiles =>
      exact takeFrame_samePattern (.table .profiles) h fun p u _ =>
        checkedWrite_samePattern p _ _ (write := writeProfile _ _) ⟨rfl, rfl, rfl, rfl, rfl⟩
    | tableWefts =>
      exact takeFrame_samePattern (.table .wefts) h fun p u _ =>
        checkedWrite_samePattern p _ _ (write := writeWeft _ _) ⟨rfl, rfl, rfl, rfl, rfl⟩
    | tableDrivers =>
      exact takeFrame_samePattern (.table .drivers) h fun p u _ =>
        checkedWrite_samePattern p _ _ (write := writeDriver _ _) ⟨rfl, rfl, rfl, rfl, rfl⟩
    | _ => simp [Instr.writesTable] at hw

/-- Settles O58: outside OFFLINE the pattern writes are refused, and no other command writes a pattern table. -/
theorem patternTablesAreFixedOutsideOffline : Obligations.PatternTablesAreFixedOutsideOffline := by
  intro c s t hc hhigh hrun hexec
  cases hreset : Instr.ofResetLine c with
  | false =>
    rw [exec_eq_command c s hreset, command_high _ s hhigh] at hexec
    cases hexec
    have h : SamePattern s (commandEffect c { s with lineOut := [] }) :=
      commandEffect_samePattern c (s := { s with lineOut := [] }) hrun
    simpa [SamePattern] using h
  | true =>
    cases c with
    | hardReset => exact absurd rfl hc
    | resetRelease =>
      have hnone : exec .resetRelease s = .next { s with lineOut := [] } := by simp [exec, execResetRelease, hhigh]
      cases hnone.symm.trans hexec
      exact SamePattern.of_tbm rfl
    | _ => simp [Instr.ofResetLine] at hreset

/-! ### The tracker on its scale -/

theorem ranged_iff (k : Stk) :
    k.ranged = true ↔
      k.netTravel.natAbs ≤ 32767 ∧ k.reverseCount ≤ 256 ∧ k.illegalCount ≤ max16 ∧
        (∀ t, k.revTime = some t → t ≤ maxRevTime) ∧ (k.revTimer = none → k.revTime = none) ∧
        (k.standstillTimer.isSome = true ↔ k.motion = .moving) := by
  have hmotion : k.standstillTimer.isSome = decide (k.motion = .moving) ↔
      (k.standstillTimer.isSome = true ↔ k.motion = .moving) := by
    rw [Bool.eq_iff_iff, decide_eq_true_eq]
  unfold Stk.ranged
  cases k.revTime <;> cases k.revTimer <;> simp [and_assoc, hmotion]

theorem onScale_iff (s : State) :
    s.onScale = true ↔
      (s.tbm.machine = none → s.stk.position = 0) ∧
        ∀ m, s.tbm.machine = some m → m.valid = true ∧ s.stk.position < m.counts := by
  unfold State.onScale
  cases s.tbm.machine <;> simp

/-- 05 R88, R99 to R102: the tracker is on the scale of the machine record, its counts in their ranges. -/
def State.ShaftSound (s : State) : Prop := s.onScale = true ∧ s.stk.ranged = true

namespace State.ShaftSound

variable {s t : State}

/-- With the scale and the position as they were, the counts in their ranges are enough. -/
theorem of_position (h : s.ShaftSound) (hm : t.tbm.machine = s.tbm.machine) (hp : t.stk.position = s.stk.position)
    (hr : t.stk.ranged = true) : t.ShaftSound := by
  refine ⟨?_, hr⟩
  have hon := h.1
  rw [onScale_iff] at hon ⊢
  rwa [hm, hp]

theorem congr (h : s.ShaftSound) (hm : t.tbm.machine = s.tbm.machine) (hk : t.stk = s.stk) : t.ShaftSound :=
  h.of_position hm (by rw [hk]) (by rw [hk]; exact h.2)

theorem kept (h : s.ShaftSound) (hk : ShaftKept s t) : t.ShaftSound := h.congr (by rw [hk.tbm]) hk.stk

/-- The machine record in force is valid, and p lies on its scale. -/
theorem scale (h : s.ShaftSound) {m : MachineRecord} (hm : s.tbm.machine = some m) :
    m.valid = true ∧ s.stk.position < m.counts := ((onScale_iff s).mp h.1).2 m hm

theorem on_scale {m : MachineRecord} (hm : t.tbm.machine = some m) (hv : m.valid = true)
    (hp : t.stk.position < m.counts) (hr : t.stk.ranged = true) : t.ShaftSound := by
  refine ⟨(onScale_iff t).mpr ⟨fun h => ?_, fun n hn => ?_⟩, hr⟩
  · cases hm.symm.trans h
  · cases hm.symm.trans hn
    exact ⟨hv, hp⟩

end State.ShaftSound

theorem shaftSound_loomOnly : LoomOnly State.ShaftSound :=
  fun _ _ ht _ _ _ hk _ _ _ _ h => h.congr (by rw [ht]) hk

theorem takeCause_shaftSound (s : State) (c : Cause) (h : s.ShaftSound) : (takeCause s c).ShaftSound :=
  h.kept ⟨by simp, takeCause_stk s c⟩

/-! #### Changes of the tracker -/

theorem reverseCleared_ranged {k : Stk} (h : k.ranged = true) : ({ k with reverseCount := 0 } : Stk).ranged = true := by
  rw [ranged_iff] at h ⊢
  simpa using ⟨h.1, h.2.2⟩

/-- 05 R100: T_rev is unknown with the revolution timer stopped. -/
theorem revTimeDropped_ranged {k : Stk} (h : k.ranged = true) :
    ({ k with revTime := none, revTimer := none } : Stk).ranged = true := by
  rw [ranged_iff] at h ⊢
  obtain ⟨htravel, hreverse, hillegal, _, _, hrest⟩ := h
  simpa using ⟨htravel, hreverse, hillegal, hrest⟩

theorem timeStep_ranged {k : Stk} (h : k.ranged = true) (dir : Direction) (boundary : Bool) :
    (k.timeStep dir boundary).ranged = true := by
  cases dir with
  | backward => exact revTimeDropped_ranged h
  | forward =>
    cases boundary with
    | false => exact h
    | true =>
      rw [ranged_iff] at h ⊢
      obtain ⟨htravel, hrev, hill, htime, htimer, hmotion⟩ := h
      unfold Stk.timeStep
      cases hk : k.revTimer with
      | none => simp [htravel, hrev, hill, hmotion, htimer hk]
      | some t => simp [htravel, hrev, hill, hmotion]

theorem clampTravel_natAbs (x : Int) : (clampTravel x).natAbs ≤ 32767 := by
  unfold clampTravel
  repeat' split
  all_goals omega

theorem travelAfter_natAbs {k : Stk} (h : k.netTravel.natAbs ≤ 32767) (dir : Direction) :
    (travelAfter k dir).natAbs ≤ 32767 := by
  unfold travelAfter
  repeat' split
  · exact clampTravel_natAbs _
  · exact clampTravel_natAbs _
  · exact h

theorem reverseAfter_le (run : RunState) {n : Nat} (h : n ≤ 256) (dir : Direction) : reverseAfter run n dir ≤ 256 := by
  cases dir with
  | forward => exact Nat.zero_le _
  | backward =>
    simp only [reverseAfter]
    split
    · exact satInc_le h
    · exact h

/-- 05 R88: a step leaves p on its scale. -/
theorem nextPosition_lt {n p : Nat} (h : p < n) (dir : Direction) : nextPosition n p dir < n := by
  cases dir <;> simp only [nextPosition] <;> split <;> omega

theorem step_ranged (m : MachineRecord) (run : RunState) (dir : Direction) {k : Stk} (h : k.ranged = true) :
    (k.step m run dir).ranged = true := by
  obtain ⟨htravel, hreverse, _⟩ := (ranged_iff k).mp h
  obtain ⟨_, _, hillegal, htime, htimer, _⟩ :=
    (ranged_iff _).mp (timeStep_ranged h dir (decide (k.homing = .homed ∧ (stepInfo m.counts k.position dir).wrap)))
  exact (ranged_iff _).mpr ⟨travelAfter_natAbs htravel dir, reverseAfter_le run hreverse dir, hillegal, htime, htimer,
    by simp [Stk.step]⟩

theorem lineMoved_ranged (line : EncLine) (elapsed : Nat) (l : Level) {k : Stk} (h : k.ranged = true) :
    ((k.elapse elapsed).setLine line (flipLevel l)).ranged = true := by
  rw [ranged_iff] at h ⊢
  cases line <;> simpa [Stk.setLine, Stk.elapse] using h

/-! #### What each command does to the tracker -/

theorem takeStep_shaftSound {m : MachineRecord} (dir : Direction) (order : List Nat) (taken : CausesTaken) {s : State}
    (hm : s.tbm.machine = some m) (h : s.ShaftSound) : (takeStep m dir order taken s).ShaftSound := by
  have hstep : ShaftKept { s with stk := s.stk.step m s.run.state dir } (takeStep m dir order taken s) :=
    ⟨runOrder_tbm _ _ _ _ _, runOrder_stk _ _ _ _ _⟩
  obtain ⟨hv, hp⟩ := h.scale hm
  have hcounted : State.ShaftSound { s with stk := s.stk.step m s.run.state dir } :=
    .on_scale hm hv (nextPosition_lt hp dir) (step_ranged m _ dir h.2)
  exact hcounted.kept hstep

theorem lineChange_shaftSound (line : EncLine) (elapsed : Nat) (order : List Nat) (taken : CausesTaken) {s : State}
    (h : s.ShaftSound) : (lineChange line elapsed order taken s).ShaftSound := by
  have hmoved : ∀ l, (lineChanged line elapsed l s).ShaftSound := fun l =>
    h.of_position rfl (by cases line <;> rfl) (lineMoved_ranged line elapsed l h.2)
  obtain he | ⟨m, l, hm, he | ⟨dir, he⟩⟩ := lineChange_cases line elapsed order taken s
  · rw [he]
    exact h
  · rw [he]
    exact hmoved l
  · rw [he]
    exact takeStep_shaftSound dir order taken (s := lineChanged line elapsed l s) hm (hmoved l)

theorem acquireLevel_shaftSound (input : EncInput) (l : Level) {s : State} (h : s.ShaftSound) :
    (acquireLevel input l s).ShaftSound := by
  have hstk : (s.stk.acquire input l).position = s.stk.position ∧ (s.stk.acquire input l).ranged = s.stk.ranged := by
    cases input <;> exact ⟨rfl, rfl⟩
  unfold acquireLevel
  split
  · exact h.of_position rfl hstk.1 (hstk.2.trans h.2)
  · exact h

theorem illegalChange_shaftSound {s : State} (h : s.ShaftSound) : (illegalChange s).ShaftSound := by
  unfold illegalChange
  split
  · refine h.of_position (by simp) (by simp) ?_
    obtain ⟨htravel, hreverse, hillegal, hrest⟩ := (ranged_iff _).mp h.2
    simp only [hand_frame, post_frame]
    exact (ranged_iff _).mpr ⟨htravel, hreverse, satInc_le hillegal, hrest⟩
  · exact h

/-- 05 R92: the index offset of a valid machine record lies on its scale. -/
theorem homeAt_shaftSound {m : MachineRecord} {s : State} (hm : s.tbm.machine = some m) (h : s.ShaftSound) :
    (homeAt m s).ShaftSound := by
  obtain ⟨hv, _⟩ := h.scale hm
  have hk := (ranged_iff _).mp h.2
  obtain ⟨_, _, hhome, _⟩ := (MachineRecord.valid_iff m).mp hv
  refine .on_scale (by simpa [homeAt] using hm) hv (by simpa [homeAt] using hhome) ?_
  simp only [homeAt, settle_frame, post_frame]
  exact (ranged_iff _).mpr ⟨by simp, hk.2⟩

theorem takeIndex_shaftSound {m : MachineRecord} {s : State} (hm : s.tbm.machine = some m) (h : s.ShaftSound) :
    (takeIndex m s).ShaftSound := by
  have hk := (ranged_iff _).mp h.2
  unfold takeIndex
  split
  · exact h
  · exact homeAt_shaftSound hm h
  · dsimp only
    split
    · exact h.of_position rfl rfl ((ranged_iff _).mpr ⟨by simp [indexPasses], hk.2⟩)
    · refine h.of_position (by simp [indexFails]) (by simp [indexFails]) ?_
      simp only [indexFails, hand_frame, post_frame, settle_frame, dropRevTime_stk]
      exact revTimeDropped_ranged (k := { s.stk with homing := .unhomed }) h.2

theorem indexRise_shaftSound {s : State} (h : s.ShaftSound) : (indexRise s).ShaftSound := by
  unfold indexRise
  split
  · rename_i m hm _
    exact takeIndex_shaftSound (by exact hm) (h.of_position rfl rfl h.2)
  · exact h

theorem indexFall_shaftSound {s : State} (h : s.ShaftSound) : (indexFall s).ShaftSound := by
  unfold indexFall
  split
  · exact h.of_position rfl rfl h.2
  · exact h

theorem declareStandstill_shaftSound {s : State} (h : s.ShaftSound) : (declareStandstill s).ShaftSound := by
  have hstill :
      (dropRevTime { s with stk := { s.stk with motion := .standstill, standstillTimer := none } }).ShaftSound := by
    refine h.of_position rfl rfl ?_
    obtain ⟨htravel, hreverse, hillegal, htime, htimer, _⟩ := (ranged_iff _).mp (revTimeDropped_ranged h.2)
    exact (ranged_iff _).mpr ⟨htravel, hreverse, hillegal, htime, htimer, by simp⟩
  unfold declareStandstill
  split
  · dsimp only
    split
    · exact hstill.kept (changeState_shaftKept (by simp) _)
    · exact hstill
  · exact h

theorem startHoming_shaftSound {s : State} (h : s.ShaftSound) : (startHoming s).ShaftSound := by
  have hdrop : (if s.stk.homing = .homed then dropRevTime s else s).ShaftSound := by
    split
    · exact h.of_position rfl rfl (revTimeDropped_ranged h.2)
    · exact h
  have hk := (ranged_iff _).mp hdrop.2
  simp only [startHoming]
  refine hdrop.of_position (by simp) (by simp) ?_
  simp only [settle_frame]
  exact (ranged_iff _).mpr ⟨by simp, hk.2⟩

theorem takeHome_shaftSound (p : List Byte) {s : State} (h : s.ShaftSound) : (takeHome p s).ShaftSound := by
  unfold takeHome
  repeat' split
  · exact h.kept ⟨rfl, rfl⟩
  · exact (startHoming_shaftSound h).kept ⟨rfl, rfl⟩
  · exact h.kept ⟨rfl, rfl⟩

/-- 05 R102: entering WEAVING clears the reverse count. -/
theorem startWeaving_shaftSound {s : State} (h : s.ShaftSound) : (startWeaving s).ShaftSound :=
  h.of_position (by simp [startWeaving]) (by simp [startWeaving])
    (by simpa [startWeaving] using reverseCleared_ranged h.2)

theorem takeStart_shaftSound (taken : CausesTaken) (p : List Byte) {s : State} (h : s.ShaftSound) :
    (takeStart taken p s).ShaftSound := by
  have hstarted : (startWeaving { s with run := { s.run with handed := [] } }).ShaftSound :=
    startWeaving_shaftSound (h.kept ⟨rfl, rfl⟩)
  have hown : (takingOwn startWeaving s).ShaftSound :=
    hstarted.kept ⟨by simp [takingOwn], by simp [takingOwn, drain_stk]⟩
  unfold takeStart
  repeat' split
  · exact h.kept ⟨rfl, rfl⟩
  · exact h.kept ⟨rfl, rfl⟩
  · exact h.kept ⟨rfl, rfl⟩
  · exact h.kept ⟨rfl, rfl⟩
  · exact (hown.kept (takeCauses_shaftKept taken _)).kept ⟨rfl, rfl⟩

/-! #### What a table write does to the tracker -/

/-- 02 R30: on a new scale p stands at 0; on the scale in force it stands where it stood. -/
theorem writeMachine_shaftSound {m : MachineRecord} (hv : m.valid = true) {s : State} (h : s.ShaftSound) :
    (writeMachine m s).ShaftSound := by
  have hm : (writeMachine m s).tbm.machine = some m := by simp [writeMachine_frame]
  have hcounts : 720 ≤ m.counts := ((MachineRecord.valid_iff m).mp hv).1
  have hstk := writeMachine_stk m s
  cases hs : shaftChanges s.tbm.machine m with
  | true =>
    rw [hs, if_pos rfl] at hstk
    have hk := (ranged_iff _).mp (revTimeDropped_ranged h.2)
    refine .on_scale hm hv (hstk ▸ Nat.zero_lt_of_lt hcounts) (hstk ▸ (ranged_iff _).mpr ?_)
    exact ⟨by simp [rescaleShaft], hk.2⟩
  | false =>
    rw [hs, if_neg Bool.false_ne_true] at hstk
    obtain ⟨old, hold, hsame⟩ : ∃ old, s.tbm.machine = some old ∧ old.counts = m.counts := by
      have hno := mt (shaftChanges_iff s.tbm.machine m).mpr (Bool.eq_false_iff.mp hs)
      push Not at hno
      exact hno.imp fun _ h => ⟨h.1, h.2.1⟩
    exact .on_scale hm hv (by rw [hstk, ← hsame]; exact (h.scale hold).2) (hstk ▸ h.2)

theorem patternWrite_shaftSound {s : State} (h : s.ShaftSound) : (patternWrite s).ShaftSound :=
  h.congr (by simp [patternWrite]) (by simp)

theorem patternTable_shaftSound (p : List Byte) (ok : Bool) {checks : List FieldCheck} {write : State → State}
    {s : State} (h : s.ShaftSound) (hw : firstBad checks = none → (write s).ShaftSound) :
    (patternTable p ok checks write s).ShaftSound := by
  obtain ⟨r, x, he⟩ | ⟨_, hc, x, he⟩ := patternTable_cases p ok checks write s
  · rw [he]
    exact h.kept ⟨rfl, rfl⟩
  · rw [he]
    exact (patternWrite_shaftSound (hw hc)).kept ⟨rfl, rfl⟩

theorem checkedWrite_shaftSound (p : List Byte) (ok : Bool) (checks : List FieldCheck) {write : State → State}
    {s : State} (h : s.ShaftSound) (hw : (write s).ShaftSound) : (checkedWrite p ok checks write s).ShaftSound := by
  obtain ⟨r, x, he⟩ | ⟨_, x, he⟩ := checkedWrite_cases p ok checks write s
  · rw [he]
    exact h.kept ⟨rfl, rfl⟩
  · rw [he]
    exact hw.kept ⟨rfl, rfl⟩

/-- Every command's effect leaves the tracker on its scale. -/
theorem commandEffect_shaftSound (c : Instr) (s : State) (h : s.ShaftSound) : (commandEffect c s).ShaftSound := by
  have hframe := fun (row : FrameRow) {eff : List Byte → State → State}
    (he : ∀ p u, u.ShaftSound → (eff p u).ShaftSound) => shaftSound_loomOnly.takeFrame he row h
  have hcauses := fun (taken : CausesTaken) {u : State} (hu : u.ShaftSound) => hu.kept (takeCauses_shaftKept taken u)
  cases hw : Instr.writesTable c with
  | true =>
    cases c with
    | tableMachine =>
      exact hframe (.table .machine) fun p u hu =>
        patternTable_shaftSound p _ hu fun hc => writeMachine_shaftSound (machineRecordOf_valid hc) hu
    | tableSections =>
      exact hframe (.table .sections) fun p u hu => patternTable_shaftSound p _ hu fun _ => hu.congr rfl rfl
    | tableEffects =>
      exact hframe (.table .effects) fun p u hu => patternTable_shaftSound p _ hu fun _ => hu.congr rfl rfl
    | tableWeaves =>
      exact hframe (.table .weaves) fun p u hu => patternTable_shaftSound p _ hu fun _ => hu.congr rfl rfl
    | tableProfiles =>
      exact hframe (.table .profiles) fun p u hu => checkedWrite_shaftSound p _ _ hu (hu.congr rfl rfl)
    | tableWefts => exact hframe (.table .wefts) fun p u hu => checkedWrite_shaftSound p _ _ hu (hu.congr rfl rfl)
    | tableDrivers => exact hframe (.table .drivers) fun p u hu => checkedWrite_shaftSound p _ _ hu (hu.congr rfl rfl)
    | _ => simp [Instr.writesTable] at hw
  | false =>
    cases hs : Instr.onShaft c with
    | false => exact h.kept (commandEffect_shaftKept c hw hs s)
    | true =>
      cases c with
      | start taken => exact hframe .start fun p u hu => takeStart_shaftSound taken p hu
      | home => exact hframe .home fun p u hu => takeHome_shaftSound p hu
      | encoderLevelAcquired input l => exact acquireLevel_shaftSound input l h
      | encoderStep line elapsed order taken => exact hcauses taken (lineChange_shaftSound line elapsed order taken h)
      | illegalTransition taken => exact hcauses taken (illegalChange_shaftSound h)
      | indexPulse taken => exact hcauses taken (indexRise_shaftSound h)
      | standstill => exact declareStandstill_shaftSound h
      | enczFall => exact indexFall_shaftSound h
      | _ => simp [Instr.onShaft] at hs

/-- Settles O53: the reset state, every command's effect and RUN's taking of a cause leave the tracker on its scale. -/
theorem shaftStaysOnScale : Obligations.ShaftStaysOnScale := fun _ _ h hs =>
  shaftSound_loomOnly.step ⟨by decide, by decide⟩ commandEffect_shaftSound takeCause_shaftSound h hs

end Sys2Proof.Machine

/-! ## Buffers and chains serve the target -/

namespace Sys2Proof.Machine

/-! ### Sound images -/

/-- 03 R53, 04 R65: the buffers are of the epoch in force, a FILLING one is the target's and the only one, their
ordinals are distinct, and every chain serves the target. -/
structure State.Images (s : State) : Prop where
  buffer0 : s.bufferSound s.shb.buffer0 = true
  buffer1 : s.bufferSound s.shb.buffer1 = true
  oneFilling : ¬(s.shb.buffer0.isFilling = true ∧ s.shb.buffer1.isFilling = true)
  distinct : s.shb.buffer0.ordinal? = none ∨ s.shb.buffer0.ordinal? ≠ s.shb.buffer1.ordinal?
  serves : ∀ k : ChainIdx, (s.hci.chains[k]).phase.serves s.shb.target = true

theorem mem_chainList : ∀ k : ChainIdx, k ∈ chainList := by decide

theorem imagesSound_iff (s : State) : s.imagesSound = true ↔ s.Images := by
  unfold State.imagesSound
  simp only [Bool.and_eq_true, Bool.or_eq_true, Bool.not_eq_true', Bool.and_eq_false_iff, List.all_eq_true,
    Option.isNone_iff_eq_none, bne_iff_ne]
  constructor
  · rintro ⟨⟨⟨⟨h0, h1⟩, hone⟩, hdist⟩, hserves⟩
    exact ⟨h0, h1, fun hf => by simp [hf.1, hf.2] at hone, hdist, fun k => hserves k (mem_chainList k)⟩
  · rintro ⟨h0, h1, hone, hdist, hserves⟩
    refine ⟨⟨⟨⟨h0, h1⟩, ?_⟩, hdist⟩, fun k _ => hserves k⟩
    simpa [Classical.or_iff_not_imp_left] using hone

/-- 02 R35, 03 R56: what a sound buffer is. -/
theorem bufferSound_iff (s : State) (b : Buffer) :
    s.bufferSound b = true ↔
      (∀ e, b.epoch? = some e → e = s.tbm.epoch) ∧ (b.isFilling = true → b.ordinal? = s.shb.target) := by
  cases b <;> simp [State.bufferSound, Buffer.epoch?, Buffer.isFilling]

/-- An EMPTY buffer is sound. -/
theorem bufferSound_empty (s : State) : s.bufferSound .empty = true := rfl

/-- 04 R65: an IDLE or READY chain serves every target. -/
theorem serves_of_none {ph : ChainPhase} (h : ph.serves none = true) (target : Option Ordinal) :
    ph.serves target = true := by
  cases ph <;> simp_all [ChainPhase.serves]

namespace State.Images

variable {s t : State}

/-- A buffer emptied or left as it is, at a target a FILLING one still serves. -/
def BufferLeft (s t : State) (b c : Buffer) : Prop :=
  c = .empty ∨ c = b ∧ (b.isFilling = true → t.shb.target = s.shb.target)

theorem bufferSound_left {b c : Buffer} (h : s.bufferSound b = true) (he : t.tbm.epoch = s.tbm.epoch)
    (hc : BufferLeft s t b c) : t.bufferSound c = true := by
  obtain rfl | ⟨rfl, ht⟩ := hc
  · exact bufferSound_empty t
  · obtain ⟨hepoch, hfill⟩ := (bufferSound_iff s c).mp h
    exact (bufferSound_iff t c).mpr ⟨fun e h => (hepoch e h).trans he.symm, fun h => (hfill h).trans (ht h).symm⟩

/-- Buffers that are emptied, and chains that go on serving, leave the images sound. -/
theorem of_left (h : s.Images) (he : t.tbm.epoch = s.tbm.epoch) (h0 : BufferLeft s t s.shb.buffer0 t.shb.buffer0)
    (h1 : BufferLeft s t s.shb.buffer1 t.shb.buffer1)
    (hk : ∀ k : ChainIdx, (t.hci.chains[k]).phase.serves t.shb.target = true) : t.Images where
  buffer0 := bufferSound_left h.buffer0 he h0
  buffer1 := bufferSound_left h.buffer1 he h1
  oneFilling := by
    have hempty : ¬Buffer.empty.isFilling = true := by simp [Buffer.isFilling]
    rintro ⟨hf0, hf1⟩
    obtain e0 | ⟨e0, _⟩ := h0
    · exact hempty (e0 ▸ hf0)
    · obtain e1 | ⟨e1, _⟩ := h1
      · exact hempty (e1 ▸ hf1)
      · exact h.oneFilling ⟨e0 ▸ hf0, e1 ▸ hf1⟩
  distinct := by
    obtain e0 | ⟨e0, _⟩ := h0
    · exact .inl (by rw [e0]; rfl)
    · rw [e0]
      obtain e1 | ⟨e1, _⟩ := h1
      · rw [e1]
        cases s.shb.buffer0.ordinal? with
        | none => exact .inl rfl
        | some o => exact .inr (Option.some_ne_none o)
      · rw [e1]
        exact h.distinct
  serves := hk

/-- A change of the chains alone. -/
theorem of_chains (h : s.Images) (he : t.tbm.epoch = s.tbm.epoch) (hb : t.shb = s.shb)
    (hk : ∀ k : ChainIdx, (t.hci.chains[k]).phase.serves s.shb.target = true) : t.Images :=
  h.of_left he (.inr ⟨by rw [hb], fun _ => by rw [hb]⟩) (.inr ⟨by rw [hb], fun _ => by rw [hb]⟩) (by rwa [hb])

theorem congr (h : s.Images) (he : t.tbm.epoch = s.tbm.epoch) (hb : t.shb = s.shb) (hc : t.hci.chains = s.hci.chains) :
    t.Images := h.of_chains he hb (by rw [hc]; exact h.serves)

/-- With both buffers EMPTY and every chain IDLE or READY. -/
theorem of_empty (h0 : t.shb.buffer0 = .empty) (h1 : t.shb.buffer1 = .empty)
    (hk : ∀ k : ChainIdx, (t.hci.chains[k]).phase.serves none = true) : t.Images where
  buffer0 := by rw [h0]; rfl
  buffer1 := by rw [h1]; rfl
  oneFilling := by simp [h0, Buffer.isFilling]
  distinct := .inl (by rw [h0]; rfl)
  serves k := serves_of_none (hk k) _

theorem emit (h : s.Images) (x : LineItem) : (emit x s).Images := h.congr rfl rfl rfl

theorem setChain (h : s.Images) (k : ChainIdx) {c : Chain} (hc : c.phase.serves s.shb.target = true) :
    (setChain k c s).Images := by
  refine h.of_chains rfl rfl fun j => ?_
  by_cases hkj : k.val = j.val
  · simpa [hkj] using hc
  · simpa [hkj] using h.serves j

end State.Images

theorem images_loomOnly : LoomOnly State.Images :=
  fun _ _ ht _ hb hh _ _ _ _ _ h => h.congr (by rw [ht]) hb (by rw [hh])

/-! ### Shifts and expansions -/

/-- 04 R65: a chain with modules is handed the image of the target. -/
theorem handChain_imagesSound {o : Ordinal} {s : State} (h : s.Images) (ho : s.shb.target = some o) (k : ChainIdx) :
    (handChain o s k).Images := by
  have hshift : ChainPhase.serves s.shb.target (.shifting o) = true := by simp [ChainPhase.serves, ho]
  unfold handChain
  dsimp only
  repeat' split
  · exact (h.setChain k hshift).emit _
  · exact h
  · exact (h.setChain k hshift).emit _
  · exact h
  · exact h

theorem handOver_imagesSound {o : Ordinal} {s : State} (h : s.Images) (ho : s.shb.target = some o) :
    (handOver o s).Images := by
  have hfold : ∀ (l : List ChainIdx) (u : State), u.Images → u.shb.target = some o →
      (l.foldl (handChain o) u).Images := by
    intro l
    induction l with
    | nil => exact fun u hu _ => hu
    | cons k ks ih => exact fun u hu hut => ih _ (handChain_imagesSound hu hut k) (by simpa using hut)
  exact hfold _ s h ho

/-- 04 R67: a chain's state after its shift is abandoned. -/
def ChainPhase.aborted : ChainPhase → ChainPhase
  | .shifting _ => .idle
  | .checking _ _ => .idle
  | ph => ph

theorem abortChain_phase (s : State) (k j : ChainIdx) :
    ((abortChain s k).hci.chains[j]).phase =
      if k = j then (s.hci.chains[j]).phase.aborted else (s.hci.chains[j]).phase := by
  by_cases hkj : k = j
  · subst hkj
    unfold abortChain
    dsimp only
    split <;> simp_all [ChainPhase.aborted]
  · have hval : k.val ≠ j.val := fun h => hkj (Fin.ext h)
    unfold abortChain
    dsimp only
    split <;> simp [hkj, hval]

theorem abortChains_phase (l : List ChainIdx) (s : State) (j : ChainIdx) :
    ((l.foldl abortChain s).hci.chains[j]).phase =
      if j ∈ l then (s.hci.chains[j]).phase.aborted else (s.hci.chains[j]).phase := by
  have htwice : ∀ ph : ChainPhase, ph.aborted.aborted = ph.aborted := by
    intro ph
    cases ph <;> rfl
  induction l generalizing s with
  | nil => simp
  | cons k ks ih =>
    rw [List.foldl_cons, ih, abortChain_phase]
    by_cases hkj : k = j
    · simp [hkj, htwice]
    · simp [hkj, Ne.symm hkj]

/-- 04 R67: after the shifts are abandoned every chain is IDLE or READY. -/
theorem abortShifts_serves (s : State) (k : ChainIdx) : ((abortShifts s).hci.chains[k]).phase.serves none = true := by
  unfold abortShifts
  rw [abortChains_phase, if_pos (mem_chainList k)]
  cases (s.hci.chains[k]).phase <;> rfl

theorem abandon_left (s t : State) (b : Buffer) : State.Images.BufferLeft s t b b.abandon := by
  unfold Buffer.abandon
  split
  · exact .inl rfl
  · rename_i hf
    exact .inr ⟨rfl, fun h => absurd h hf⟩

theorem abandon_filling (b : Buffer) : b.abandon.isFilling = false := by
  cases b <;> rfl

/-- 03 R56: a sound buffer that neither fills nor holds the image of the target has another ordinal. -/
theorem ordinal_ne_of_sound {o : Ordinal} {s : State} {b : Buffer} (h : s.bufferSound b = true)
    (hf : b.isFilling = false) (hn : Buffer.heldFor o s.tbm.epoch b = false) : b.ordinal? ≠ some o := by
  obtain ⟨hepoch, _⟩ := (bufferSound_iff s b).mp h
  cases b with
  | empty => simp [Buffer.ordinal?]
  | filling _ _ _ _ => simp [Buffer.isFilling] at hf
  | held a e _ =>
    have he := hepoch e rfl
    simpa [Buffer.heldFor, Buffer.ordinal?, he] using hn

/-- 03 R52, R56: the expansion of the target begins where no buffer fills or holds its image. -/
theorem startExpansion_imagesSound {o : Ordinal} {s : State} (h : s.Images) (ho : s.shb.target = some o)
    (hf0 : s.shb.buffer0.isFilling = false) (hf1 : s.shb.buffer1.isFilling = false)
    (hn0 : Buffer.heldFor o s.tbm.epoch s.shb.buffer0 = false)
    (hn1 : Buffer.heldFor o s.tbm.epoch s.shb.buffer1 = false) : (startExpansion o s).Images := by
  have ho0 := ordinal_ne_of_sound h.buffer0 hf0 hn0
  have ho1 := ordinal_ne_of_sound h.buffer1 hf1 hn1
  have hfilling : ∀ (t : State) (row : Word16) (effects : List (Fin 16)), t.tbm = s.tbm → t.shb.target = s.shb.target →
      t.bufferSound (.filling o s.tbm.epoch row effects) = true := by
    intro t row effects ht htarget
    simp [State.bufferSound, Buffer.epoch?, Buffer.ordinal?, ht, htarget, ho]
  unfold startExpansion
  split
  · rename_i i r _ _
    cases i with
    | b0 =>
      exact {
        buffer0 := hfilling _ _ _ rfl rfl
        buffer1 := h.buffer1
        oneFilling := fun hf => by simp [setBuffer, hf1] at hf
        distinct := .inr fun he => ho1 he.symm
        serves := h.serves }
    | b1 =>
      exact {
        buffer0 := h.buffer0
        buffer1 := hfilling _ _ _ rfl rfl
        oneFilling := fun hf => by simp [setBuffer, hf0] at hf
        distinct := .inr ho0
        serves := h.serves }
  · exact h

theorem firstBuffer_none {s : State} {ok : Buffer → Bool} (h : s.firstBuffer ok = none) :
    ok s.shb.buffer0 = false ∧ ok s.shb.buffer1 = false := by
  unfold State.firstBuffer at h
  split at h
  · simp at h
  · split at h
    · simp at h
    · simp_all

theorem takeUp_imagesSound {o : Ordinal} {s : State} (h : s.Images) (ho : s.shb.target = some o)
    (hf0 : s.shb.buffer0.isFilling = false) (hf1 : s.shb.buffer1.isFilling = false) : (takeUp o s).Images := by
  unfold takeUp
  split
  · exact handOver_imagesSound h ho
  · rename_i hnone
    obtain ⟨hn0, hn1⟩ := firstBuffer_none hnone
    exact startExpansion_imagesSound h ho hf0 hf1 hn0 hn1

/-- 03 R55, 04 R67: the state in which what served the old target is abandoned and a new one is in force. -/
def abandonedFor (target : Option Ordinal) (s : State) : State :=
  abortShifts (abandonExpansion { s with shb := { s.shb with target := target } })

theorem abandonedFor_shb (target : Option Ordinal) (s : State) :
    (abandonedFor target s).shb =
      { buffer0 := s.shb.buffer0.abandon, buffer1 := s.shb.buffer1.abandon, target := target } := by
  unfold abandonedFor
  obtain ⟨_, _, _, _, _, hshb, _⟩ :=
    abortShifts_frame (abandonExpansion { s with shb := { s.shb with target := target } })
  rw [hshb]
  rfl

theorem abandonedFor_imagesSound {s : State} (h : s.Images) (target : Option Ordinal) :
    (abandonedFor target s).Images := by
  refine h.of_left (by simp [abandonedFor]) ?_ ?_ fun k => serves_of_none (abortShifts_serves _ k) _
  · rw [abandonedFor_shb]
    exact abandon_left _ _ _
  · rw [abandonedFor_shb]
    exact abandon_left _ _ _

/-- 03 R55: a target that stays changes nothing; a new one is taken up after the old one is abandoned. -/
theorem evalTarget_cases (s : State) :
    evalTarget s = s ∨ evalTarget s = abandonedFor none s ∨
      ∃ o, evalTarget s = takeUp o (abandonedFor (some o) s) := by
  unfold evalTarget abandonedFor
  dsimp only
  split
  · exact .inl rfl
  · cases s.newTarget with
    | none => exact .inr (.inl rfl)
    | some o => exact .inr (.inr ⟨o, rfl⟩)

/-- 03 R55: the evaluation of the target leaves the images sound. -/
theorem evalTarget_imagesSound {s : State} (h : s.Images) : (evalTarget s).Images := by
  obtain he | he | ⟨o, he⟩ := evalTarget_cases s
  · rw [he]
    exact h
  · rw [he]
    exact abandonedFor_imagesSound h none
  · rw [he]
    exact takeUp_imagesSound (abandonedFor_imagesSound h (some o)) (by rw [abandonedFor_shb])
      (by rw [abandonedFor_shb]; exact abandon_filling _) (by rw [abandonedFor_shb]; exact abandon_filling _)

end Sys2Proof.Machine

namespace Sys2Proof.Machine

/-! ### Operations that are no matter of the images -/

/-- From `s` to `t` nothing changes but the link. -/
def LinkOnly (s t : State) : Prop := ∃ d, t = { s with dlp := d }

namespace LinkOnly

theorem refl (s : State) : LinkOnly s s := ⟨s.dlp, rfl⟩

theorem trans {s t u : State} (h1 : LinkOnly s t) (h2 : LinkOnly t u) : LinkOnly s u := by
  obtain ⟨_, rfl⟩ := h1
  obtain ⟨d, rfl⟩ := h2
  exact ⟨d, rfl⟩

end LinkOnly

theorem post_linkOnly (e : Event) (s : State) : LinkOnly s (post e s) := ⟨_, post_eq e s⟩

theorem answerCommand_linkOnly (code : Nat) (r : Result) (data : List Byte) (s : State) :
    LinkOnly s (answerCommand code r data s) := ⟨_, rfl⟩

theorem answerQuery_linkOnly (selector : Nat) (content : List Byte) (s : State) :
    LinkOnly s (answerQuery selector content s) := ⟨_, rfl⟩

theorem answerTable_linkOnly (p : List Byte) (r : Result) (extra : List Byte) (s : State) :
    LinkOnly s (answerTable p r extra s) := ⟨_, rfl⟩

theorem setReceiver_linkOnly (r : Receiver) (s : State) : LinkOnly s (setReceiver r s) := ⟨_, rfl⟩

theorem linkError_linkOnly (k : LinkErrorKind) (b : Option Byte) (s : State) : LinkOnly s (linkError k b s) :=
  .trans (t := { s with dlp := { s.dlp with linkErrors := satInc max16 s.dlp.linkErrors } }) ⟨_, rfl⟩
    (post_linkOnly _ _)

theorem discardFrame_linkOnly (k : LinkErrorKind) (bytes : List Byte) (s : State) :
    LinkOnly s (discardFrame k bytes s) :=
  (setReceiver_linkOnly .hunt s).trans (linkError_linkOnly _ _ _)

theorem judgeFrame_linkOnly (bytes : List Byte) (s : State) : LinkOnly s (judgeFrame bytes s) := by
  unfold judgeFrame
  dsimp only
  repeat' split
  · exact discardFrame_linkOnly _ _ s
  · exact discardFrame_linkOnly _ _ s
  · exact ⟨_, rfl⟩

theorem receiveInFrame_linkOnly (bytes : List Byte) (l : Level) (s : State) :
    LinkOnly s (receiveInFrame bytes l s) := by
  unfold receiveInFrame
  repeat' split
  · exact discardFrame_linkOnly _ _ s
  · exact discardFrame_linkOnly _ _ s
  · exact judgeFrame_linkOnly _ s
  · exact setReceiver_linkOnly _ s

theorem huntByte_linkOnly (b : Byte) (l : Level) (s : State) : LinkOnly s (huntByte b l s) := by
  unfold huntByte
  repeat' split
  · exact setReceiver_linkOnly _ s
  · exact (setReceiver_linkOnly (.passingOver 0 0) s).trans (linkError_linkOnly _ _ _)
  · exact .refl s

theorem passByte_linkOnly (seen length : Nat) (b : Byte) (l : Level) (s : State) :
    LinkOnly s (passByte seen length b l s) := by
  unfold passByte
  dsimp only
  repeat' split
  all_goals exact setReceiver_linkOnly _ s

theorem receiveByte_linkOnly (b : Byte) (l : Level) (s : State) : LinkOnly s (receiveByte b l s) := by
  unfold receiveByte
  split
  · exact .refl s
  · exact huntByte_linkOnly _ _ s
  · exact receiveInFrame_linkOnly _ _ s
  · exact passByte_linkOnly _ _ _ _ s

theorem byteGap_linkOnly (s : State) : LinkOnly s (byteGap s) := by
  unfold byteGap
  split
  · exact .refl s
  · exact .refl s
  · exact discardFrame_linkOnly _ _ s
  · exact setReceiver_linkOnly _ s

theorem endFrame_linkOnly (f : TxFrame) (s : State) : LinkOnly s (endFrame f s) := by
  unfold endFrame
  dsimp only
  repeat' split
  all_goals exact ⟨_, rfl⟩

theorem transmitEnd_linkOnly (wait : Nat) (s : State) : LinkOnly s (transmitEnd wait s) := by
  unfold transmitEnd
  split
  · exact .refl s
  · exact (endFrame_linkOnly _ s).trans ⟨_, rfl⟩

theorem takeUnknownCommand_linkOnly (p : List Byte) (s : State) : LinkOnly s (takeUnknownCommand p s) := ⟨_, rfl⟩

theorem takeQueryModules_linkOnly (p : List Byte) (s : State) : LinkOnly s (takeQueryModules p s) := by
  unfold takeQueryModules
  split <;> exact ⟨_, rfl⟩

theorem takeFrame_linkOnly (row : FrameRow) {eff : List Byte → State → State} (he : ∀ p s, LinkOnly s (eff p s))
    (s : State) : LinkOnly s (takeFrame row eff s) := by
  unfold takeFrame
  split
  · exact .refl s
  · split
    · rename_i rest _ _
      exact .trans (t := { s with dlp := { s.dlp with held := rest } }) ⟨_, rfl⟩ (he _ _)
    · exact .refl s

/-- The commands whose effect is a matter of the link alone (10). -/
def Instr.onLink : Instr → Bool
  | .frameStart | .frameReceived _ _ | .dlrxByte _ _ | .byteGapTimeout | .transmitFrameEnd _ => true
  | .tableUnknown | .unknownCommand => true
  | .queryRun | .querySlots | .queryTracker | .queryModules | .queryDrivers | .queryCounters | .queryUnknown => true
  | _ => false

theorem commandEffect_linkOnly (c : Instr) (h : Instr.onLink c = true) (s : State) :
    LinkOnly s (commandEffect c s) := by
  cases c with
  | frameStart => exact receiveByte_linkOnly _ _ s
  | frameReceived b l => exact receiveByte_linkOnly b l s
  | dlrxByte b l => exact receiveByte_linkOnly b l s
  | byteGapTimeout => exact byteGap_linkOnly s
  | transmitFrameEnd wait => exact transmitEnd_linkOnly wait s
  | tableUnknown => exact takeFrame_linkOnly .tableUnknown (fun p t => answerTable_linkOnly p .unknown [] t) s
  | unknownCommand => exact takeFrame_linkOnly .unknownCommand takeUnknownCommand_linkOnly s
  | queryRun => exact takeFrame_linkOnly .queryRun (fun _ t => answerQuery_linkOnly 1 (runContent t) t) s
  | querySlots => exact takeFrame_linkOnly .querySlots (fun _ t => answerQuery_linkOnly 2 (slotsContent t) t) s
  | queryTracker => exact takeFrame_linkOnly .queryTracker (fun _ t => answerQuery_linkOnly 3 (trackerContent t) t) s
  | queryModules => exact takeFrame_linkOnly .queryModules takeQueryModules_linkOnly s
  | queryDrivers => exact takeFrame_linkOnly .queryDrivers (fun _ t => answerQuery_linkOnly 5 (driversContent t) t) s
  | queryCounters => exact takeFrame_linkOnly .queryCounters (fun _ t => answerQuery_linkOnly 6 (countersContent t) t) s
  | queryUnknown => exact takeFrame_linkOnly .queryUnknown (fun _ t => answerCommand_linkOnly 9 .unknown [] t) s
  | _ => simp [Instr.onLink] at h

/-- From `s` to `t` neither the tables nor the shed change. -/
structure ShedKept (s t : State) : Prop where
  tbm : t.tbm = s.tbm
  shb : t.shb = s.shb
  hci : t.hci = s.hci

theorem LinkOnly.shedKept {s t : State} (h : LinkOnly s t) : ShedKept s t := by
  obtain ⟨_, rfl⟩ := h
  exact ⟨rfl, rfl, rfl⟩

theorem post_shedKept (e : Event) (s : State) : ShedKept s (post e s) := (post_linkOnly e s).shedKept

theorem onDriving_shedKept (dc : DriverIdx) (f : DriverChannel → DriverSettings → DriverChannel) (s : State) :
    ShedKept s (onDriving dc f s) := by
  simp only [onDriving]
  repeat' split
  all_goals exact ⟨rfl, rfl, rfl⟩

theorem takeOffstateTest_shedKept (p : List Byte) (s : State) : ShedKept s (takeOffstateTest p s) := by
  simp only [takeOffstateTest]
  repeat' split
  all_goals exact ⟨rfl, rfl, rfl⟩

theorem endTest_shedKept (current : Nat) (s : State) : ShedKept s (endTest current s) := by
  unfold endTest
  split
  · exact ⟨rfl, rfl, rfl⟩
  · constructor <;> simp

theorem peakLimitEnds_shedKept (dc : DriverIdx) (s : State) : ShedKept s (peakLimitEnds dc s) := by
  simp only [peakLimitEnds]
  split <;> constructor <;> simp

theorem deglitchEnds_shedKept (dc : DriverIdx) (s : State) : ShedKept s (deglitchEnds dc s) := by
  simp only [deglitchEnds]
  split <;> constructor <;> simp

theorem acquireSensor_shedKept (x : Sensor) (l : Level) (s : State) : ShedKept s (acquireSensor x l s) := by
  unfold acquireSensor
  repeat' split
  all_goals constructor <;> simp

theorem arvRises_shedKept (s : State) : ShedKept s (arvRises s) := by
  unfold arvRises takeRise
  repeat' split
  all_goals constructor <;> simp

theorem arvFalls_shedKept (s : State) : ShedKept s (arvFalls s) := by
  unfold arvFalls
  split <;> exact ⟨rfl, rfl, rfl⟩

theorem feederBreaks_shedKept (f : FeederIdx) (s : State) : ShedKept s (feederBreaks f s) := by
  unfold feederBreaks
  split <;> constructor <;> simp

theorem feederClears_shedKept (f : FeederIdx) (s : State) : ShedKept s (feederClears f s) := by
  unfold feederClears
  split <;> exact ⟨rfl, rfl, rfl⟩

theorem acquireLevel_shedKept (input : EncInput) (l : Level) (s : State) : ShedKept s (acquireLevel input l s) := by
  unfold acquireLevel
  split <;> exact ⟨rfl, rfl, rfl⟩

theorem illegalChange_shedKept (s : State) : ShedKept s (illegalChange s) := by
  unfold illegalChange
  split <;> constructor <;> simp

theorem indexFall_shedKept (s : State) : ShedKept s (indexFall s) := by
  unfold indexFall
  split <;> exact ⟨rfl, rfl, rfl⟩

theorem postChainError_linkOnly (k : ChainIdx) (o : Ordinal) (judged : List Judgement) (lengthErr : Bool) (s : State) :
    LinkOnly s (postChainError k o judged lengthErr s) := by
  simp only [postChainError]
  split
  · exact .refl s
  · exact post_linkOnly _ s
  · exact post_linkOnly _ s

theorem postAlarm_linkOnly (k : ChainIdx) (s : State) (x : (ModuleEntry × Judgement) × Nat) :
    LinkOnly s (postAlarm k s x) := by
  simp only [postAlarm]
  split
  · exact post_linkOnly _ s
  · exact .refl s

theorem applyChainFault_shedKept (k : ChainIdx) (s : State) : ShedKept s (applyChainFault k s) := by
  unfold applyChainFault
  repeat' split
  all_goals exact ⟨rfl, rfl, rfl⟩

/-! ### The images are sound after each operation of the shed -/

theorem State.Images.kept {s t : State} (h : s.Images) (hk : ShedKept s t) : t.Images :=
  h.congr (by rw [hk.tbm]) hk.shb (by rw [hk.hci])

theorem State.Images.linked {s t : State} (h : s.Images) (hl : LinkOnly s t) : t.Images := h.kept hl.shedKept

theorem latchIfDue_imagesSound {s : State} (h : s.Images) : (latchIfDue s).Images := by
  obtain he | ⟨_, o, he⟩ := latchIfDue_cases s
  · rw [he]
    exact h
  · rw [he]
    exact h.congr rfl rfl rfl

theorem settle_imagesSound {s : State} (h : s.Images) : (settle s).Images :=
  evalTarget_imagesSound (latchIfDue_imagesSound (h.congr rfl rfl rfl))

theorem changeState_imagesSound (st : RunState) {s : State} (h : s.Images) : (changeState st s).Images := by
  have henter : (enterState st s).Images := h.kept ⟨by simp, by simp, by simp⟩
  exact (settle_imagesSound henter).kept (post_shedKept _ _)

theorem laterCause_imagesSound (c : Cause) {s : State} (h : s.Images) : (laterCause c s).Images :=
  h.kept ⟨by simp, by simp, by simp⟩

theorem takeCause_imagesSound (s : State) (c : Cause) (h : s.Images) : (takeCause s c).Images := by
  unfold takeCause takeStop takeHalt
  dsimp only
  repeat' split
  · exact changeState_imagesSound _ (changeState_imagesSound _ (h.congr rfl rfl rfl))
  · exact changeState_imagesSound _ (h.congr rfl rfl rfl)
  · exact laterCause_imagesSound _ h
  · exact changeState_imagesSound _ (h.congr rfl rfl rfl)
  · exact changeState_imagesSound _ (h.congr rfl rfl rfl)
  · exact changeState_imagesSound _ (h.congr rfl rfl rfl)
  · exact laterCause_imagesSound _ h
  · exact laterCause_imagesSound _ h

theorem takeCauses_imagesSound (taken : CausesTaken) {s : State} (h : s.Images) : (takeCauses taken s).Images :=
  images_loomOnly.takeCauses takeCause_imagesSound taken h

/-- 04 R72, R73, R75: a latch request. -/
theorem latchRequest_imagesSound (dir : Direction) {s : State} (h : s.Images) : (latchRequest dir s).Images := by
  have hpost : ∀ e, (post e s).Images := fun e => h.kept (post_shedKept e s)
  simp only [latchRequest]
  repeat' split
  · exact (hpost _).congr rfl rfl rfl
  · exact hpost _
  · exact evalTarget_imagesSound (h.congr rfl rfl rfl)
  · exact (hpost _).congr rfl rfl rfl
  · exact hpost _

theorem requestLatch_imagesSound (crosses : Nat → Bool) (dir : Direction) {s : State} (h : s.Images) :
    (requestLatch crosses dir s).Images := by
  unfold requestLatch
  repeat' split
  · exact h
  · exact latchRequest_imagesSound dir h
  · exact h

/-! #### Records discarded -/

theorem dropOrdinal_left (s t : State) (ht : t.shb.target = s.shb.target) (o : Ordinal) (b : Buffer) :
    State.Images.BufferLeft s t b (b.dropOrdinal o) := by
  unfold Buffer.dropOrdinal
  split
  · exact .inl rfl
  · exact .inr ⟨rfl, fun _ => ht⟩

theorem dropOrdinal_serves (o : Ordinal) {c : Chain} {target : Option Ordinal} (h : c.phase.serves target = true) :
    (c.dropOrdinal o).phase.serves target = true := by
  unfold Chain.dropOrdinal
  split
  · rfl
  · exact h

/-- 03 R59, 04 R68: the image of a discarded record is dropped. -/
theorem dropRecord_imagesSound (o : Ordinal) {s : State} (h : s.Images) : (dropRecord o s).Images := by
  refine h.of_left rfl (dropOrdinal_left _ _ rfl o _) (dropOrdinal_left _ _ rfl o _) fun k => ?_
  have hk := dropOrdinal_serves o (h.serves k)
  simpa [dropRecord, modChains] using hk

theorem flushRecord_imagesSound {s : State} (h : s.Images) (r : PickRecord) : (flushRecord s r).Images := by
  have hdrop := dropRecord_imagesSound r.ordinal h
  unfold flushRecord staleIfCarries
  split
  · exact hdrop.congr rfl rfl rfl
  · exact hdrop

theorem flushRun_imagesSound (arg : Ordinal) {s : State} (h : s.Images) : (flushRun arg s).Images := by
  have hflush : ∀ (l : List PickRecord) (u : State), u.Images → (l.foldl flushRecord u).Images := by
    intro l
    induction l with
    | nil => exact fun u hu => hu
    | cons r rs ih => exact fun u hu => ih _ (flushRecord_imagesSound hu r)
  rw [flushRun_eq]
  exact settle_imagesSound ((hflush s.flushed s h).congr rfl rfl rfl)

theorem dropOldest_imagesSound {s : State} (h : s.Images) : (dropOldest s).Images := by
  unfold dropOldest
  repeat' split
  · exact h
  · exact dropRecord_imagesSound _ (h.congr rfl rfl rfl)
  · exact h

theorem retireCurrent_imagesSound {s : State} (h : s.Images) : (retireCurrent s).Images := by
  unfold retireCurrent
  split
  · exact h
  · exact (dropOldest_imagesSound h).congr (by simp) (by simp) (by simp)

theorem promote_imagesSound {s : State} (h : s.Images) : (promote s).Images :=
  (retireCurrent_imagesSound h).congr (by simp [promote]) (by simp [promote]) (by simp [promote])

/-! #### Crossings -/

theorem forwardBoundary_imagesSound {s : State} (h : s.Images) : (forwardBoundary s).Images := by
  unfold forwardBoundary
  repeat' split
  · exact h.kept ⟨by simp, by simp, by simp⟩
  · exact settle_imagesSound ((promote_imagesSound h).kept ⟨by simp, by simp, by simp⟩)
  · exact h.kept ⟨by simp, by simp, by simp⟩

theorem backwardBoundary_imagesSound {s : State} (h : s.Images) : (backwardBoundary s).Images := by
  simp only [backwardBoundary]
  split
  · exact settle_imagesSound (h.kept ⟨by simp, by simp, by simp⟩)
  · exact h.kept ⟨by simp, by simp, by simp⟩

theorem handle_imagesSound (c : StepInfo) (s : State) (x : Handling) (h : s.Images) : (handle c s x).Images := by
  cases x with
  | direction => exact evalTarget_imagesSound h
  | boundary =>
    simp only [handle]
    split
    · exact forwardBoundary_imagesSound h
    · exact backwardBoundary_imagesSound h
  | keep =>
    simp only [handle, keepShed]
    repeat' split
    · exact h
    · exact settle_imagesSound h
    · exact h
  | latch => exact requestLatch_imagesSound _ _ h
  | _ => exact h.kept ⟨by simp, by simp [handle], by simp [handle]⟩

theorem takeStep_imagesSound (m : MachineRecord) (dir : Direction) (order : List Nat) (taken : CausesTaken) {s : State}
    (h : s.Images) : (takeStep m dir order taken s).Images :=
  runOrder_preserves State.Images (stepInfo m.counts s.stk.position dir) (handle_imagesSound _)
    (fun _ place hu => images_loomOnly.takeAt takeCause_imagesSound place hu)
    (fun _ hu => images_loomOnly.drain takeCause_imagesSound hu) taken order _ _ (h.congr rfl rfl rfl)

theorem lineChange_imagesSound (line : EncLine) (elapsed : Nat) (order : List Nat) (taken : CausesTaken) {s : State}
    (h : s.Images) : (lineChange line elapsed order taken s).Images := by
  obtain he | ⟨m, l, _, he | ⟨dir, he⟩⟩ := lineChange_cases line elapsed order taken s
  · rw [he]
    exact h
  · rw [he]
    exact h.congr rfl rfl rfl
  · rw [he]
    exact takeStep_imagesSound m dir order taken (s := lineChanged line elapsed l s) (h.congr rfl rfl rfl)

theorem indexRise_imagesSound {s : State} (h : s.Images) : (indexRise s).Images := by
  have hhome : ∀ (m : MachineRecord) (u : State), u.Images → (homeAt m u).Images := fun m u hu =>
    settle_imagesSound (hu.kept ⟨by simp, by simp, by simp⟩)
  have hfail : ∀ (m : MachineRecord) (d : Int) (u : State), u.Images → (indexFails m d u).Images := fun m d u hu =>
    (settle_imagesSound (s := dropRevTime { u with stk := { u.stk with homing := .unhomed } })
      (hu.congr rfl rfl rfl)).kept ⟨by simp [indexFails], by simp [indexFails], by simp [indexFails]⟩
  unfold indexRise takeIndex
  dsimp only
  repeat' split
  · exact h.congr rfl rfl rfl
  · exact hhome _ _ (h.congr rfl rfl rfl)
  · exact h.congr rfl rfl rfl
  · exact hfail _ _ _ (h.congr rfl rfl rfl)
  · exact h

theorem declareStandstill_imagesSound {s : State} (h : s.Images) : (declareStandstill s).Images := by
  simp only [declareStandstill]
  repeat' split
  · exact changeState_imagesSound _ (h.congr rfl rfl rfl)
  · exact h.congr rfl rfl rfl
  · exact h

end Sys2Proof.Machine

namespace Sys2Proof.Machine

/-! #### The expansion and the chains -/

/-- 03 R58: the FILLING buffer of the target comes to hold the image, and is handed over. -/
theorem completeExpansion_imagesSound {s : State} (h : s.Images) : (completeExpansion s).Images := by
  have htarget : ∀ {b : Buffer} {x : Ordinal × Buffer}, s.bufferSound b = true → b.completed s.tbm = some x →
      s.shb.target = some x.1 ∧ s.bufferSound x.2 = true ∧ x.2.isFilling = false ∧ x.2.ordinal? = b.ordinal? := by
    intro b x hb hx
    obtain ⟨hepoch, hfill⟩ := (bufferSound_iff s b).mp hb
    cases b with
    | filling o e row effects =>
      cases hx
      exact ⟨(hfill rfl).symm, (bufferSound_iff s _).mpr ⟨hepoch, nofun⟩, rfl, rfl⟩
    | _ => simp [Buffer.completed] at hx
  unfold completeExpansion
  split
  · rename_i x hx
    obtain ⟨ht, hsound, hfill, hord⟩ := htarget h.buffer0 hx
    have hheld : (setBuffer .b0 x.2 s).Images :=
      { buffer0 := hsound
        buffer1 := h.buffer1
        oneFilling := fun hf => by simp [setBuffer, hfill] at hf
        distinct := by simpa only [setBuffer, hord] using h.distinct
        serves := h.serves }
    exact handOver_imagesSound hheld ht
  · split
    · rename_i x hx
      obtain ⟨ht, hsound, hfill, hord⟩ := htarget h.buffer1 hx
      have hheld : (setBuffer .b1 x.2 s).Images :=
        { buffer0 := h.buffer0
          buffer1 := hsound
          oneFilling := fun hf => by simp [setBuffer, hfill] at hf
          distinct := by simpa only [setBuffer, hord] using h.distinct
          serves := h.serves }
      exact handOver_imagesSound hheld ht
    · exact h

theorem emits_imagesSound (l : List LineItem) {s : State} (h : s.Images) :
    (l.foldl (fun t x => emit x t) s).Images := by
  induction l generalizing s with
  | nil => exact h
  | cons x xs ih => exact ih (h.emit x)

/-- 04 R65: a SHIFTING chain goes on to CHECKING for the same target. -/
theorem sendCheckCall_imagesSound (k : ChainIdx) {s : State} (h : s.Images) : (sendCheckCall k s).Images := by
  have hk := h.serves k
  simp only [sendCheckCall]
  split
  · rename_i o ho
    rw [ho] at hk
    exact (emits_imagesSound _ (h.setChain k hk)).emit _
  · exact h
  · exact h
  · exact h

/-- 04 R66: a CHECKING chain collects its answers for the same target. -/
theorem collectAnswer_imagesSound (k : ChainIdx) (x : AnswerChar) {s : State} (h : s.Images) :
    (collectAnswer k x s).Images := by
  have hk := h.serves k
  simp only [collectAnswer]
  split
  · rename_i o answers ho
    rw [ho] at hk
    exact h.setChain k hk
  · exact h
  · exact h
  · exact h

/-- 04 R66: a judged chain is READY. -/
theorem closeChecking_imagesSound (k : ChainIdx) {s : State} (h : s.Images) : (closeChecking k s).Images := by
  have halarms : ∀ (l : List ((ModuleEntry × Judgement) × Nat)) (u : State), u.Images →
      (l.foldl (postAlarm k) u).Images := by
    intro l
    induction l with
    | nil => exact fun u hu => hu
    | cons x xs ih => exact fun u hu => ih _ (hu.linked (postAlarm_linkOnly k u x))
  simp only [closeChecking]
  split
  · have hjudged := fun (c : Chain) (hc : c.phase.serves s.shb.target = true) => h.setChain k hc
    refine evalTarget_imagesSound (latchIfDue_imagesSound (State.Images.kept ?_ (applyChainFault_shedKept k _)))
    exact halarms _ _ ((hjudged _ rfl).kept (postChainError_linkOnly k _ _ _ _).shedKept)
  · exact h
  · exact h
  · exact h

theorem clearSticky_imagesSound {s : State} (h : s.Images) : (clearSticky s).Images :=
  h.of_chains rfl rfl fun k => by simpa [clearSticky, modChains] using h.serves k

/-! ### The images are sound after each command -/

theorem takePick_imagesSound (p : List Byte) {s : State} (h : s.Images) : (takePick p s).Images := by
  have hrefuse : ∀ cause, (refusePick cause p s).Images := fun _ => h.kept (post_shedKept _ s)
  have haccept : ∀ r, (acceptPick r s).Images := by
    intro r
    simp only [acceptPick]
    split
    · exact settle_imagesSound (h.congr rfl rfl rfl)
    · exact h.kept ⟨by simp, by simp, by simp⟩
  unfold takePick
  repeat' split
  · exact hrefuse _
  · exact hrefuse _
  · exact hrefuse _
  · exact hrefuse _
  · exact haccept _
  · exact hrefuse _

theorem takeArm_imagesSound (p : List Byte) {s : State} (h : s.Images) : (takeArm p s).Images := by
  unfold takeArm
  repeat' split
  · exact h.linked (answerCommand_linkOnly _ _ _ s)
  · exact (changeState_imagesSound .stopped h).linked (answerCommand_linkOnly _ _ _ _)
  · exact h.linked (answerCommand_linkOnly _ _ _ s)

theorem takeDisarm_imagesSound (p : List Byte) {s : State} (h : s.Images) : (takeDisarm p s).Images := by
  unfold takeDisarm
  split
  · exact (changeState_imagesSound .offline h).linked (answerCommand_linkOnly _ _ _ _)
  · exact h.linked (answerCommand_linkOnly _ _ _ s)

theorem startWeaving_imagesSound {s : State} (h : s.Images) : (startWeaving s).Images :=
  (changeState_imagesSound .weaving (s := clearCauses s) (h.congr rfl rfl rfl)).kept
    ⟨by simp [startWeaving], by simp [startWeaving], by simp [startWeaving]⟩

theorem takeStart_imagesSound (taken : CausesTaken) (p : List Byte) {s : State} (h : s.Images) :
    (takeStart taken p s).Images := by
  have hstarted : (startWeaving { s with run := { s.run with handed := [] } }).Images :=
    startWeaving_imagesSound (h.congr rfl rfl rfl)
  have hdrained : (drain (startWeaving { s with run := { s.run with handed := [] } })).Images :=
    images_loomOnly.drain takeCause_imagesSound hstarted
  have hown : (takingOwn startWeaving s).Images := by
    unfold takingOwn
    exact hdrained.congr rfl rfl rfl
  unfold takeStart
  repeat' split
  · exact h.linked (answerCommand_linkOnly _ _ _ s)
  · exact h.linked (answerCommand_linkOnly _ _ _ s)
  · exact h.linked (answerCommand_linkOnly _ _ _ s)
  · exact h.linked (answerCommand_linkOnly _ _ _ s)
  · exact (takeCauses_imagesSound taken hown).linked (answerCommand_linkOnly _ _ _ _)

theorem takeStopCommand_imagesSound (taken : CausesTaken) (p : List Byte) {s : State} (h : s.Images) :
    (takeStopCommand taken p s).Images := by
  unfold takeStopCommand
  split
  · exact (takeCauses_imagesSound taken (takeCause_imagesSound s (.stop .stopCommand) h)).linked
      (answerCommand_linkOnly _ _ _ _)
  · exact h.linked (answerCommand_linkOnly _ _ _ s)

theorem releaseAll_shedKept (s : State) : ShedKept s (releaseAll s) := ⟨by simp, by simp, by simp⟩

theorem takeClear_imagesSound (p : List Byte) {s : State} (h : s.Images) : (takeClear p s).Images := by
  unfold takeClear
  repeat' split
  · exact h.linked (answerCommand_linkOnly _ _ _ s)
  · exact h.linked (answerCommand_linkOnly _ _ _ s)
  · exact h.linked (answerCommand_linkOnly _ _ _ s)
  · exact (changeState_imagesSound .stopped (h.kept (releaseAll_shedKept s))).linked (answerCommand_linkOnly _ _ _ _)

theorem takeFlush_imagesSound (p : List Byte) {s : State} (h : s.Images) : (takeFlush p s).Images := by
  unfold takeFlush
  split
  · exact (flushRun_imagesSound _ h).linked (answerCommand_linkOnly _ _ _ _)
  · exact h.linked (answerCommand_linkOnly _ _ _ s)

theorem takeHome_imagesSound (p : List Byte) {s : State} (h : s.Images) : (takeHome p s).Images := by
  have hhoming : (startHoming s).Images := by
    simp only [startHoming]
    split <;> exact settle_imagesSound (h.congr rfl rfl rfl)
  unfold takeHome
  repeat' split
  · exact h.linked (answerCommand_linkOnly _ _ _ s)
  · exact hhoming.linked (answerCommand_linkOnly _ _ _ _)
  · exact h.linked (answerCommand_linkOnly _ _ _ s)

theorem takeSoftReset_imagesSound (p : List Byte) (s : State) : (takeSoftReset p s).Images := by
  have hreset : (softResetBlocks s).Images := by
    refine .of_empty (by simp [Shb.hardReset]) (by simp [Shb.hardReset]) fun k => ?_
    rw [(softResetBlocks_chain s k).1]
    rfl
  exact hreset.kept ⟨by simp [takeSoftReset], by simp [takeSoftReset], by simp [takeSoftReset]⟩

/-- 02 R35: an accepted pattern write empties the buffers and the chains. -/
theorem patternWrite_imagesSound (s : State) : (patternWrite s).Images :=
  settle_imagesSound (.of_empty rfl rfl fun k => by simp [modChains, ChainPhase.serves])

theorem patternTable_imagesSound (p : List Byte) (ok : Bool) (checks : List FieldCheck) (write : State → State)
    {s : State} (h : s.Images) : (patternTable p ok checks write s).Images := by
  obtain ⟨r, x, he⟩ | ⟨_, _, x, he⟩ := patternTable_cases p ok checks write s
  · rw [he]
    exact h.linked (answerTable_linkOnly _ _ _ _)
  · rw [he]
    exact (patternWrite_imagesSound _).linked (answerTable_linkOnly _ _ _ _)

theorem checkedWrite_imagesSound (p : List Byte) (ok : Bool) (checks : List FieldCheck) {write : State → State}
    {s : State} (h : s.Images) (hw : (write s).Images) : (checkedWrite p ok checks write s).Images := by
  obtain ⟨r, x, he⟩ | ⟨_, x, he⟩ := checkedWrite_cases p ok checks write s
  · rw [he]
    exact h.linked (answerTable_linkOnly _ _ _ _)
  · rw [he]
    exact hw.linked (answerTable_linkOnly _ _ _ _)

theorem takeTableMachine_imagesSound (p : List Byte) {s : State} (h : s.Images) : (takeTableMachine p s).Images :=
  patternTable_imagesSound p _ _ _ h

theorem takeTableSections_imagesSound (p : List Byte) {s : State} (h : s.Images) : (takeTableSections p s).Images :=
  patternTable_imagesSound p _ _ _ h

theorem takeTableEffects_imagesSound (p : List Byte) {s : State} (h : s.Images) : (takeTableEffects p s).Images :=
  patternTable_imagesSound p _ _ _ h

theorem takeTableWeaves_imagesSound (p : List Byte) {s : State} (h : s.Images) : (takeTableWeaves p s).Images :=
  patternTable_imagesSound p _ _ _ h

theorem takeTableProfiles_imagesSound (p : List Byte) {s : State} (h : s.Images) : (takeTableProfiles p s).Images :=
  checkedWrite_imagesSound p _ _ (write := writeProfile _ _) h (h.congr rfl rfl rfl)

theorem takeTableWefts_imagesSound (p : List Byte) {s : State} (h : s.Images) : (takeTableWefts p s).Images :=
  checkedWrite_imagesSound p _ _ (write := writeWeft _ _) h (h.congr rfl rfl rfl)

theorem takeTableDrivers_imagesSound (p : List Byte) {s : State} (h : s.Images) : (takeTableDrivers p s).Images :=
  checkedWrite_imagesSound p _ _ (write := writeDriver _ _) h (h.congr rfl rfl rfl)

theorem takeFrame_imagesSound (row : FrameRow) {eff : List Byte → State → State}
    (he : ∀ p (u : State), u.Images → (eff p u).Images) {s : State} (h : s.Images) : (takeFrame row eff s).Images :=
  images_loomOnly.takeFrame he row h

/-- Every command's effect leaves the images sound. -/
theorem commandEffect_imagesSound (c : Instr) (s : State) (h : s.Images) : (commandEffect c s).Images := by
  cases c with
  | hardReset => exact h
  | resetRelease => exact h
  | pickFrame => exact takeFrame_imagesSound .pick (fun p _ => takePick_imagesSound p) h
  | tableMachine => exact takeFrame_imagesSound (.table .machine) (fun p _ => takeTableMachine_imagesSound p) h
  | tableSections => exact takeFrame_imagesSound (.table .sections) (fun p _ => takeTableSections_imagesSound p) h
  | tableEffects => exact takeFrame_imagesSound (.table .effects) (fun p _ => takeTableEffects_imagesSound p) h
  | tableWeaves => exact takeFrame_imagesSound (.table .weaves) (fun p _ => takeTableWeaves_imagesSound p) h
  | tableProfiles => exact takeFrame_imagesSound (.table .profiles) (fun p _ => takeTableProfiles_imagesSound p) h
  | tableWefts => exact takeFrame_imagesSound (.table .wefts) (fun p _ => takeTableWefts_imagesSound p) h
  | tableDrivers => exact takeFrame_imagesSound (.table .drivers) (fun p _ => takeTableDrivers_imagesSound p) h
  | arm => exact takeFrame_imagesSound .arm (fun p _ => takeArm_imagesSound p) h
  | disarm => exact takeFrame_imagesSound .disarm (fun p _ => takeDisarm_imagesSound p) h
  | start taken => exact takeFrame_imagesSound .start (fun p _ => takeStart_imagesSound taken p) h
  | stop taken => exact takeFrame_imagesSound .stop (fun p _ => takeStopCommand_imagesSound taken p) h
  | clear => exact takeFrame_imagesSound .clear (fun p _ => takeClear_imagesSound p) h
  | flush => exact takeFrame_imagesSound .flush (fun p _ => takeFlush_imagesSound p) h
  | home => exact takeFrame_imagesSound .home (fun p _ => takeHome_imagesSound p) h
  | softReset => exact takeFrame_imagesSound .softReset (fun p u _ => takeSoftReset_imagesSound p u) h
  | offstateTest =>
    exact takeFrame_imagesSound .offstateTest (fun p u hu => hu.kept (takeOffstateTest_shedKept p u)) h
  | clearModuleFlags =>
    exact takeFrame_imagesSound .clearModuleFlags
      (fun _ _ hu => (clearSticky_imagesSound hu).linked (answerCommand_linkOnly 11 .ok [] _)) h
  | encoderLevelAcquired input l => exact h.kept (acquireLevel_shedKept input l s)
  | encoderStep line elapsed order taken =>
    exact takeCauses_imagesSound taken (lineChange_imagesSound line elapsed order taken h)
  | illegalTransition taken => exact takeCauses_imagesSound taken (h.kept (illegalChange_shedKept s))
  | indexPulse taken => exact takeCauses_imagesSound taken (indexRise_imagesSound h)
  | standstill => exact declareStandstill_imagesSound h
  | sensorLevelAcquired x l taken => exact takeCauses_imagesSound taken (h.kept (acquireSensor_shedKept x l s))
  | arvRise => exact h.kept (arvRises_shedKept s)
  | arvFall => exact h.kept (arvFalls_shedKept s)
  | feederBreak f taken => exact takeCauses_imagesSound taken (h.kept (feederBreaks_shedKept f s))
  | feederClear f => exact h.kept (feederClears_shedKept f s)
  | peakLevelReached dc => exact h.kept (onDriving_shedKept dc _ s)
  | holdLevelReached dc => exact h.kept (onDriving_shedKept dc _ s)
  | directLoadReached dc => exact h.kept (onDriving_shedKept dc _ s)
  | chopOffTimeEnd dc current => exact h.kept (onDriving_shedKept dc _ s)
  | blankingEnd dc current => exact h.kept (onDriving_shedKept dc _ s)
  | overcurrentRise dc => exact h.kept (onDriving_shedKept dc _ s)
  | overcurrentFall dc => exact h.kept (onDriving_shedKept dc (fun c _ => { c with deglitchTimer := none }) s)
  | peakTimeLimitEnd dc taken => exact takeCauses_imagesSound taken (h.kept (peakLimitEnds_shedKept dc s))
  | deglitchEnd dc taken => exact takeCauses_imagesSound taken (h.kept (deglitchEnds_shedKept dc s))
  | testEnd current => exact h.kept (endTest_shedKept current s)
  | expansionComplete => exact completeExpansion_imagesSound h
  | segmentsSent k => exact sendCheckCall_imagesSound k h
  | moduleAnswer k position b l => exact collectAnswer_imagesSound k _ h
  | endOfChecking k taken => exact takeCauses_imagesSound taken (closeChecking_imagesSound k h)
  | enczFall => exact h.kept (indexFall_shedKept s)
  | _ => exact h.linked (commandEffect_linkOnly _ rfl s)

/-- Settles O56: the reset state, every command's effect and RUN's taking of a cause leave the images sound. -/
theorem imagesStaySound : Obligations.ImagesStaySound := fun s t h hs =>
  (imagesSound_iff t).mpr
    (images_loomOnly.step ((imagesSound_iff _).mp (by decide)) commandEffect_imagesSound takeCause_imagesSound
      ((imagesSound_iff s).mp h) hs)

end Sys2Proof.Machine

/-! ## Table frames -/

namespace Sys2Proof.Machine

/-! ### Every table frame is one checked write -/

/-- The effect of the row that takes a TABLE frame for a known table (02 R28). -/
def takeTable : TableId → List Byte → State → State
  | .machine => takeTableMachine
  | .sections => takeTableSections
  | .effects => takeTableEffects
  | .weaves => takeTableWeaves
  | .profiles => takeTableProfiles
  | .wefts => takeTableWefts
  | .drivers => takeTableDrivers

theorem exec_tableCommand (id : TableId) (s : State) :
    exec (tableCommand id) s = command (takeFrame (.table id) (takeTable id)) s := by
  cases id <;> rfl

/-- What an accepted frame for a table writes (02 R30 to R40), before the rest of a pattern write (R35). -/
def tableWrite (p : List Byte) : TableId → State → State
  | .machine => writeMachine (machineRecordOf p)
  | .sections => writeSection (tableIndex p) (sectionOf p)
  | .effects => writeEffect (tableIndex p) (effectOf p)
  | .weaves => writeWeave (tableIndex p) (weaveOf p)
  | .profiles => writeProfile (tableIndex p) (profileOf p)
  | .wefts => writeWeft (tableIndex p) (weftOf p)
  | .drivers => writeDriver (tableIndex p) (driverOf p)

@[simp] theorem armLimit_headTaken (rest : List RxFrame) (s : State) : (headTaken rest s).armLimit = s.armLimit := rfl

theorem takeTable_pattern {id : TableId} (h : isPattern id = true) (p : List Byte) (s : State) :
    takeTable id p s = patternTable p (tableLengthOk p id) (tableChecks s.armLimit p id) (tableWrite p id) s := by
  cases id with
  | machine => rfl
  | sections => rfl
  | effects => rfl
  | weaves => rfl
  | _ => simp [isPattern] at h

theorem takeTable_live {id : TableId} (h : isPattern id = false) (p : List Byte) (s : State) :
    takeTable id p s = checkedWrite p (tableLengthOk p id) (tableChecks s.armLimit p id) (tableWrite p id) s := by
  cases id with
  | profiles => rfl
  | wefts => rfl
  | drivers => rfl
  | _ => simp [isPattern] at h

/-! ### The order of the checks -/

/-- 02 R28 check 3. -/
theorem checkedWrite_format (p : List Byte) (checks : List FieldCheck) (write : State → State) (s : State) :
    checkedWrite p false checks write s = answerTable p .format [] s := rfl

/-- 02 R28 check 4. -/
theorem checkedWrite_range (p : List Byte) {checks : List FieldCheck} {field : Nat} (h : firstBad checks = some field)
    (write : State → State) (s : State) :
    checkedWrite p true checks write s = answerTable p .range (enc8 field) s := by
  simp [checkedWrite, h]

theorem checkedWrite_accepted (p : List Byte) {checks : List FieldCheck} (h : firstBad checks = none)
    (write : State → State) (s : State) :
    checkedWrite p true checks write s = answerTable p .ok (encWord (write s).tbm.epoch) (write s) := by
  simp [checkedWrite, h]

theorem patternTable_offline (p : List Byte) (ok : Bool) (checks : List FieldCheck) (write : State → State) {s : State}
    (h : s.run.state = .offline) :
    patternTable p ok checks write s = checkedWrite p ok checks (fun t => patternWrite (write t)) s := by
  simp [patternTable, h]

/-- 02 R28 check 2. -/
theorem takeTable_state {id : TableId} (p : List Byte) {s : State} (h : isPattern id = true ∧ s.run.state ≠ .offline) :
    takeTable id p s = answerTable p .state [] s := by
  rw [takeTable_pattern h.1, patternTable_running p _ _ _ h.2]

/-- Past check 2 a frame for a table is a write with the length and the field checks of its table. -/
theorem takeTable_checked {id : TableId} (p : List Byte) {s : State}
    (h : ¬(isPattern id = true ∧ s.run.state ≠ .offline)) :
    ∃ write, takeTable id p s = checkedWrite p (tableLengthOk p id) (tableChecks s.armLimit p id) write s := by
  cases hp : isPattern id with
  | true =>
    have hoff : s.run.state = .offline := not_not.mp fun hne => h ⟨hp, hne⟩
    exact ⟨_, (takeTable_pattern hp p s).trans (patternTable_offline p _ _ _ hoff)⟩
  | false => exact ⟨_, takeTable_live hp p s⟩

/-! ### Refused writes -/

/-- The answer of a TABLE frame (10 R195). -/
def tableAnswer (p : List Byte) (r : Result) (extra : List Byte) : Answer :=
  { kind := .table, code := p.getD 0 0, result := r, data := enc16 (tableIndex p) ++ extra }

/-- A TABLE frame whose row's effect is an answer alone changes nothing else. -/
theorem answered_table {id : TableId} {p : List Byte} {rest : List RxFrame} {s : State} {r : Result} {extra : List Byte}
    (h : Taking (.table id) p rest s)
    (he : takeTable id p (headTaken rest s) = answerTable p r extra (headTaken rest s)) :
    Answered (tableCommand id) (tableAnswer p r extra) rest s :=
  answered_of h (takeTable id) (exec_tableCommand id s) he

/-- Settles O15: check by check of R28, each refusal is an answer and nothing else. -/
theorem tableWritesAreRefused : Obligations.TableWritesAreRefused := by
  intro s p rest refused
  refine ⟨fun h => answered_of h _ rfl rfl, fun id h => ⟨fun hstate => ?_, fun hopen => ?_⟩⟩
  · exact answered_table h (takeTable_state p (s := headTaken rest s) hstate)
  · obtain ⟨write, hw⟩ := takeTable_checked (id := id) p (s := headTaken rest s) hopen
    refine ⟨fun hlen => ?_, fun hlen field hfield => ?_⟩
    · rw [hlen, checkedWrite_format] at hw
      exact answered_table h hw
    · rw [hlen, armLimit_headTaken, checkedWrite_range p hfield] at hw
      exact answered_table h hw

/-! ### Accepted writes -/

/-- An accepted write of a live table: the write is made, and answered with the epoch (02 R36). -/
theorem exec_liveWrite {id : TableId} {p : List Byte} {rest : List RxFrame} {s : State} (hid : isPattern id = false)
    (h : Taking (.table id) p rest s) (hlen : tableLengthOk p id = true)
    (hchecks : firstBad (tableChecks s.armLimit p id) = none) :
    let u := tableWrite p id (headTaken rest s)
    exec (tableCommand id) s = .next (kickTransmitter (answerTable p .ok (encWord u.tbm.epoch) u)) := by
  intro u
  rw [exec_tableCommand, taking_headTaken h, takeTable_live hid, hlen, armLimit_headTaken,
    checkedWrite_accepted p hchecks]

/-- An accepted pattern write: the write is made and handed on, and answered with the new epoch (02 R35). -/
theorem exec_patternWrite {id : TableId} {p : List Byte} {rest : List RxFrame} {s : State} (hid : isPattern id = true)
    (h : Taking (.table id) p rest s) (hoff : s.run.state = .offline) (hlen : tableLengthOk p id = true)
    (hchecks : firstBad (tableChecks s.armLimit p id) = none) :
    let u := patternWrite (tableWrite p id (headTaken rest s))
    exec (tableCommand id) s = .next (kickTransmitter (answerTable p .ok (encWord u.tbm.epoch) u)) := by
  intro u
  have hhead : (headTaken rest s).run.state = .offline := hoff
  rw [exec_tableCommand, taking_headTaken h, takeTable_pattern hid, patternTable_offline p _ _ _ hhead, hlen,
    armLimit_headTaken, checkedWrite_accepted p hchecks]

/-- 02 R36: with the tables alone written and the epoch kept, a live write is as R37 to R40 want it. -/
theorem liveTable_written {id : TableId} {p : List Byte} {rest : List RxFrame} {s : State} {tables : Tbm}
    (hid : isPattern id = false) (h : Taking (.table id) p rest s) (hlen : tableLengthOk p id = true)
    (hchecks : firstBad (tableChecks s.armLimit p id) = none)
    (hw : tableWrite p id (headTaken rest s) = { headTaken rest s with tbm := tables })
    (hepoch : tables.epoch = s.tbm.epoch) :
    ∃ t, exec (tableCommand id) s = .next t ∧ ChangedOnly [.dlp, .tbm] s t ∧ t.tbm = tables ∧
      LinkLeft (s.dlp.taken rest (tableOk p s.tbm.epoch)) t := by
  have hexec := exec_liveWrite hid h hlen hchecks
  rw [hw] at hexec
  refine ⟨_, hexec, by simp [ChangedOnly, answerTable], by simp [answerTable], linkLeft_of ?_⟩
  simp [answerTable, hepoch, Dlp.taken, tableOk]

/-- Settles O14: each live write is made in any run state, with its own table written and the epoch kept. -/
theorem liveTablesAreWritten : Obligations.LiveTablesAreWritten := fun _ _ _ =>
  ⟨fun h hlen hchecks => liveTable_written (id := .profiles) rfl h hlen hchecks rfl rfl,
    fun h hlen hchecks => liveTable_written (id := .wefts) rfl h hlen hchecks rfl rfl,
    fun h hlen hchecks => liveTable_written (id := .drivers) rfl h hlen hchecks rfl rfl⟩

theorem markStale_eq (t : ShedTag) : t.markStale = { t with stale := t.stale || t.ordinal.isSome } := by
  obtain ⟨o, stale, degraded⟩ := t
  cases o <;> simp [ShedTag.markStale]

/-- 02 R35: with the tables alone written and the epoch kept until then, a pattern write is as R31 to R33 want it. -/
theorem patternTable_written {id : TableId} {p : List Byte} {rest : List RxFrame} {s : State} {tables : Tbm}
    (hid : isPattern id = true) (h : Taking (.table id) p rest s) (hoff : s.run.state = .offline)
    (hlen : tableLengthOk p id = true) (hchecks : firstBad (tableChecks s.armLimit p id) = none)
    (hw : tableWrite p id (headTaken rest s) = { headTaken rest s with tbm := tables })
    (hepoch : tables.epoch = s.tbm.epoch) : PatternWritten (tableCommand id) tables p rest s := by
  have hexec := exec_patternWrite hid h hoff hlen hchecks
  rw [hw, patternWrite_offline _ (by exact hoff)] at hexec
  refine ⟨_, hexec, ?_⟩
  simp only [kickTransmitter_frame, answerTable, setAnswer_frame, headTaken_frame, hepoch, markStale_eq]
  refine ⟨by simp [ChangedOnly], trivial, trivial, fun k => by simp, trivial, trivial, linkLeft_of ?_⟩
  simp [Dlp.taken, tableOk]

/-- Settles O12: each of the three writes is made in OFFLINE and handed on as R35 wants it. -/
theorem patternTablesAreWritten : Obligations.PatternTablesAreWritten := fun _ _ _ hoff =>
  ⟨fun h hlen hchecks => patternTable_written (id := .sections) rfl h hoff hlen hchecks rfl rfl,
    fun h hlen hchecks => patternTable_written (id := .effects) rfl h hoff hlen hchecks rfl rfl,
    fun h hlen hchecks => patternTable_written (id := .weaves) rfl h hoff hlen hchecks rfl rfl⟩

/-- Settles O13: the machine record is written in OFFLINE, its values handed on, and the pattern write made. -/
theorem machineRecordIsWritten : Obligations.MachineRecordIsWritten := by
  intro s p rest m h hoff hlen hchecks
  have hexec := exec_patternWrite (id := .machine) rfl h hoff hlen hchecks
  have hwoff : (writeMachine m (headTaken rest s)).run.state = .offline := by simpa [writeMachine_frame] using hoff
  have hchain := writeMachine_chain m (headTaken rest s)
  have hstk := writeMachine_stk m (headTaken rest s)
  rw [show tableWrite p .machine = writeMachine m from rfl, patternWrite_offline _ hwoff] at hexec
  refine ⟨_, hexec, ?_⟩
  simp only [kickTransmitter_frame, answerTable, setAnswer_frame, writeMachine_frame, writeMachine_psq, headTaken_frame,
    markStale_eq, hstk]
  refine ⟨by simp [ChangedOnly], trivial, rfl, trivial, fun k => by simp, trivial, fun hnew => ?_,
    fun old hold hn ho => ?_, fun hnew k => ?_, fun old hold hsame k => ?_, linkLeft_of ?_⟩
  · rw [if_pos ((shaftChanges_iff _ m).mpr hnew)]
    rfl
  · rw [if_neg fun hs => ((shaftChanges_iff _ m).mp hs old hold).elim (absurd hn) (absurd ho)]
  · have hk := (hchain k).trans (if_pos ((headChanges_iff _ m).mpr hnew))
    simpa using And.intro (congrArg Chain.lengthFlag hk) (congrArg Chain.entries hk)
  · have hk := (hchain k).trans (if_neg fun hs => (headChanges_iff _ m).mp hs old hold hsame)
    simpa using And.intro (congrArg Chain.lengthFlag hk) (congrArg Chain.entries hk)
  · simp [Dlp.taken, tableOk]

end Sys2Proof.Machine

/-! ## ARM and DISARM -/

namespace Sys2Proof.Machine

/-! ### The first check that fails -/

theorem firstNamed_append {l : List (Nat × Option Nat)} (h : ∀ x ∈ l, x.2 = none) (tail : List (Nat × Option Nat)) :
    firstNamed (l ++ tail) = firstNamed tail := by
  induction l with
  | nil => rfl
  | cons x xs ih =>
    obtain ⟨hx, hxs⟩ := List.forall_mem_cons.mp h
    obtain ⟨id, o⟩ := x
    cases hx
    exact ih hxs

/-- Of checks made in increasing number the first one that names a record is found. -/
theorem firstNamed_check {id : Nat → Nat} {stage : Nat → Option Nat} {check i : Nat} (hi : stage check = some i)
    (hearlier : ∀ c < check, stage c = none) (tail : List (Nat × Option Nat)) {checks : List Nat}
    (hsorted : checks.Pairwise (· < ·)) (hmem : check ∈ checks) :
    firstNamed (checks.map (fun c => (id c, stage c)) ++ tail) = some (id check, i) := by
  induction checks with
  | nil => simp at hmem
  | cons c cs ih =>
    obtain ⟨hlt, hcs⟩ := List.pairwise_cons.mp hsorted
    rcases List.mem_cons.mp hmem with rfl | hmem
    · simp [firstNamed, hi]
    · simp only [List.map_cons, List.cons_append, hearlier c (hlt check hmem), firstNamed]
      exact ih hcs hmem

/-- 02 R42: checks 2 to 8 alone name a record. -/
theorem armFault_check {t : Tbm} {m : MachineRecord} {check i : Nat} (h : ArmFault t m check i) :
    check ∈ [2, 3, 4, 5, 6, 7, 8] := by
  unfold ArmFault at h
  split at h
  all_goals simp at h ⊢

/-- 02 R42 check 1. -/
theorem armFailure_machine {t : Tbm} (h : t.machine = none) (run : List PickRecord) :
    armFailure t run = some (1, 0) := by
  simp [armFailure, h]

/-- 02 R42: the first of checks 2 to 8 that fails names its lowest record. -/
theorem armFailure_fault {t : Tbm} {m : MachineRecord} (hm : t.machine = some m) {check i : Nat}
    (hfault : ArmFault t m check i) (hleast : ∀ j < i, ¬ArmFault t m check j)
    (hearlier : ∀ earlier < check, ∀ j, ¬ArmFault t m earlier j) (run : List PickRecord) :
    armFailure t run = some (armFaultTable check, i) := by
  rw [armFailure_stages t m run hm]
  exact firstNamed_check ((armStage_least t m check).1 i |>.mpr ⟨hfault, hleast⟩)
    (fun c hc => (armStage_least t m c).2.mpr (hearlier c hc)) _ (by decide) (armFault_check hfault)

/-- 02 R42, 09 R162: with checks 1 to 8 passed, the picks held decide. -/
theorem armFailure_passed {t : Tbm} {m : MachineRecord} (hm : t.machine = some m)
    (hpass : ∀ check i, ¬ArmFault t m check i) (run : List PickRecord) :
    armFailure t run =
      firstNamed [(8, (run.find? fun r => r.effects.length != m.width).map fun r => r.ordinal.toNat)] := by
  rw [armFailure_stages t m run hm, firstNamed_append]
  intro x hx
  obtain ⟨c, _, rfl⟩ := List.mem_map.mp hx
  exact (armStage_least t m c).2.mpr (hpass c)

/-- 02 R42 check 9: the first held pick of another width. -/
theorem armFailure_heldPick {t : Tbm} {m : MachineRecord} (hm : t.machine = some m)
    (hpass : ∀ check i, ¬ArmFault t m check i) {before after : List PickRecord} {r : PickRecord}
    (hbefore : ∀ x ∈ before, x.effects.length = m.width) (hr : r.effects.length ≠ m.width) :
    armFailure t (before ++ r :: after) = some (8, r.ordinal.toNat) := by
  have hfind : (before ++ r :: after).find? (fun r => r.effects.length != m.width) = some r :=
    List.find?_eq_some_iff_append.mpr
      ⟨by simpa using hr, before, after, rfl, fun x hx => by simpa using hbefore x hx⟩
  rw [armFailure_passed hm hpass, hfind]
  rfl

theorem armFailure_none {t : Tbm} {m : MachineRecord} (hm : t.machine = some m)
    (hpass : ∀ check i, ¬ArmFault t m check i) {run : List PickRecord}
    (hrun : ∀ r ∈ run, r.effects.length = m.width) : armFailure t run = none := by
  have hfind : run.find? (fun r => r.effects.length != m.width) = none :=
    List.find?_eq_none.mpr fun r hr => by simpa using hrun r hr
  rw [armFailure_passed hm hpass, hfind]
  rfl

/-! ### The answers -/

/-- A command of run control that is answered alone. -/
theorem answered_command {row : FrameRow} {p : List Byte} {rest : List RxFrame} {s : State} {c : Instr}
    {eff : List Byte → State → State} (h : Taking row p rest s) (hc : exec c s = command (takeFrame row eff) s)
    {code : Nat} {r : Result} {data : List Byte}
    (he : eff p (headTaken rest s) = answerCommand code r data (headTaken rest s)) :
    Answered c (commandAnswer code r data) rest s := answered_of h eff hc he

/-- 02 R43: the first check of ARM that fails is answered. -/
theorem arm_refused {p : List Byte} {rest : List RxFrame} {s : State} {id record : Nat} (h : Taking .arm p rest s)
    (hoff : s.run.state = .offline) (hfail : armFailure s.tbm s.psq.runRecords = some (id, record)) :
    Answered .arm (commandAnswer 1 .table (enc8 id ++ enc16 record)) rest s :=
  answered_command h (eff := takeArm) rfl (by simp [takeArm, hoff, hfail, tableData])

theorem post_answer (d : Dlp) (e : Event) (a : Answer) :
    ({ d.post e with answer := some a } : Dlp) = ({ d with answer := some a } : Dlp).post e := by
  unfold Dlp.post
  dsimp only
  split <;> rfl

/-- 09 R162, R163: what a change of run state with no part woven, answered OK, leaves. -/
theorem answered_change {st : RunState} (hst : st ≠ .weaving) (code : Nat) (rest : List RxFrame) {s : State}
    (hs : s.run.state ≠ .weaving) :
    let t := kickTransmitter (answerCommand code .ok [] (changeState st (headTaken rest s)))
    ChangedOnly [.lines, .dlp, .shb, .hci, .drv, .run] s t ∧ t.run = { s.run with state := st, permit := false } ∧
      t.drv = { s.drv with channels := Vector.ofFn fun dc => (s.drv.channels[dc]).switchedOff } ∧
      LinkLeft
        ((s.dlp.taken rest (commandAnswer code .ok [])).post
          (.runState st s.run.state s.run.firstStop s.run.haltCause none)) t := by
  have hsnapshot : (changeState st (headTaken rest s)).asc = s.asc :=
    congrArg Asc.mk (by simp [hs])
  refine ⟨by simp [ChangedOnly, hs, hst, hsnapshot], by simp [hst], by simp [hst], linkLeft_of ?_⟩
  simp only [answerCommand, setAnswer_dlp, changeState_dlp, headTaken_frame]
  exact post_answer _ _ _

theorem switchedOff_testing {c : DriverChannel} (h : c.phase = .testing) : c.switchedOff = c := by
  simp [DriverChannel.switchedOff, h, DrivePhase.driving]

/-- Settles O16: ARM answers by the first check that fails, or goes to STOPPED; DISARM goes to OFFLINE. -/
theorem armAndDisarm : Obligations.ArmAndDisarm := by
  refine ⟨?_, fun s p rest h => ⟨fun hstop => ?_, fun hno => ?_⟩⟩
  · intro s p rest h refused
    refine ⟨fun hoff => ⟨fun hm => arm_refused h hoff (armFailure_machine hm _), fun m hm =>
      ⟨fun check i hfault hleast hearlier => arm_refused h hoff (armFailure_fault hm hfault hleast hearlier _),
        fun hpass => ⟨fun before r after hrun hbefore hr => ?_, fun hrun => ?_⟩⟩⟩, fun hon => ?_⟩
    · exact arm_refused h hoff (hrun ▸ armFailure_heldPick hm hpass hbefore hr)
    · have htake : takeArm p (headTaken rest s) = answerCommand 1 .ok [] (changeState .stopped (headTaken rest s)) := by
        simp [takeArm, hoff, armFailure_none hm hpass hrun]
      obtain ⟨honly, hstate, hdrv, hlink⟩ := answered_change (st := .stopped) nofun 1 rest (s := s) (by simp [hoff])
      refine ⟨_, (taking_headTaken h takeArm).trans (by rw [htake]), honly, hstate, fun dc => ?_, ?_, hoff ▸ hlink⟩
      · simp
      · rw [hdrv]
    · exact answered_command h (eff := takeArm) rfl (by simp [takeArm, hon])
  · have htake : takeDisarm p (headTaken rest s) =
        answerCommand 2 .ok [] (changeState .offline (headTaken rest s)) := by simp [takeDisarm, hstop]
    obtain ⟨honly, hstate, hdrv, hlink⟩ := answered_change (st := .offline) nofun 2 rest (s := s) (by simp [hstop])
    refine ⟨_, (taking_headTaken h takeDisarm).trans (by rw [htake]), honly, hstate, ?_, ?_, ?_, fun dc => ?_, ?_,
      fun dc htest => ?_, hstop ▸ hlink⟩
    · simp [changeState_target]
    · simp [changeState_tag]
    · simp [changeState_required]
    · simp
    · rw [hdrv]
    · simpa using switchedOff_testing htest
  · exact answered_command h (eff := takeDisarm) rfl (by simp [takeDisarm, hno])

end Sys2Proof.Machine

/-! ## A step's handlings in the order they are taken -/

namespace Sys2Proof.Machine

/-! ### The acts of a step -/

/-- What happens between the blocks and RUN as a step's crossings are taken (05 R97, log 6): a block takes a handling,
RUN takes the cause that has waited longest, or RUN takes every cause. -/
inductive StepAct where
  | handling (h : Handling)
  | take
  | drain

/-- An act takes place. -/
def StepAct.apply (c : StepInfo) (s : State) : StepAct → State
  | .handling h => handle c s h
  | .take => takeAt s 0
  | .drain => Machine.drain s

/-- The handling an act is, if it is one. -/
def StepAct.handling? : StepAct → Option Handling
  | .handling h => some h
  | .take => none
  | .drain => none

/-- The acts `l` take each of the handlings `rest` once; RUN takes causes among them only where the order or the taking
names it. -/
structure StepActs (taken : CausesTaken) (order : List Nat) (rest : List Handling) (l : List StepAct) : Prop where
  handlings : (l.filterMap StepAct.handling?).Perm rest
  take : .take ∈ l → 0 ∈ order
  drain : .drain ∈ l → taken = .every

theorem StepActs.mem_handling {taken : CausesTaken} {order : List Nat} {rest : List Handling} {l : List StepAct}
    (hl : StepActs taken order rest l) (h : Handling) : .handling h ∈ l ↔ h ∈ rest := by
  rw [← hl.handlings.mem_iff, List.mem_filterMap]
  refine ⟨fun hm => ⟨_, hm, rfl⟩, ?_⟩
  rintro ⟨a, ha, he⟩
  cases a with
  | handling x =>
    cases he
    exact ha
  | take => cases he
  | drain => cases he

theorem handleRest_acts (c : StepInfo) (taken : CausesTaken) (order : List Nat) (rest : List Handling) (s : State) :
    ∃ l, StepActs taken order rest l ∧ handleRest c taken rest s = l.foldl (StepAct.apply c) s := by
  cases taken with
  | every =>
    refine ⟨.drain :: rest.flatMap fun h => [.handling h, .drain], ⟨?_, by simp, fun _ => rfl⟩, ?_⟩
    · have hrest : ∀ l : List Handling,
          (l.flatMap fun h => [StepAct.handling h, .drain]).filterMap StepAct.handling? = l := by
        intro l
        induction l with
        | nil => rfl
        | cons h hs ih => exact congrArg (h :: ·) ih
      exact .of_eq (hrest rest)
    · simp only [handleRest, List.foldl_cons, List.foldl_flatMap]
      rfl
  | only places =>
    refine ⟨rest.map .handling, ⟨?_, by simp, by simp⟩, ?_⟩
    · simp [List.filterMap_map, Function.comp_def, StepAct.handling?]
    · simp only [handleRest, List.foldl_map]
      rfl

/-- 05 R97: whatever the order, a step's crossings are taken by acts that take each of its handlings once. -/
theorem runOrder_acts (c : StepInfo) (taken : CausesTaken) (order : List Nat) (rest : List Handling) (s : State) :
    ∃ l, StepActs taken order rest l ∧ runOrder c taken order rest s = l.foldl (StepAct.apply c) s := by
  induction order generalizing rest s with
  | nil => exact handleRest_acts c taken [] rest s
  | cons k ks ih =>
    cases k with
    | zero =>
      obtain ⟨l, hl, he⟩ := ih rest (takeAt s 0)
      exact ⟨.take :: l, ⟨hl.handlings, by simp, by simpa using hl.drain⟩, he⟩
    | succ k =>
      have hzero : ∀ l : List StepAct, (StepAct.take ∈ l → 0 ∈ ks) → StepAct.take ∈ l → 0 ∈ (k + 1) :: ks := fun l h hm =>
        List.mem_cons_of_mem _ (h hm)
      unfold runOrder
      split
      · obtain ⟨l, hl, he⟩ := ih rest s
        exact ⟨l, ⟨hl.handlings, hzero l hl.take, hl.drain⟩, he⟩
      · rename_i h hk
        have hmem : h ∈ rest := List.mem_of_getElem? hk
        split
        · rename_i hafter
          simp only [Bool.and_eq_true, List.contains_iff_mem] at hafter
          obtain ⟨hlate, hboundary⟩ := hafter
          have hne : h ≠ .boundary := by
            rintro rfl
            simp [Handling.afterBoundary] at hlate
          obtain ⟨l, hl, he⟩ := ih ((rest.erase .boundary).erase h) (handle c (handle c s .boundary) h)
          refine ⟨.handling .boundary :: .handling h :: l, ⟨?_, by simpa using fun hm => hl.take hm,
            by simpa using hl.drain⟩, he⟩
          have hlast := List.perm_cons_erase ((List.mem_erase_of_ne hne).mpr hmem)
          exact (((hl.handlings.cons h).trans hlast.symm).cons _).trans (List.perm_cons_erase hboundary).symm
        · obtain ⟨l, hl, he⟩ := ih (rest.erase h) (handle c s h)
          refine ⟨.handling h :: l, ⟨?_, by simpa using fun hm => hl.take hm, by simpa using hl.drain⟩, he⟩
          exact (hl.handlings.cons h).trans (List.perm_cons_erase hmem).symm

/-- What every act of a step keeps is kept to its end. -/
theorem acts_preserve {P : State → Prop} {c : StepInfo} {l : List StepAct}
    (hP : ∀ s, ∀ a ∈ l, P s → P (StepAct.apply c s a)) {s : State} (hs : P s) : P (l.foldl (StepAct.apply c) s) :=
  List.foldlRecOn _ _ hs fun u hu a ha => hP u a ha hu

/-- What a handling brings about from any state the acts before it can lead to, and no act undoes, holds at the end. -/
theorem acts_reach {P W : State → Prop} {c : StepInfo} {h : Handling} {l : List StepAct} (hm : .handling h ∈ l)
    (hW : ∀ s, ∀ a ∈ l, W s → W (StepAct.apply c s a)) (hh : ∀ s, W s → P (handle c s h))
    (hP : ∀ s, ∀ a ∈ l, P s → P (StepAct.apply c s a)) {s : State} (hs : W s) : P (l.foldl (StepAct.apply c) s) := by
  obtain ⟨before, after, rfl⟩ := List.append_of_mem hm
  rw [List.foldl_append, List.foldl_cons]
  have hbefore : W (before.foldl (StepAct.apply c) s) := acts_preserve (fun u a ha => hW u a (by simp [ha])) hs
  exact acts_preserve (fun u a ha => hP u a (by simp [ha])) (hh _ hbefore)

end Sys2Proof.Machine

/-! ## The preparation target and the required pick stay in force -/

namespace Sys2Proof.Machine

/-! ### What the two are evaluated from -/

/-- From `s` to `t` neither the preparation target and the required pick change, nor anything they are evaluated from
(03 R54, 04 R76). -/
structure SameShedInputs (s t : State) : Prop where
  target : t.shb.target = s.shb.target
  required : t.hci.required = s.hci.required
  tag : t.hci.tag = s.hci.tag
  run : t.run.state = s.run.state
  machine : t.tbm.machine = s.tbm.machine
  homing : t.stk.homing = s.stk.homing
  position : t.stk.position = s.stk.position
  direction : t.stk.direction = s.stk.direction
  current : t.currentOrdinal = s.currentOrdinal
  next : t.nextOrdinal = s.nextOrdinal

theorem Psq.OutcomeOnly.ordinals {s t : State} (h : s.psq.OutcomeOnly t.psq) :
    t.currentOrdinal = s.currentOrdinal ∧ t.nextOrdinal = s.nextOrdinal := by
  obtain ⟨f, hf, hq⟩ := h
  have hcomp : PickRecord.ordinal ∘ f = PickRecord.ordinal := funext hf
  simp [State.currentOrdinal, State.nextOrdinal, hq, hcomp]

namespace SameShedInputs

/-- The shed and the tracker stay, and the run but for the outcome of CURRENT. -/
theorem of_outcome {s t : State} (hk : ShedKept s t) (hs : t.stk = s.stk) (hr : t.run.state = s.run.state)
    (ho : s.psq.OutcomeOnly t.psq) : SameShedInputs s t where
  target := by rw [hk.shb]
  required := by rw [hk.hci]
  tag := by rw [hk.hci]
  run := hr
  machine := by rw [hk.tbm]
  homing := by rw [hs]
  position := by rw [hs]
  direction := by rw [hs]
  current := ho.ordinals.1
  next := ho.ordinals.2

theorem of_kept {s t : State} (hk : ShedKept s t) (hp : SamePick s t) : SameShedInputs s t :=
  of_outcome hk hp.stk hp.run (.of_eq hp.psq)

theorem of_link {s t : State} (h : LinkOnly s t) : SameShedInputs s t := by
  obtain ⟨_, rfl⟩ := h
  constructor <;> rfl

theorem newTarget {s t : State} (h : SameShedInputs s t) : t.newTarget = s.newTarget := by
  unfold State.newTarget State.slotAhead State.tagNames
  rw [h.run, h.required, h.tag, h.direction, h.current, h.next]

theorem newRequired {s t : State} (h : SameShedInputs s t) : t.newRequired = s.newRequired := by
  unfold State.newRequired State.angle State.countAngle
  rw [h.run, h.machine, h.homing, h.position, h.current, h.next]

end SameShedInputs

/-! ### An operation follows what it changes -/

/-- The preparation target is in force in `t`, or stands with what it is to be as in `s`. -/
def TargetFollows (s t : State) : Prop :=
  t.targetInForce = true ∨ t.shb.target = s.shb.target ∧ t.newTarget = s.newTarget

/-- The required pick is in force in `t`, or stands with what it is to be, and the run state, as in `s`. -/
def RequiredFollows (s t : State) : Prop :=
  t.requiredInForce = true ∨
    t.hci.required = s.hci.required ∧ t.newRequired = s.newRequired ∧ t.run.state = s.run.state

/-- From `s` to `t` the preparation target and the required pick follow what they are evaluated from. -/
structure ShedFollows (s t : State) : Prop where
  target : TargetFollows s t
  required : RequiredFollows s t

theorem TargetFollows.inForce {s t : State} (h : TargetFollows s t) (hs : s.targetInForce = true) :
    t.targetInForce = true := by
  obtain h | ⟨ht, hn⟩ := h
  · exact h
  · unfold State.targetInForce at *
    rwa [ht, hn]

theorem RequiredFollows.inForce {s t : State} (h : RequiredFollows s t) (hs : s.requiredInForce = true) :
    t.requiredInForce = true := by
  obtain h | ⟨hr, hn, _⟩ := h
  · exact h
  · unfold State.requiredInForce at *
    rwa [hr, hn]

theorem requiredInForce_iff (s : State) : s.requiredInForce = true ↔ s.hci.required = s.newRequired :=
  decide_eq_true_iff

/-- 04 R76: outside STOPPED no pick is required, and none comes to be. -/
theorem RequiredFollows.none_running {s t : State} (h : RequiredFollows s t)
    (hs : s.run.state ≠ .stopped → s.hci.required = none) (ht : t.run.state ≠ .stopped) : t.hci.required = none := by
  obtain h | ⟨hr, _, hrun⟩ := h
  · rw [(requiredInForce_iff t).mp h, newRequired_running t ht]
  · rw [hr]
    exact hs (hrun ▸ ht)

namespace ShedFollows

theorem of_same {s t : State} (h : SameShedInputs s t) : ShedFollows s t :=
  ⟨.inr ⟨h.target, h.newTarget⟩, .inr ⟨h.required, h.newRequired, h.run⟩⟩

theorem refl (s : State) : ShedFollows s s := of_same (by constructor <;> rfl)

theorem trans {s t u : State} (h1 : ShedFollows s t) (h2 : ShedFollows t u) : ShedFollows s u where
  target := by
    obtain h | ⟨ht, hn⟩ := h2.target
    · exact .inl h
    · exact h1.target.imp (fun h => h2.target.inForce h) fun h => ⟨ht.trans h.1, hn.trans h.2⟩
  required := by
    obtain h | ⟨hr, hn, hrun⟩ := h2.required
    · exact .inl h
    · exact h1.required.imp (fun h => h2.required.inForce h) fun h =>
        ⟨hr.trans h.1, hn.trans h.2.1, hrun.trans h.2.2⟩

theorem linked {s t u : State} (h : ShedFollows s t) (hl : LinkOnly t u) : ShedFollows s u :=
  h.trans (of_same (.of_link hl))

theorem foldl {β : Type} {f : State → β → State} (h : ∀ s x, ShedFollows s (f s x)) (l : List β) (s : State) :
    ShedFollows s (l.foldl f s) :=
  List.foldlRecOn l f (motive := ShedFollows s) (refl s) fun u hu x _ => hu.trans (h u x)

end ShedFollows

theorem shedFollows_loomOnly (s : State) : LoomOnly (ShedFollows s) := by
  intro u t htbm hpsq hshb hhci hstk _ _ _ hrun h
  exact h.trans (.of_same (.of_outcome ⟨htbm, hshb, hhci⟩ hstk hrun (.of_eq hpsq)))

/-! ### The evaluations -/

theorem evalTarget_newRequired (s : State) : (evalTarget s).newRequired = s.newRequired := by
  apply newRequired_congr <;> simp

/-- 03 R55: the evaluation of the target puts it in force, and leaves the required pick. -/
theorem evalTarget_follows {s u : State} (h : RequiredFollows s u) : ShedFollows s (evalTarget u) where
  target := .inl (evalTarget_inForce u)
  required := by
    have hsame : (evalTarget u).hci.required = u.hci.required ∧ (evalTarget u).newRequired = u.newRequired ∧
        (evalTarget u).run.state = u.run.state := ⟨by simp, evalTarget_newRequired u, by simp⟩
    refine h.imp (fun hf => ?_) fun hk => ⟨hsame.1.trans hk.1, hsame.2.1.trans hk.2.1, hsame.2.2.trans hk.2.2⟩
    exact RequiredFollows.inForce (.inr hsame) hf

theorem settle_newRequired (s : State) : (settle s).newRequired = s.newRequired := by
  apply newRequired_congr <;> simp

/-- 04 R76, 03 R55: settling puts both in force, whatever was before. -/
theorem settle_follows (s u : State) : ShedFollows s (settle u) where
  target := .inl (settle_inForce u)
  required := .inl ((requiredInForce_iff _).mpr ((settle_required u).trans (settle_newRequired u).symm))

theorem changeState_follows (st : RunState) (s u : State) : ShedFollows s (changeState st u) :=
  (settle_follows s (enterState st u)).linked (post_linkOnly _ _)

theorem laterCause_follows (c : Cause) (s : State) : ShedFollows s (laterCause c s) :=
  .of_same (.of_outcome ⟨by simp, by simp, by simp⟩ (by simp) (by simp) (.of_eq (by simp)))

/-- RUN's taking of a cause changes the run state and settles, or changes nothing the shed asks. -/
theorem takeCause_follows (s : State) (c : Cause) : ShedFollows s (takeCause s c) := by
  cases c with
  | stop c =>
    simp only [takeCause, takeStop]
    split
    · split <;> exact changeState_follows _ s _
    · exact laterCause_follows _ s
  | halt c =>
    simp only [takeCause, takeHalt]
    split
    · exact changeState_follows _ s _
    · exact changeState_follows _ s _
    · exact changeState_follows _ s _
    · exact laterCause_follows _ s
    · exact laterCause_follows _ s

theorem takeCauses_follows (taken : CausesTaken) (s : State) : ShedFollows s (takeCauses taken s) :=
  (shedFollows_loomOnly s).takeCauses (fun u c hu => hu.trans (takeCause_follows u c)) taken (.refl s)

/-! ### The handlings of a step -/

theorem HandedOn.state {s t : State} (h : HandedOn s t) : t.run.state = s.run.state := by rw [h.run]

/-- 04 R71, 03 R55: a latch sets the tag, and the target is evaluated on it. -/
theorem latchRequest_follows (dir : Direction) (s : State) : ShedFollows s (latchRequest dir s) := by
  have hpost : ∀ e, ShedFollows s (post e s) := fun e => (ShedFollows.refl s).linked (post_linkOnly e s)
  have hhand : ∀ (c : Cause) (u : State), ShedFollows u (hand c u) := fun c u =>
    .of_same (by constructor <;> rfl)
  simp only [latchRequest]
  repeat' split
  · exact (hpost _).trans (hhand _ _)
  · exact hpost _
  · exact evalTarget_follows (.inr ⟨rfl, rfl, rfl⟩)
  · exact (hpost _).trans (hhand _ _)
  · exact hpost _

theorem requestLatch_follows (crosses : Nat → Bool) (dir : Direction) (s : State) :
    ShedFollows s (requestLatch crosses dir s) := by
  unfold requestLatch
  repeat' split
  · exact .refl s
  · exact latchRequest_follows dir s
  · exact .refl s

theorem keepShed_follows (c : StepInfo) (s : State) : ShedFollows s (keepShed c s) := by
  unfold keepShed
  repeat' split
  · exact .refl s
  · exact settle_follows s s
  · exact .refl s

/-- 01 R15: a promotion is settled; a dwell and a crossing with D above 0 leave the slots. -/
theorem forwardBoundary_follows (s : State) : ShedFollows s (forwardBoundary s) := by
  unfold forwardBoundary
  repeat' split
  · refine .of_same ?_
    constructor <;> simp [State.currentOrdinal, State.nextOrdinal]
  · exact settle_follows s _
  · refine .of_same ?_
    constructor <;> simp [State.currentOrdinal, State.nextOrdinal]

/-- 01 R18, R19: a run unwound is settled; one that falls behind keeps its slots. -/
theorem backwardBoundary_follows (s : State) : ShedFollows s (backwardBoundary s) := by
  cases h : s.psq.history.getLast? with
  | some newest =>
    rw [backwardBoundary_unwinds h]
    exact settle_follows s _
  | none =>
    have hdisarmed : ShedFollows s (disarmedAt s) :=
      .of_same (.of_outcome ⟨by simp [disarmedAt], by simp [disarmedAt], by simp [disarmedAt]⟩
        (by simp [disarmedAt]) (by simp [disarmedAt]) ⟨PickRecord.disarmed, disarmed_ordinal, disarmedAt_psq s⟩)
    have hraised : ShedFollows (disarmedAt s) (depthRaised (disarmedAt s)) := .of_same (by constructor <;> rfl)
    rw [backwardBoundary_fallsBehind (List.getLast?_eq_none_iff.mp h)]
    exact (hdisarmed.trans hraised).linked (post_linkOnly _ _)

theorem handle_follows (c : StepInfo) (s : State) (h : Handling) : ShedFollows s (handle c s h) := by
  have hframe := handle_frame c s h
  have hrun := (handle_handedOn c s h).state
  cases h with
  | direction => exact evalTarget_follows (.inr ⟨rfl, rfl, rfl⟩)
  | boundary =>
    simp only [handle]
    split
    · exact forwardBoundary_follows s
    · exact backwardBoundary_follows s
  | keep => exact keepShed_follows c s
  | latch => exact requestLatch_follows _ _ s
  | _ =>
    exact .of_same (.of_outcome ⟨hframe.2.2.1, by simp [handle], by simp [handle]⟩ hframe.2.2.2 hrun
      (handle_outcome c s _ (by simp)))

theorem act_follows (c : StepInfo) (s : State) (a : StepAct) : ShedFollows s (StepAct.apply c s a) := by
  cases a with
  | handling h => exact handle_follows c s h
  | take => exact takeCauses_follows (.only [0]) s
  | drain => exact takeCauses_follows .every s

end Sys2Proof.Machine

namespace Sys2Proof.Machine

/-! ### The step of the shaft -/

/-- The state in which a step is counted, before its crossings are taken (05 R88). -/
def counted (m : MachineRecord) (dir : Direction) (s : State) : State :=
  { s with stk := s.stk.step m s.run.state dir }

/-- 05 R88, R97: a step is counted, and its crossings are taken by acts that take each of its handlings once. -/
theorem takeStep_acts (m : MachineRecord) (dir : Direction) (order : List Nat) (taken : CausesTaken) (s : State) :
    ∃ l, StepActs taken order (stepHandlings m s.run.state dir s.stk) l ∧
      takeStep m dir order taken s =
        l.foldl (StepAct.apply (stepInfo m.counts s.stk.position dir)) (counted m dir s) :=
  runOrder_acts _ _ _ _ _

/-- What the timers and the counts of a step leave of the tracker (05 R88, R99). -/
@[simp] theorem Stk.timeStep_frame (k : Stk) (dir : Direction) (boundary : Bool) :
    (k.timeStep dir boundary).encA = k.encA ∧ (k.timeStep dir boundary).encB = k.encB ∧
    (k.timeStep dir boundary).encZ = k.encZ ∧ (k.timeStep dir boundary).homing = k.homing ∧
    (k.timeStep dir boundary).lastDeviation = k.lastDeviation ∧
    (k.timeStep dir boundary).largestDeviation = k.largestDeviation ∧
    (k.timeStep dir boundary).illegalCount = k.illegalCount := by
  unfold Stk.timeStep
  cases dir with
  | backward => exact ⟨rfl, rfl, rfl, rfl, rfl, rfl, rfl⟩
  | forward =>
    repeat' split
    all_goals exact ⟨rfl, rfl, rfl, rfl, rfl, rfl, rfl⟩

/-- A step that turns the shaft the other way evaluates the target; any other leaves it in force. -/
theorem takeStep_target (m : MachineRecord) (dir : Direction) (order : List Nat) (taken : CausesTaken) {s : State}
    (h : s.targetInForce = true) : (takeStep m dir order taken s).targetInForce = true := by
  obtain ⟨l, hl, he⟩ := takeStep_acts m dir order taken s
  have hkeeps : ∀ u, ∀ a ∈ l, u.targetInForce = true →
      (StepAct.apply (stepInfo m.counts s.stk.position dir) u a).targetInForce = true :=
    fun u a _ hu => (act_follows _ u a).target.inForce hu
  rw [he]
  by_cases hdir : s.stk.direction = dir
  · have hsame : TargetFollows s (counted m dir s) :=
      .inr ⟨rfl, newTarget_congr rfl rfl rfl hdir.symm rfl⟩
    exact acts_preserve (P := fun u => u.targetInForce = true) hkeeps (hsame.inForce h)
  · have hmem : .handling .direction ∈ l := (hl.mem_handling _).mpr (by simp [stepHandlings, hdir])
    exact acts_reach (P := fun u => u.targetInForce = true) (W := fun _ => True) hmem (fun _ _ _ _ => trivial)
      (fun u _ => evalTarget_inForce u) hkeeps trivial

/-- 04 R76: the required pick on the scale of a machine record. -/
theorem newRequired_on {m : MachineRecord} {s : State} (hm : s.tbm.machine = some m) :
    s.newRequired =
      if s.run.state = .stopped ∧ s.stk.homing = .homed then
        if angleOf m.counts s.stk.position < m.latchAngle then s.currentOrdinal else s.nextOrdinal
      else none := by
  simp only [State.newRequired, State.angle, State.countAngle, hm]
  by_cases hst : s.run.state = .stopped <;> by_cases hh : s.stk.homing = .homed <;> simp [hst, hh]

theorem angleOf_mono (n : Nat) {p q : Nat} (h : p ≤ q) : angleOf n p ≤ angleOf n q :=
  Nat.div_le_div_right (Nat.mul_le_mul_right 3600 h)

/-- 05 R97: a step that crosses neither angle 0 nor an angle stays on its side of that angle. -/
theorem side_of_uncrossed {n p angle : Nat} {dir : Direction} (h0 : (stepInfo n p dir).crosses 0 = false)
    (ha : (stepInfo n p dir).crosses angle = false) :
    angleOf n (nextPosition n p dir) < angle ↔ angleOf n p < angle := by
  have hwrap : (stepInfo n p dir).wrap = false := by
    cases hw : (stepInfo n p dir).wrap with
    | false => rfl
    | true => simp [StepInfo.crosses, hw] at h0
  have hbetween : ¬((stepInfo n p dir).below < angle ∧ angle ≤ (stepInfo n p dir).above) := by
    simpa [StepInfo.crosses, hwrap] using ha
  cases dir with
  | forward =>
    have hnext : nextPosition n p .forward = p + 1 := by
      have hlt : p + 1 < n := by simpa [stepInfo, nextPosition] using hwrap
      simp [nextPosition, hlt]
    have hmono := angleOf_mono n (Nat.le_add_right p 1)
    simp only [stepInfo, hnext] at hbetween ⊢
    omega
  | backward =>
    have hnext : nextPosition n p .backward = p - 1 := by
      have hpos : p ≠ 0 := by simpa [stepInfo] using hwrap
      simp [nextPosition, hpos]
    have hmono := angleOf_mono n (Nat.sub_le p 1)
    simp only [stepInfo, hnext] at hbetween ⊢
    omega

/-- The step crosses angle 0 or L while HOMED, so that in STOPPED the HCI takes the crossing (04 R76). -/
def keepDue (m : MachineRecord) (dir : Direction) (k : Stk) : Prop :=
  k.homing = .homed ∧
    ((stepInfo m.counts k.position dir).crosses 0 = true ∨ (stepInfo m.counts k.position dir).crosses m.latchAngle = true)

/-- 04 R76: where no such crossing is due, the required pick stays what it was. -/
theorem counted_newRequired {m : MachineRecord} {dir : Direction} {s : State} (hm : s.tbm.machine = some m)
    (h : ¬keepDue m dir s.stk) : (counted m dir s).newRequired = s.newRequired := by
  rw [newRequired_on hm, newRequired_on (s := counted m dir s) hm]
  have hhoming : (counted m dir s).stk.homing = s.stk.homing := by simp [counted, Stk.step]
  rw [hhoming]
  refine if_ctx_congr Iff.rfl (fun hon => ?_) fun _ => rfl
  have hno : ¬((stepInfo m.counts s.stk.position dir).crosses 0 = true ∨
      (stepInfo m.counts s.stk.position dir).crosses m.latchAngle = true) := fun hc => h ⟨hon.2, hc⟩
  rw [not_or, Bool.not_eq_true, Bool.not_eq_true] at hno
  exact if_ctx_congr (side_of_uncrossed hno.1 hno.2) (fun _ => rfl) fun _ => rfl

theorem keep_mem_stepHandlings {m : MachineRecord} {run : RunState} {dir : Direction} {k : Stk}
    (h : k.homing = .homed) : .keep ∈ stepHandlings m run dir k := by
  simp only [stepHandlings, h, crossingHandlings]
  cases dir <;> simp [stepInfo]

/-- 04 R76: the handling of a crossing of angle 0 or L puts the required pick in force, in STOPPED by evaluating it. -/
theorem keep_requiredInForce {m : MachineRecord} {c : StepInfo} {u : State} (hm : u.tbm.machine = some m)
    (hcross : c.crosses 0 = true ∨ c.crosses m.latchAngle = true)
    (hrun : u.run.state ≠ .stopped → u.hci.required = none) : (handle c u .keep).requiredInForce = true := by
  simp only [handle, keepShed, hm]
  split
  · exact (requiredInForce_iff _).mpr ((settle_required u).trans (settle_newRequired u).symm)
  · rename_i hno
    have hst : u.run.state ≠ .stopped := fun hst => hno ⟨hst, hcross⟩
    exact (requiredInForce_iff u).mpr ((hrun hst).trans (newRequired_running u hst).symm)

/-- A HOMED step that crosses angle 0 or L evaluates the required pick; any other leaves it in force. -/
theorem takeStep_required {m : MachineRecord} (dir : Direction) (order : List Nat) (taken : CausesTaken) {s : State}
    (hm : s.tbm.machine = some m) (h : s.requiredInForce = true) :
    (takeStep m dir order taken s).requiredInForce = true := by
  obtain ⟨l, hl, he⟩ := takeStep_acts m dir order taken s
  have hkeeps : ∀ u, ∀ a ∈ l, u.requiredInForce = true →
      (StepAct.apply (stepInfo m.counts s.stk.position dir) u a).requiredInForce = true :=
    fun u a _ hu => (act_follows _ u a).required.inForce hu
  rw [he]
  by_cases hdue : keepDue m dir s.stk
  · have hrequired := (requiredInForce_iff s).mp h
    refine acts_reach (P := fun u => u.requiredInForce = true)
      (W := fun u => u.tbm.machine = some m ∧ (u.run.state ≠ .stopped → u.hci.required = none))
      ((hl.mem_handling _).mpr (keep_mem_stepHandlings hdue.1))
      (fun u a _ hu => ⟨?_, (act_follows _ u a).required.none_running hu.2⟩)
      (fun u hu => keep_requiredInForce hu.1 hdue.2 hu.2) hkeeps
      ⟨hm, fun hrun => hrequired.trans (newRequired_running s hrun)⟩
    cases a <;> simp [StepAct.apply, hu.1]
  · have hsame : RequiredFollows s (counted m dir s) := .inr ⟨rfl, counted_newRequired hm hdue, rfl⟩
    exact acts_preserve (P := fun u => u.requiredInForce = true) hkeeps (hsame.inForce h)

/-- 05 R88: a change of a quadrature line leaves both in force. -/
theorem lineChange_inForce (line : EncLine) (elapsed : Nat) (order : List Nat) (taken : CausesTaken) (s : State) :
    (s.targetInForce = true → (lineChange line elapsed order taken s).targetInForce = true) ∧
      (s.requiredInForce = true → (lineChange line elapsed order taken s).requiredInForce = true) := by
  have hmoved : ∀ l, ShedFollows s (lineChanged line elapsed l s) := fun l =>
    .of_same (by constructor <;> cases line <;> rfl)
  obtain he | ⟨m, l, hm, he | ⟨dir, he⟩⟩ := lineChange_cases line elapsed order taken s
  · rw [he]
    exact ⟨id, id⟩
  · rw [he]
    exact ⟨(hmoved l).target.inForce, (hmoved l).required.inForce⟩
  · rw [he]
    exact ⟨fun h => takeStep_target m dir order taken ((hmoved l).target.inForce h),
      fun h => takeStep_required dir order taken (s := lineChanged line elapsed l s) hm
        ((hmoved l).required.inForce h)⟩

end Sys2Proof.Machine

namespace Sys2Proof.Machine

/-! ### The chains and the expansion -/

theorem completeExpansion_follows (s : State) : ShedFollows s (completeExpansion s) := by
  have hheld : ∀ (o : Ordinal) (i : BufferIdx) (b : Buffer), SameShedInputs s (handOver o (setBuffer i b s)) :=
    fun o i b => by constructor <;> simp [State.currentOrdinal, State.nextOrdinal, setBuffer_target]
  unfold completeExpansion
  repeat' split
  · exact .of_same (hheld _ _ _)
  · exact .of_same (hheld _ _ _)
  · exact .refl s

/-- Items driven on the lines are no matter of the rest. -/
theorem emits_follows (l : List LineItem) (s : State) : ShedFollows s (l.foldl (fun t x => emit x t) s) :=
  .foldl (fun u x => .of_same (by constructor <;> rfl)) l s

theorem setChain_follows (k : ChainIdx) (c : Chain) (s : State) : ShedFollows s (setChain k c s) :=
  .of_same (by constructor <;> rfl)

theorem sendCheckCall_follows (k : ChainIdx) (s : State) : ShedFollows s (sendCheckCall k s) := by
  simp only [sendCheckCall]
  split
  · exact ((setChain_follows k _ s).trans (emits_follows _ _)).trans (.of_same (by constructor <;> rfl))
  · exact .refl s
  · exact .refl s
  · exact .refl s

theorem collectAnswer_follows (k : ChainIdx) (x : AnswerChar) (s : State) : ShedFollows s (collectAnswer k x s) := by
  simp only [collectAnswer]
  split
  · exact setChain_follows k _ s
  · exact .refl s
  · exact .refl s
  · exact .refl s

/-- 04 R77: a latch that is due sets the tag alone. -/
theorem latchIfDue_required_follows (s : State) : RequiredFollows s (latchIfDue s) :=
  .inr ⟨latchIfDue_required s, by apply newRequired_congr <;> simp, by simp⟩

/-- 04 R66, R77, 03 R55: the end of checking tests the latch and evaluates the target. -/
theorem closeChecking_follows (k : ChainIdx) (s : State) : ShedFollows s (closeChecking k s) := by
  simp only [closeChecking]
  split
  · have hfault : ∀ u, ShedFollows u (applyChainFault k u) := fun u =>
      .of_same (.of_kept (applyChainFault_shedKept k u) (applyChainFault_samePick k u))
    have halarm : ∀ u x, ShedFollows u (postAlarm k u x) := fun u x =>
      (ShedFollows.refl u).linked (postAlarm_linkOnly k u x)
    refine ShedFollows.trans (ShedFollows.trans ?_ (hfault _)) (evalTarget_follows (latchIfDue_required_follows _))
    exact ((setChain_follows k _ s).linked (postChainError_linkOnly k _ _ _ _)).trans (.foldl halarm _ _)
  · exact .refl s
  · exact .refl s
  · exact .refl s

theorem clearSticky_follows (s : State) : ShedFollows s (clearSticky s) := .of_same (by constructor <;> rfl)

/-! ### The sensors and the channels -/

theorem feederBroken_handedOn (f : FeederIdx) (s : State) : HandedOn s (feederBroken f s) := by
  unfold feederBroken
  split
  · exact watchedBreak_handedOn f s
  · exact post_handedOn _ s

theorem blockReport_handedOn (cs : List DriverIdx) (s : State) : HandedOn s (blockReport cs s) := by
  simp only [blockReport]
  repeat' split
  · exact .refl s
  · exact weftFault_handedOn _ _ s
  · exact .refl s

theorem driverFault_handedOn (dc : DriverIdx) (k : DriverFaultKind) (s : State) :
    HandedOn s (driverFault dc k s) := by
  have hset : ∀ (c : DriverChannel) (u : State), HandedOn u (setChannel dc c u) := fun c u =>
    .of_same rfl rfl rfl rfl rfl rfl rfl
  have hblock : ∀ (d : DriverSettings) (b : BlockKind), HandedOn s (blockingFault dc k d b s) := by
    intro d b
    simp only [blockingFault, postDriverFault]
    refine HandedOn.trans ?_ (post_handedOn _ _)
    apply HandedOn.of_same <;> simp
  simp only [driverFault]
  repeat' split
  · exact .refl s
  · exact (hblock _ _).trans (hand_handedOn _ _)
  · exact (hblock _ _).trans (blockReport_handedOn _ _)
  · exact .refl s
  · exact (hset _ s).trans (post_handedOn _ _)
  · exact .refl s

theorem acquireSensor_state (x : Sensor) (l : Level) (s : State) : (acquireSensor x l s).run.state = s.run.state := by
  unfold acquireSensor
  repeat' split
  · rfl
  · rfl
  · exact (feederBroken_handedOn _ (setFeeder _ _ s)).state
  · rfl
  · rfl
  · rfl

theorem arvRises_state (s : State) : (arvRises s).run.state = s.run.state := by
  unfold arvRises takeRise
  repeat' split
  all_goals rfl

theorem feederBreaks_state (f : FeederIdx) (s : State) : (feederBreaks f s).run.state = s.run.state := by
  unfold feederBreaks
  split
  · exact (feederBroken_handedOn f (setFeeder f .high s)).state
  · rfl

theorem peakLimitEnds_state (dc : DriverIdx) (s : State) : (peakLimitEnds dc s).run.state = s.run.state := by
  simp only [peakLimitEnds]
  split
  · exact (driverFault_handedOn dc .openLoad (setChannel dc _ s)).state
  · rfl

theorem deglitchEnds_state (dc : DriverIdx) (s : State) : (deglitchEnds dc s).run.state = s.run.state := by
  simp only [deglitchEnds]
  split
  · exact (driverFault_handedOn dc .overcurrent (setChannel dc _ s)).state
  · rfl

/-! ### The tracker -/

theorem acquireLevel_follows (input : EncInput) (l : Level) (s : State) : ShedFollows s (acquireLevel input l s) := by
  unfold acquireLevel
  split
  · exact .of_same (by cases input <;> constructor <;> rfl)
  · exact .refl s

theorem illegalChange_follows (s : State) : ShedFollows s (illegalChange s) := by
  unfold illegalChange
  split
  · exact .of_same (by constructor <;> simp [State.currentOrdinal, State.nextOrdinal])
  · exact .refl s

theorem indexRise_follows (s : State) : ShedFollows s (indexRise s) := by
  have hpost : ∀ (e : Event) (c : Cause) (u : State), ShedFollows u (hand c (post e u)) := fun e c u =>
    ((ShedFollows.refl u).linked (post_linkOnly e u)).trans (.of_same (by constructor <;> rfl))
  unfold indexRise takeIndex
  dsimp only
  repeat' split
  · exact .of_same (by constructor <;> rfl)
  · exact settle_follows s _
  · exact .of_same (by constructor <;> rfl)
  · exact (settle_follows s _).trans (hpost _ _ _)
  · exact .refl s

theorem indexFall_follows (s : State) : ShedFollows s (indexFall s) := by
  unfold indexFall
  split
  · exact .of_same (by constructor <;> rfl)
  · exact .refl s

theorem declareStandstill_follows (s : State) : ShedFollows s (declareStandstill s) := by
  simp only [declareStandstill]
  repeat' split
  · exact changeState_follows _ s _
  · exact .of_same (by constructor <;> rfl)
  · exact .refl s

/-! ### The frames taken -/

theorem takePick_follows (p : List Byte) (s : State) : ShedFollows s (takePick p s) := by
  have hrefuse : ∀ cause, ShedFollows s (refusePick cause p s) := fun _ =>
    (ShedFollows.refl s).linked (post_linkOnly _ s)
  have haccept : ∀ r, ShedFollows s (acceptPick r s) := by
    intro r
    simp only [acceptPick]
    split
    · exact settle_follows s _
    · exact .of_same (by constructor <;> simp [State.currentOrdinal, State.nextOrdinal, readyIfReached_psq])
  unfold takePick
  repeat' split
  · exact hrefuse _
  · exact hrefuse _
  · exact hrefuse _
  · exact hrefuse _
  · exact haccept _
  · exact hrefuse _

theorem answered_follows (code : Nat) (r : Result) (data : List Byte) (s : State) :
    ShedFollows s (answerCommand code r data s) :=
  (ShedFollows.refl s).linked (answerCommand_linkOnly code r data s)

theorem takeArm_follows (p : List Byte) (s : State) : ShedFollows s (takeArm p s) := by
  unfold takeArm
  repeat' split
  · exact answered_follows _ _ _ s
  · exact (changeState_follows .stopped s s).linked (answerCommand_linkOnly _ _ _ _)
  · exact answered_follows _ _ _ s

theorem takeDisarm_follows (p : List Byte) (s : State) : ShedFollows s (takeDisarm p s) := by
  unfold takeDisarm
  split
  · exact (changeState_follows .offline s s).linked (answerCommand_linkOnly _ _ _ _)
  · exact answered_follows _ _ _ s

theorem startSnapshot_handedOn (s : State) : HandedOn s (startSnapshot s) := by
  simp only [startSnapshot]
  repeat' split
  · exact makeSnapshot_handedOn _ _ s
  · exact (makeSnapshot_handedOn _ _ s).trans (armCurrent_handedOn _ _)
  · exact makeSnapshot_handedOn _ _ s

theorem startWeaving_follows (s : State) : ShedFollows s (startWeaving s) := by
  have hsnapshot : ∀ u, SameShedInputs u (startSnapshot u) := fun u =>
    .of_outcome ⟨by simp, by simp, by simp⟩ (by simp) (startSnapshot_handedOn u).state (startSnapshot_outcome u)
  exact (changeState_follows .weaving s (clearCauses s)).trans (.of_same (hsnapshot _))

theorem takeStart_follows (taken : CausesTaken) (p : List Byte) (s : State) : ShedFollows s (takeStart taken p s) := by
  have hhanded : ∀ (u : State) (l : List Cause), ShedFollows u { u with run := { u.run with handed := l } } :=
    fun u l => .of_same (by constructor <;> rfl)
  have hown : ShedFollows s (takingOwn startWeaving s) :=
    (((hhanded s []).trans (startWeaving_follows _)).trans (takeCauses_follows .every _)).trans (hhanded _ _)
  unfold takeStart
  repeat' split
  · exact answered_follows _ _ _ s
  · exact answered_follows _ _ _ s
  · exact answered_follows _ _ _ s
  · exact answered_follows _ _ _ s
  · exact (hown.trans (takeCauses_follows taken _)).linked (answerCommand_linkOnly _ _ _ _)

theorem takeStopCommand_follows (taken : CausesTaken) (p : List Byte) (s : State) :
    ShedFollows s (takeStopCommand taken p s) := by
  unfold takeStopCommand
  split
  · exact ((takeCause_follows s (.stop .stopCommand)).trans (takeCauses_follows taken _)).linked
      (answerCommand_linkOnly _ _ _ _)
  · exact answered_follows _ _ _ s

theorem takeClear_follows (p : List Byte) (s : State) : ShedFollows s (takeClear p s) := by
  unfold takeClear
  repeat' split
  · exact answered_follows _ _ _ s
  · exact answered_follows _ _ _ s
  · exact answered_follows _ _ _ s
  · exact (changeState_follows .stopped s (releaseAll s)).linked (answerCommand_linkOnly _ _ _ _)

theorem takeFlush_follows (p : List Byte) (s : State) : ShedFollows s (takeFlush p s) := by
  unfold takeFlush
  split
  · exact (settle_follows s _).linked (answerCommand_linkOnly _ _ _ _)
  · exact answered_follows _ _ _ s

theorem takeHome_follows (p : List Byte) (s : State) : ShedFollows s (takeHome p s) := by
  unfold takeHome
  repeat' split
  · exact answered_follows _ _ _ s
  · exact (settle_follows s _).linked (answerCommand_linkOnly _ _ _ _)
  · exact answered_follows _ _ _ s

/-- 03 R62, 04 R85: after SOFT_RESET neither a target nor a required pick is there, and none is to be. -/
theorem takeSoftReset_follows (p : List Byte) (s : State) : ShedFollows s (takeSoftReset p s) := by
  have hreset : ShedFollows s (softResetBlocks s) := by
    refine ⟨.inl (decide_eq_true ?_), .inl ((requiredInForce_iff _).mpr ?_)⟩
    · simp [State.newTarget, Run.hardReset, Shb.hardReset]
    · rw [newRequired_running _ (by simp [Run.hardReset])]
      rfl
  exact (hreset.linked (answerCommand_linkOnly _ _ _ _)).linked (post_linkOnly _ _)

/-- 02 R35: an accepted pattern write settles. -/
theorem patternTable_follows (p : List Byte) (ok : Bool) (checks : List FieldCheck) (write : State → State)
    (s : State) : ShedFollows s (patternTable p ok checks write s) := by
  obtain ⟨r, x, he⟩ | ⟨_, _, x, he⟩ := patternTable_cases p ok checks write s
  · rw [he]
    exact (ShedFollows.refl s).linked (answerTable_linkOnly _ _ _ _)
  · rw [he]
    exact (settle_follows s _).linked (answerTable_linkOnly _ _ _ _)

theorem checkedWrite_follows (p : List Byte) (ok : Bool) (checks : List FieldCheck) {write : State → State} {s : State}
    (hw : ShedFollows s (write s)) : ShedFollows s (checkedWrite p ok checks write s) := by
  obtain ⟨r, x, he⟩ | ⟨_, x, he⟩ := checkedWrite_cases p ok checks write s
  · rw [he]
    exact (ShedFollows.refl s).linked (answerTable_linkOnly _ _ _ _)
  · rw [he]
    exact hw.linked (answerTable_linkOnly _ _ _ _)

theorem takeFrame_follows (row : FrameRow) {eff : List Byte → State → State} (he : ∀ p u, ShedFollows u (eff p u))
    (s : State) : ShedFollows s (takeFrame row eff s) :=
  (shedFollows_loomOnly s).takeFrame (fun p u hu => hu.trans (he p u)) row (.refl s)

/-! ### Every command -/

/-- The target and the required pick follow every command but a step of the shaft. -/
theorem commandEffect_follows (c : Instr) (h : ∀ line elapsed order taken, c ≠ .encoderStep line elapsed order taken)
    (s : State) : ShedFollows s (commandEffect c s) := by
  have hcauses := fun (taken : CausesTaken) {u : State} (hu : ShedFollows s u) => hu.trans (takeCauses_follows taken u)
  cases c with
  | hardReset => exact .refl s
  | resetRelease => exact .refl s
  | pickFrame => exact takeFrame_follows .pick takePick_follows s
  | tableMachine =>
    exact takeFrame_follows (.table .machine) (eff := takeTableMachine)
      (fun p u => patternTable_follows p _ _ _ u) s
  | tableSections =>
    exact takeFrame_follows (.table .sections) (eff := takeTableSections)
      (fun p u => patternTable_follows p _ _ _ u) s
  | tableEffects =>
    exact takeFrame_follows (.table .effects) (eff := takeTableEffects)
      (fun p u => patternTable_follows p _ _ _ u) s
  | tableWeaves =>
    exact takeFrame_follows (.table .weaves) (eff := takeTableWeaves)
      (fun p u => patternTable_follows p _ _ _ u) s
  | tableProfiles =>
    exact takeFrame_follows (.table .profiles) (eff := takeTableProfiles)
      (fun p u => checkedWrite_follows p _ _ (write := writeProfile _ _) (.of_same (by constructor <;> rfl))) s
  | tableWefts =>
    exact takeFrame_follows (.table .wefts) (eff := takeTableWefts)
      (fun p u => checkedWrite_follows p _ _ (write := writeWeft _ _) (.of_same (by constructor <;> rfl))) s
  | tableDrivers =>
    exact takeFrame_follows (.table .drivers) (eff := takeTableDrivers)
      (fun p u => checkedWrite_follows p _ _ (write := writeDriver _ _) (.of_same (by constructor <;> rfl))) s
  | arm => exact takeFrame_follows .arm takeArm_follows s
  | disarm => exact takeFrame_follows .disarm takeDisarm_follows s
  | start taken => exact takeFrame_follows .start (takeStart_follows taken) s
  | stop taken => exact takeFrame_follows .stop (takeStopCommand_follows taken) s
  | clear => exact takeFrame_follows .clear takeClear_follows s
  | flush => exact takeFrame_follows .flush takeFlush_follows s
  | home => exact takeFrame_follows .home takeHome_follows s
  | softReset => exact takeFrame_follows .softReset takeSoftReset_follows s
  | offstateTest =>
    exact takeFrame_follows .offstateTest
      (fun p u => .of_same (.of_kept (takeOffstateTest_shedKept p u) (takeOffstateTest_samePick p u))) s
  | clearModuleFlags =>
    exact takeFrame_follows .clearModuleFlags
      (fun _ u => (clearSticky_follows u).linked (answerCommand_linkOnly 11 .ok [] _)) s
  | encoderLevelAcquired input l => exact acquireLevel_follows input l s
  | encoderStep line elapsed order taken => exact absurd rfl (h line elapsed order taken)
  | illegalTransition taken => exact hcauses taken (illegalChange_follows s)
  | indexPulse taken => exact hcauses taken (indexRise_follows s)
  | standstill => exact declareStandstill_follows s
  | sensorLevelAcquired x l taken =>
    exact hcauses taken (.of_same (.of_outcome (acquireSensor_shedKept x l s) (acquireSensor_shaftKept x l s).stk
      (acquireSensor_state x l s) (acquireSensor_outcome x l s)))
  | arvRise =>
    exact .of_same (.of_outcome (arvRises_shedKept s) (arvRises_shaftKept s).stk (arvRises_state s) (arvRises_outcome s))
  | arvFall => exact .of_same (.of_kept (arvFalls_shedKept s) (arvFalls_samePick s))
  | feederBreak f taken =>
    exact hcauses taken (.of_same (.of_outcome (feederBreaks_shedKept f s) (feederBreaks_shaftKept f s).stk
      (feederBreaks_state f s) (feederBreaks_outcome f s)))
  | feederClear f => exact .of_same (.of_kept (feederClears_shedKept f s) (feederClears_samePick f s))
  | peakLevelReached dc => exact .of_same (.of_kept (onDriving_shedKept dc _ s) (onDriving_samePick dc _ s))
  | holdLevelReached dc => exact .of_same (.of_kept (onDriving_shedKept dc _ s) (onDriving_samePick dc _ s))
  | directLoadReached dc => exact .of_same (.of_kept (onDriving_shedKept dc _ s) (onDriving_samePick dc _ s))
  | chopOffTimeEnd dc n => exact .of_same (.of_kept (onDriving_shedKept dc _ s) (onDriving_samePick dc _ s))
  | blankingEnd dc n => exact .of_same (.of_kept (onDriving_shedKept dc _ s) (onDriving_samePick dc _ s))
  | overcurrentRise dc => exact .of_same (.of_kept (onDriving_shedKept dc _ s) (onDriving_samePick dc _ s))
  | overcurrentFall dc =>
    exact .of_same (.of_kept (onDriving_shedKept dc (fun c _ => { c with deglitchTimer := none }) s)
      (onDriving_samePick dc (fun c _ => { c with deglitchTimer := none }) s))
  | peakTimeLimitEnd dc taken =>
    exact hcauses taken (.of_same (.of_outcome (peakLimitEnds_shedKept dc s) (peakLimitEnds_shaftKept dc s).stk
      (peakLimitEnds_state dc s) (peakLimitEnds_outcome dc s)))
  | deglitchEnd dc taken =>
    exact hcauses taken (.of_same (.of_outcome (deglitchEnds_shedKept dc s) (deglitchEnds_shaftKept dc s).stk
      (deglitchEnds_state dc s) (deglitchEnds_outcome dc s)))
  | testEnd n => exact .of_same (.of_kept (endTest_shedKept n s) (endTest_samePick n s))
  | expansionComplete => exact completeExpansion_follows s
  | segmentsSent k => exact sendCheckCall_follows k s
  | moduleAnswer k n b l => exact collectAnswer_follows k _ s
  | endOfChecking k taken => exact hcauses taken (closeChecking_follows k s)
  | enczFall => exact indexFall_follows s
  | _ => exact (ShedFollows.refl s).linked (commandEffect_linkOnly _ rfl s)

/-- Every command's effect leaves what is in force in force. -/
theorem commandEffect_inForce (c : Instr) (s : State) :
    (s.targetInForce = true → (commandEffect c s).targetInForce = true) ∧
      (s.requiredInForce = true → (commandEffect c s).requiredInForce = true) := by
  by_cases hc : ∀ line elapsed order taken, c ≠ .encoderStep line elapsed order taken
  · have h := commandEffect_follows c hc s
    exact ⟨h.target.inForce, h.required.inForce⟩
  · push Not at hc
    obtain ⟨line, elapsed, order, taken, rfl⟩ := hc
    have hline := lineChange_inForce line elapsed order taken s
    have hcauses := takeCauses_follows taken (lineChange line elapsed order taken s)
    exact ⟨fun h => hcauses.target.inForce (hline.1 h), fun h => hcauses.required.inForce (hline.2 h)⟩

theorem inForce_loomOnly : LoomOnly (fun s => s.targetInForce = true) ∧ LoomOnly (fun s => s.requiredInForce = true) :=
  ⟨fun s _ h1 h2 h3 h4 h5 h6 h7 h8 h9 h =>
      (shedFollows_loomOnly s s _ h1 h2 h3 h4 h5 h6 h7 h8 h9 (.refl s)).target.inForce h,
    fun s _ h1 h2 h3 h4 h5 h6 h7 h8 h9 h =>
      (shedFollows_loomOnly s s _ h1 h2 h3 h4 h5 h6 h7 h8 h9 (.refl s)).required.inForce h⟩

end Sys2Proof.Machine

namespace Sys2Proof.Machine

/-! ### The position stays on its scale, whatever the counts of the tracker -/

/-- From `s` to `t` neither the machine record nor the position changes. -/
structure ScaleKept (s t : State) : Prop where
  machine : t.tbm.machine = s.tbm.machine
  position : t.stk.position = s.stk.position

theorem ShaftKept.scaleKept {s t : State} (h : ShaftKept s t) : ScaleKept s t := ⟨by rw [h.tbm], by rw [h.stk]⟩

theorem ScaleKept.onScale {s t : State} (h : ScaleKept s t) (hs : s.onScale = true) : t.onScale = true := by
  rw [onScale_iff] at *
  rwa [h.machine, h.position]

theorem onScale_of {m : MachineRecord} {s : State} (hm : s.tbm.machine = some m) (hv : m.valid = true)
    (hp : s.stk.position < m.counts) : s.onScale = true := by
  simp [State.onScale, hm, hv, hp]

theorem onScale_loomOnly : LoomOnly fun s => s.onScale = true :=
  fun _ _ ht _ _ _ hk _ _ _ _ h => ShaftKept.scaleKept ⟨ht, hk⟩ |>.onScale h

theorem takeStep_onScale {m : MachineRecord} (dir : Direction) (order : List Nat) (taken : CausesTaken) {s : State}
    (hm : s.tbm.machine = some m) (h : s.onScale = true) : (takeStep m dir order taken s).onScale = true := by
  obtain ⟨hv, hp⟩ := ((onScale_iff s).mp h).2 m hm
  have hkept : ShaftKept (counted m dir s) (takeStep m dir order taken s) :=
    ⟨runOrder_tbm _ _ _ _ _, runOrder_stk _ _ _ _ _⟩
  exact hkept.scaleKept.onScale (onScale_of hm hv (nextPosition_lt hp dir))

theorem lineChange_onScale (line : EncLine) (elapsed : Nat) (order : List Nat) (taken : CausesTaken) {s : State}
    (h : s.onScale = true) : (lineChange line elapsed order taken s).onScale = true := by
  have hmoved : ∀ l, (lineChanged line elapsed l s).onScale = true := fun l =>
    ScaleKept.onScale (s := s) ⟨rfl, by cases line <;> rfl⟩ h
  obtain he | ⟨m, l, hm, he | ⟨dir, he⟩⟩ := lineChange_cases line elapsed order taken s
  · rwa [he]
  · rw [he]
    exact hmoved l
  · rw [he]
    exact takeStep_onScale dir order taken (s := lineChanged line elapsed l s) hm (hmoved l)

/-- 05 R92: the index offset of a valid machine record lies on its scale. -/
theorem indexRise_onScale {s : State} (h : s.onScale = true) : (indexRise s).onScale = true := by
  unfold indexRise
  split
  · rename_i m hm _
    obtain ⟨hv, _⟩ := ((onScale_iff s).mp h).2 m hm
    have hoffset : m.offset < m.counts := ((MachineRecord.valid_iff m).mp hv).2.2.1
    unfold takeIndex
    split
    · exact ScaleKept.onScale ⟨rfl, rfl⟩ h
    · exact onScale_of (m := m) (by simpa [homeAt] using hm) hv (by simpa [homeAt] using hoffset)
    · dsimp only
      split
      · exact ScaleKept.onScale ⟨rfl, rfl⟩ h
      · exact ScaleKept.onScale ⟨by simp [indexFails], by simp [indexFails]⟩ h
  · exact h

/-- The commands of the tracker that count no step and take no index pulse leave the position (05 R87, R89, R91, R101). -/
theorem onShaft_position (c : Instr) (h : Instr.onShaft c = true)
    (hstep : ∀ line elapsed order taken, c ≠ .encoderStep line elapsed order taken)
    (hindex : ∀ taken, c ≠ .indexPulse taken) (s : State) : (commandEffect c s).stk.position = s.stk.position := by
  have hframe := fun (row : FrameRow) {eff : List Byte → State → State} he =>
    takeFrame_keeps (fun u : State => u.stk.position) (fun _ _ => rfl) row (eff := eff) he s
  cases c with
  | start taken =>
    refine hframe .start fun p u => ?_
    simp only [takeStart]
    repeat' split
    · rfl
    · rfl
    · rfl
    · rfl
    · simp [takingOwn, takeCauses_stk, drain_stk, startWeaving]
  | home =>
    refine hframe .home fun p u => ?_
    simp only [takeHome, startHoming]
    repeat' split
    all_goals simp
  | encoderLevelAcquired input l =>
    simp only [commandEffect, acquireLevel]
    split
    · cases input <;> rfl
    · rfl
  | illegalTransition taken =>
    simp only [commandEffect, takeCauses_stk, illegalChange]
    split <;> simp
  | standstill =>
    simp only [commandEffect, declareStandstill]
    repeat' split
    all_goals simp
  | enczFall =>
    simp only [commandEffect, indexFall]
    split <;> rfl
  | encoderStep line elapsed order taken => exact absurd rfl (hstep line elapsed order taken)
  | indexPulse taken => exact absurd rfl (hindex taken)
  | _ => simp [Instr.onShaft] at h

/-- 02 R30: on a new scale p stands at 0; on the scale in force it stands where it stood. -/
theorem writeMachine_onScale {m : MachineRecord} (hv : m.valid = true) {s : State} (h : s.onScale = true) :
    (writeMachine m s).onScale = true := by
  refine onScale_of (m := m) (by simp [writeMachine_frame]) hv ?_
  have hcounts : 720 ≤ m.counts := ((MachineRecord.valid_iff m).mp hv).1
  rw [writeMachine_stk]
  split
  · exact Nat.zero_lt_of_lt hcounts
  · rename_i hsame
    rw [shaftChanges_iff] at hsame
    push Not at hsame
    obtain ⟨old, hold, hn, _⟩ := hsame
    exact hn ▸ (((onScale_iff s).mp h).2 old hold).2

theorem patternTable_onScale (p : List Byte) (ok : Bool) {checks : List FieldCheck} {write : State → State}
    {s : State} (h : s.onScale = true) (hw : firstBad checks = none → (write s).onScale = true) :
    (patternTable p ok checks write s).onScale = true := by
  obtain ⟨r, x, he⟩ | ⟨_, hc, x, he⟩ := patternTable_cases p ok checks write s
  · rw [he]
    exact ScaleKept.onScale (s := s) ⟨rfl, rfl⟩ h
  · have hkept : ScaleKept (write s) (patternWrite (write s)) := ⟨by simp [patternWrite], by simp⟩
    rw [he]
    exact ScaleKept.onScale ⟨rfl, rfl⟩ (hkept.onScale (hw hc))

theorem checkedWrite_onScale (p : List Byte) (ok : Bool) (checks : List FieldCheck) {write : State → State} {s : State}
    (h : s.onScale = true) (hw : ScaleKept s (write s)) : (checkedWrite p ok checks write s).onScale = true := by
  obtain ⟨r, x, he⟩ | ⟨_, x, he⟩ := checkedWrite_cases p ok checks write s
  · rw [he]
    exact ScaleKept.onScale (s := s) ⟨rfl, rfl⟩ h
  · rw [he]
    exact ScaleKept.onScale (s := write s) ⟨rfl, rfl⟩ (hw.onScale h)

/-- Every command's effect leaves the position on its scale. -/
theorem commandEffect_onScale (c : Instr) (s : State) (h : s.onScale = true) : (commandEffect c s).onScale = true := by
  have hframe := fun (row : FrameRow) {eff : List Byte → State → State}
    (he : ∀ p u, u.onScale = true → (eff p u).onScale = true) => onScale_loomOnly.takeFrame he row h
  have hcauses := fun (taken : CausesTaken) {u : State} (hu : u.onScale = true) =>
    (takeCauses_shaftKept taken u).scaleKept.onScale hu
  have hsame : ∀ {u v : State}, v.tbm.machine = u.tbm.machine → v.stk = u.stk → u.onScale = true → v.onScale = true :=
    fun hm hk hu => ScaleKept.onScale ⟨hm, by rw [hk]⟩ hu
  cases hw : Instr.writesTable c with
  | true =>
    cases c with
    | tableMachine =>
      exact hframe (.table .machine) fun p u hu =>
        patternTable_onScale p _ hu fun hc => writeMachine_onScale (machineRecordOf_valid hc) hu
    | tableSections =>
      exact hframe (.table .sections) fun p u hu => patternTable_onScale p _ hu fun _ => hsame rfl rfl hu
    | tableEffects =>
      exact hframe (.table .effects) fun p u hu => patternTable_onScale p _ hu fun _ => hsame rfl rfl hu
    | tableWeaves =>
      exact hframe (.table .weaves) fun p u hu => patternTable_onScale p _ hu fun _ => hsame rfl rfl hu
    | tableProfiles => exact hframe (.table .profiles) fun p u hu => checkedWrite_onScale p _ _ hu ⟨rfl, rfl⟩
    | tableWefts => exact hframe (.table .wefts) fun p u hu => checkedWrite_onScale p _ _ hu ⟨rfl, rfl⟩
    | tableDrivers => exact hframe (.table .drivers) fun p u hu => checkedWrite_onScale p _ _ hu ⟨rfl, rfl⟩
    | _ => simp [Instr.writesTable] at hw
  | false =>
    cases hs : Instr.onShaft c with
    | false => exact (commandEffect_shaftKept c hw hs s).scaleKept.onScale h
    | true =>
      cases c with
      | encoderStep line elapsed order taken => exact hcauses taken (lineChange_onScale line elapsed order taken h)
      | indexPulse taken => exact hcauses taken (indexRise_onScale h)
      | _ =>
        exact ScaleKept.onScale ⟨by rw [commandEffect_tbm _ hw], onShaft_position _ hs nofun nofun s⟩ h

/-- Settles O55: every command's effect and RUN's taking of a cause leave the target and the required pick following
what they are evaluated from, and a step of the shaft evaluates them where its direction or its crossings ask. -/
theorem targetAndRequiredPickStayInForce : Obligations.TargetAndRequiredPickStayInForce := by
  refine ⟨fun _ _ h hs => ?_, fun _ _ h hs => ⟨?_, ?_⟩⟩
  · exact inForce_loomOnly.1.step (by decide) (fun c u => (commandEffect_inForce c u).1)
      (fun u c => (takeCause_follows u c).target.inForce) h hs
  · exact onScale_loomOnly.step (by decide) commandEffect_onScale
      (fun u c => ShaftKept.scaleKept ⟨by simp, takeCause_stk u c⟩ |>.onScale) h.1 hs
  · exact inForce_loomOnly.2.step (by decide) (fun c u => (commandEffect_inForce c u).2)
      (fun u c => (takeCause_follows u c).required.inForce) h.2 hs

end Sys2Proof.Machine

/-! ## The arithmetic of shed expansion -/

namespace Sys2Proof.Machine

/-! ### Column positions (03 R48) -/

theorem columnPosition_straight (span o : Nat) : columnPosition .straight span o = o % span := rfl

/-- 03 R48: a POINTED section counts up to S-1 and back down, with period 2S-2. -/
theorem columnPosition_pointed {span : Nat} (h : 2 ≤ span) (o : Nat) :
    columnPosition .pointed span o =
      if o % (2 * span - 2) < span then o % (2 * span - 2) else 2 * span - 2 - o % (2 * span - 2) := by
  simp only [columnPosition, if_neg (show ¬span ≤ 1 by omega)]

theorem columnPosition_lt (layout : Layout) {span : Nat} (h : 1 ≤ span) (o : Nat) :
    columnPosition layout span o < span := by
  cases layout with
  | straight => exact Nat.mod_lt o h
  | pointed =>
    by_cases hone : span = 1
    · subst hone
      exact Nat.one_pos
    · rw [columnPosition_pointed (by omega)]
      split <;> omega

/-- Settles O45: the remainder by S, or by the period of a POINTED section folded at S. -/
theorem columnPositionOfAHook : Obligations.ColumnPositionOfAHook := by
  refine ⟨columnPosition_straight, fun _ => rfl, fun span o h => ?_, fun layout span o h => columnPosition_lt layout h o,
    fun span o => ?_, fun span o h => ?_, fun o => ?_⟩
  · rw [columnPosition_pointed h]
    exact ⟨fun hq => if_pos hq, fun hq => if_neg (Nat.not_lt.mpr hq)⟩
  · rw [columnPosition_straight, columnPosition_straight, Nat.add_mod_right]
  · rw [columnPosition_pointed h, columnPosition_pointed h, Nat.add_mod_right]
  · rw [columnPosition_pointed (Nat.le_refl 2), columnPosition_straight]
    exact if_pos (Nat.mod_lt o Nat.two_pos)

/-! ### Design columns (03 R49) -/

theorem designColumn_ascending (origin width k : Nat) : designColumn .ascending origin width k = (origin + k) % width :=
  rfl

theorem designColumn_descending (origin k : Nat) {width : Nat} (h : 0 < width) :
    (designColumn .descending origin width k : Int) = ((origin : Int) - (k : Int)) % (width : Int) :=
  Int.toNat_of_nonneg (Int.emod_nonneg _ (by omega))

theorem designColumn_lt (direction : ColumnDir) (origin k : Nat) {width : Nat} (h : 0 < width) :
    designColumn direction origin width k < width := by
  cases direction with
  | ascending => exact Nat.mod_lt _ h
  | descending =>
    have hlt := Int.emod_lt_of_pos ((origin : Int) - k) (show (0 : Int) < width by omega)
    have he := designColumn_descending origin k h
    omega

/-- 03 R49: positions below W reach distinct columns, since their difference is less than W. -/
theorem designColumn_injective (direction : ColumnDir) (origin : Nat) {width j k : Nat} (hj : j < width) (hk : k < width)
    (h : designColumn direction origin width j = designColumn direction origin width k) : j = k := by
  cases direction with
  | ascending => exact (Nat.ModEq.add_left_cancel' origin h).eq_of_lt_of_lt hj hk
  | descending =>
    have hwidth : 0 < width := Nat.zero_lt_of_lt hj
    have hcast : (designColumn .descending origin width j : Int) = designColumn .descending origin width k :=
      congrArg Nat.cast h
    rw [designColumn_descending origin j hwidth, designColumn_descending origin k hwidth] at hcast
    have hneg : -(j : Int) ≡ -k [ZMOD width] := Int.ModEq.add_left_cancel' (origin : Int) hcast
    have hmod : (j : Int) ≡ k [ZMOD width] := Int.neg_modEq_neg.mp hneg
    exact (Int.natCast_modEq_iff.mp hmod).eq_of_lt_of_lt hj hk

/-- 03 R49: a span of W positions reaches every column, being as many. -/
theorem designColumn_surjective (direction : ColumnDir) (origin : Nat) {width c : Nat} (h : c < width) :
    ∃ k, k < width ∧ designColumn direction origin width k = c := by
  have hwidth : 0 < width := Nat.zero_lt_of_lt h
  have hinj : Function.Injective fun k : Fin width =>
      (⟨designColumn direction origin width k, designColumn_lt direction origin k hwidth⟩ : Fin width) :=
    fun j k hjk => Fin.ext (designColumn_injective direction origin j.isLt k.isLt (Fin.mk.inj hjk))
  obtain ⟨k, hk⟩ := Finite.injective_iff_surjective.mp hinj ⟨c, h⟩
  exact ⟨k, k.isLt, Fin.mk.inj hk⟩

/-- Settles O46: a remainder by W of a sum or a difference, one to one on the positions below W. -/
theorem designColumnOfAPosition : Obligations.DesignColumnOfAPosition := by
  intro direction origin width horigin
  have hwidth : 0 < width := Nat.zero_lt_of_lt horigin
  exact ⟨designColumn_ascending origin width, fun k => designColumn_descending origin k hwidth,
    fun k => designColumn_lt direction origin k hwidth,
    fun span j k hspan hj hk => designColumn_injective direction origin (hj.trans_le hspan) (hk.trans_le hspan),
    fun c => designColumn_surjective direction origin⟩

/-! ### The image (03 R46, R47, R50, R51) -/

theorem hooks_eq (m : MachineRecord) :
    m.hooks = 128 * (m.modulesOf 0 + m.modulesOf 1 + m.modulesOf 2 + m.modulesOf 3) := by
  simp [MachineRecord.hooks, chainList, Nat.add_assoc]

theorem expandImage_eq {t : Tbm} {m : MachineRecord} (h : t.machine = some m) (row : Word16) (effects : List (Fin 16)) :
    expandImage t row effects = (List.range m.hooks).map (hookLift t m.width row.toNat effects) := by
  simp [expandImage, h]

theorem expandImage_getElem? {t : Tbm} {m : MachineRecord} (hm : t.machine = some m) {row : Word16}
    {effects : List (Fin 16)} {h : Nat} {lift : Bool} (hlift : (expandImage t row effects)[h]? = some lift) :
    lift = hookLift t m.width row.toNat effects h := by
  rw [expandImage_eq hm, List.getElem?_map] at hlift
  obtain ⟨i, hi, rfl⟩ := Option.map_eq_some_iff.mp hlift
  obtain ⟨_, rfl⟩ := List.getElem?_eq_some_iff.mp hi
  simp

/-- 03 R47: a hook in no section is down. -/
theorem hookLift_unsectioned {t : Tbm} {h : Nat} (hx : t.sectionAt h = none) (width row : Nat)
    (effects : List (Fin 16)) : hookLift t width row effects h = false := by
  simp [hookLift, hx]

/-- 03 R47: a hook has the lift its section gives its offset, where it gives one. -/
theorem hookLift_sectioned {t : Tbm} {h width row : Nat} {effects : List (Fin 16)} {x : HarnessSection} {lift : Bool}
    (hx : t.sectionAt h = some x) (hl : sectionLift t width row effects (h - x.first) x.kind = some lift) :
    hookLift t width row effects h = lift := by
  simp [hookLift, hx, hl]

/-- 03 R50, R51: the cell of a present weave. -/
theorem weaveLift_present {t : Tbm} {w : Nat} {wv : Weave} (h : t.weaves.toList.getD w none = some wv) (row col : Nat) :
    weaveLift t w row col = wv.cell? (row % wv.height) (col % wv.width) := by
  simp only [weaveLift, h]

/-- 03 R50: the effect a code names in a FIGURE section decides the lift at its design column. -/
theorem figureLift_coded {t : Tbm} {effects : List (Fin 16)} {c : Nat} {code : Fin 16} {e : Effect}
    (hcode : effects[c]? = some code) (he : t.effects[code] = some e) (row : Nat) :
    figureLift t row effects c = effectLift t row c e := by
  simp only [figureLift, hcode, he]

/-- Settles O47: each hook's lift is that of its section, kind by kind. -/
theorem imageOfAPick : Obligations.ImageOfAPick := by
  intro t m row effects hm
  refine ⟨?_, fun h lift hlift => ?_⟩
  · rw [expandImage_eq hm, List.length_map, List.length_range, hooks_eq]
  · rw [expandImage_getElem? hm hlift]
    refine ⟨fun hx => hookLift_unsectioned hx _ _ _, fun x hx => ?_⟩
    have hgives : ∀ {kind : SectionKind} {v : Bool}, x.kind = kind →
        sectionLift t m.width row.toNat effects (h - x.first) kind = some v →
        hookLift t m.width row.toNat effects h = v := fun hk hv => hookLift_sectioned hx (hk ▸ hv)
    refine ⟨fun hk => hgives hk rfl, fun hk => hgives hk rfl, ?_, ?_⟩
    · intro origin span layout direction code hk hcode
      have hfigure : ∀ {e : Effect} {v : Bool}, t.effects[code] = some e →
          effectLift t row.toNat (designColumn direction origin m.width (columnPosition layout span (h - x.first))) e =
            some v → hookLift t m.width row.toNat effects h = v :=
        fun he hv => hgives hk ((figureLift_coded hcode he _).trans hv)
      refine ⟨fun he => hfigure he rfl, fun he => hfigure he rfl, fun w a b invert wv cell he hw hcell => ?_⟩
      refine hfigure he ?_
      rw [effectLift, weaveLift_present hw, hcell]
      cases invert <;> simp
    · intro w a b wv cell hk hw hcell
      exact hgives hk ((weaveLift_present hw _ _).trans hcell)

end Sys2Proof.Machine

/-! ## Expansions completed, shifts and answers -/

namespace Sys2Proof.Machine

/-! ### An image handed over to the chains (04 R65) -/

/-- 04 R65: a chain after an image is handed over: an IDLE one, and one READY with another ordinal, begins a shift. -/
def ChainPhase.handed (o : Ordinal) : ChainPhase → ChainPhase
  | .idle => .shifting o
  | .ready t d => if t = o then .ready t d else .shifting o
  | .shifting t => .shifting t
  | .checking t answers => .checking t answers

/-- The chain begins a shift as the image is handed over. -/
def ChainPhase.Shifts (o : Ordinal) (ph : ChainPhase) : Prop := ph = .idle ∨ ∃ t d, ph = .ready t d ∧ t ≠ o

theorem handed_of_shifts {o : Ordinal} {ph : ChainPhase} (h : ph.Shifts o) : ph.handed o = .shifting o := by
  obtain rfl | ⟨t, d, rfl, hne⟩ := h
  · rfl
  · simp [ChainPhase.handed, hne]

theorem handed_of_not_shifts {o : Ordinal} {ph : ChainPhase} (h : ¬ ph.Shifts o) : ph.handed o = ph := by
  cases ph with
  | idle => exact absurd (.inl rfl) h
  | ready t d =>
    have ht : t = o := by_contra fun hne => h (.inr ⟨t, d, rfl, hne⟩)
    simp [ChainPhase.handed, ht]
  | shifting t => rfl
  | checking t answers => rfl

theorem handed_twice (o : Ordinal) (ph : ChainPhase) : (ph.handed o).handed o = ph.handed o := by
  by_cases h : ph.Shifts o
  · rw [handed_of_shifts h]
    rfl
  · rw [handed_of_not_shifts h, handed_of_not_shifts h]

/-- 04 R65, 10 R198: a chain that begins a shift is SHIFTING, and is sent the shift-start mark. -/
theorem handChain_shifts {o : Ordinal} {s : State} {k : ChainIdx} (h : (s.hci.chains[k]).phase.Shifts o) :
    handChain o s k = emit (.mark k shiftStartCode) (setChain k { s.hci.chains[k] with phase := .shifting o } s) := by
  unfold handChain
  dsimp only
  obtain hph | ⟨t, d, hph, hne⟩ := h
  · rw [hph]
  · rw [hph]
    exact if_neg hne

theorem handChain_of_not_shifts {o : Ordinal} {s : State} {k : ChainIdx} (h : ¬ (s.hci.chains[k]).phase.Shifts o) :
    handChain o s k = s := by
  unfold handChain
  dsimp only
  split
  · exact absurd (.inl ‹_›) h
  · rename_i t d hph
    exact if_pos (by_contra fun hne => h (.inr ⟨t, d, hph, hne⟩))
  · rfl
  · rfl

theorem handChain_chain (o : Ordinal) (s : State) (k j : ChainIdx) :
    (handChain o s k).hci.chains[j] =
      if k = j then { s.hci.chains[j] with phase := (s.hci.chains[j]).phase.handed o } else s.hci.chains[j] := by
  by_cases h : (s.hci.chains[k]).phase.Shifts o
  · rw [handChain_shifts h]
    by_cases hkj : k = j
    · subst hkj
      rw [if_pos rfl, handed_of_shifts h]
      simp
    · have hval : k.val ≠ j.val := fun h => hkj (Fin.ext h)
      simp [hkj, hval]
  · rw [handChain_of_not_shifts h]
    split
    · rename_i hkj
      rw [handed_of_not_shifts (hkj ▸ h)]
    · rfl

theorem handChains_chain (o : Ordinal) (l : List ChainIdx) (s : State) (j : ChainIdx) :
    (l.foldl (handChain o) s).hci.chains[j] =
      if j ∈ l then { s.hci.chains[j] with phase := (s.hci.chains[j]).phase.handed o } else s.hci.chains[j] := by
  induction l generalizing s with
  | nil => simp
  | cons k ks ih =>
    rw [List.foldl_cons, ih, handChain_chain]
    by_cases hkj : k = j
    · simp [hkj, handed_twice]
    · simp [hkj, Ne.symm hkj]

theorem handChain_marks {o : Ordinal} {s : State} {k : ChainIdx} (h : (s.hci.chains[k]).phase.Shifts o) :
    LineItem.mark k shiftStartCode ∈ (handChain o s k).lineOut := by
  rw [handChain_shifts h]
  simp [emit]

theorem handChains_marks {o : Ordinal} {l : List ChainIdx} {s : State} {k : ChainIdx} (hk : k ∈ l)
    (h : (s.hci.chains[k]).phase.Shifts o) : LineItem.mark k shiftStartCode ∈ (l.foldl (handChain o) s).lineOut := by
  induction l generalizing s with
  | nil => simp at hk
  | cons j js ih =>
    rw [List.foldl_cons]
    by_cases hjk : j = k
    · subst hjk
      exact (NoNewImage.foldl (handChain_noNewImage o) js _).lines.subset (handChain_marks h)
    · refine ih (List.mem_of_ne_of_mem (Ne.symm hjk) hk) ?_
      rwa [handChain_chain, if_neg hjk]

theorem mem_usedChains (s : State) (k : ChainIdx) : k ∈ s.usedChains ↔ s.modulesOn k ≠ 0 := by
  simp [State.usedChains, mem_chainList]

/-! ### EXPANSION_COMPLETE (03 R58) -/

theorem completed_filling (t : Tbm) (o : Ordinal) (e row : Word16) (effects : List (Fin 16)) :
    (Buffer.filling o e row effects).completed t = some (o, .held o e (expandImage t row effects)) := rfl

theorem completed_not_filling {b : Buffer} (h : b.isFilling = false) (t : Tbm) : b.completed t = none := by
  cases b with
  | filling o e row effects => simp [Buffer.isFilling] at h
  | _ => rfl

/-- What handing over the image of `o` leaves, with the buffers as `b`. -/
theorem handOver_next {s u : State} {b : Shb} (o : Ordinal) (hu : u = { s with lineOut := [], shb := b }) :
    let t := kickTransmitter (handOver o u)
    ChangedOnly [.lines, .dlp, .shb, .hci] s t ∧ LinkLeft s.dlp t ∧ t.shb = b ∧ t.hci.tag = s.hci.tag ∧
      t.hci.required = s.hci.required ∧
      ∀ k : ChainIdx,
        (s.modulesOn k ≠ 0 → (s.hci.chains[k]).phase.Shifts o →
          t.hci.chains[k] = { s.hci.chains[k] with phase := .shifting o } ∧ LineItem.mark k 225 ∈ t.lineOut) ∧
        (s.modulesOn k = 0 ∨ (∃ dg, (s.hci.chains[k]).phase = .ready o dg) → t.hci.chains[k] = s.hci.chains[k]) := by
  subst hu
  have hlink : (handOver o { s with lineOut := [], shb := b }).dlp = s.dlp := by simp
  have hused : ∀ k, k ∈ State.usedChains { s with lineOut := [], shb := b } ↔ s.modulesOn k ≠ 0 := fun k =>
    mem_usedChains _ k
  have hchain : ∀ k : ChainIdx, (handOver o { s with lineOut := [], shb := b }).hci.chains[k] =
      if s.modulesOn k ≠ 0 then { s.hci.chains[k] with phase := (s.hci.chains[k]).phase.handed o }
      else s.hci.chains[k] := by
    intro k
    unfold handOver
    rw [handChains_chain]
    exact if_congr (hused k) rfl rfl
  refine ⟨by simp [ChangedOnly], linkLeft_of hlink, by simp, by simp, by simp, fun k => ⟨fun hm hsh => ?_, fun hk => ?_⟩⟩
  · simp only [kickTransmitter_frame]
    rw [hchain k, if_pos hm, handed_of_shifts hsh]
    exact ⟨rfl, handChains_marks ((hused k).mpr hm) hsh⟩
  · simp only [kickTransmitter_frame]
    rw [hchain k]
    obtain hzero | ⟨dg, hready⟩ := hk
    · rw [if_neg fun h => h hzero]
    · split
      · rw [hready]
        simp [ChainPhase.handed, ← hready]
      · rfl

/-- Settles O41: the image of the FILLING buffer is held, and handed over to each chain with modules. -/
theorem expansionIsHeldAndShifted : Obligations.ExpansionIsHeldAndShifted := by
  intro s o epoch row effects hready hfilling image
  have hexec := command_high completeExpansion s hready
  obtain h0 | ⟨h0, h1⟩ := hfilling
  · have heffect : completeExpansion { s with lineOut := [] } =
        handOver o { s with lineOut := [], shb := { s.shb with buffer0 := .held o epoch image } } := by
      simp [completeExpansion, h0, completed_filling, setBuffer, image]
    rw [heffect] at hexec
    obtain ⟨honly, hlink, hshb, htag, hrequired, hchains⟩ := handOver_next (s := s) o rfl
    exact ⟨_, hexec, honly, hlink, fun _ => hshb, fun hno => by simp [h0, Buffer.isFilling] at hno, htag, hrequired,
      hchains⟩
  · have heffect : completeExpansion { s with lineOut := [] } =
        handOver o { s with lineOut := [], shb := { s.shb with buffer1 := .held o epoch image } } := by
      simp [completeExpansion, completed_not_filling h0, h1, completed_filling, setBuffer, image]
    rw [heffect] at hexec
    obtain ⟨honly, hlink, hshb, htag, hrequired, hchains⟩ := handOver_next (s := s) o rfl
    exact ⟨_, hexec, honly, hlink, fun he => by simp [he, Buffer.isFilling] at h0, fun _ => hshb, htag, hrequired,
      hchains⟩

end Sys2Proof.Machine

namespace Sys2Proof.Machine

/-! ### Segments (04 R63, 10 R198) -/

/-- The first `n` lift values read as a binary number, the first the most significant. -/
def liftNumber (bits : List Bool) (n : Nat) : Nat :=
  (List.range n).foldl (fun acc i => 2 * acc + (bits.getD i false).toNat) 0

theorem packByte_eq (bits : List Bool) : packByte bits = BitVec.ofNat 8 (liftNumber bits 8) := rfl

theorem liftNumber_succ (bits : List Bool) (n : Nat) :
    liftNumber bits (n + 1) = 2 * liftNumber bits n + (bits.getD n false).toNat := by
  simp [liftNumber, List.range_succ]

theorem liftNumber_testBit (bits : List Bool) {n b : Nat} (h : b < n) :
    (liftNumber bits n).testBit (n - 1 - b) = bits.getD b false := by
  induction n with
  | zero => omega
  | succ n ih =>
    rw [liftNumber_succ]
    by_cases hb : b = n
    · subst hb
      cases bits.getD b false <;> simp [Nat.testBit_zero]
    · have hplace : n + 1 - 1 - b = n - 1 - b + 1 := by omega
      rw [hplace, Nat.testBit_succ, ← ih (by omega)]
      congr 1
      have hbit := (bits.getD n false).toNat_le
      omega

/-- 10 R198: the first of eight lift values stands in bit 7. -/
theorem packByte_bit (bits : List Bool) {b : Nat} (h : b < 8) : (packByte bits).getLsbD (7 - b) = bits.getD b false := by
  rw [packByte_eq, BitVec.getLsbD_ofNat, ← liftNumber_testBit bits h]
  simp [show 7 - b < 8 by omega]

theorem segmentByte_bit (lifts : List Bool) (i : Nat) {b : Nat} (h : b < 8) :
    (segmentByte lifts i).getLsbD (7 - b) = lifts.getD (8 * i + b) false := by
  rw [segmentByte, packByte_bit _ h]
  simp [List.getD_eq_getElem?_getD, h]

theorem moduleLifts_getD (m : MachineRecord) (image : List Bool) (k : ChainIdx) (j : Nat) {i : Nat} (h : i < 128) :
    (moduleLifts m image k j).getD i false = image.getD (128 * (m.modulesBefore k + j) + i) false := by
  simp [moduleLifts, List.getD_eq_getElem?_getD, h]

/-- 10 R198: a segment is 16 bytes of lift values and their CRC-8. -/
theorem segmentBytes_frame (lifts : List Bool) :
    (segmentBytes lifts).length = 17 ∧ (segmentBytes lifts).getD 16 0 = crc8 ((segmentBytes lifts).take 16) := by
  simp [segmentBytes, List.getD_eq_getElem?_getD]

theorem segmentBytes_value (lifts : List Bool) {i : Nat} (h : i < 16) :
    (segmentBytes lifts).getD i 0 = segmentByte lifts i := by
  simp [segmentBytes, List.getD_eq_getElem?_getD, List.getElem?_append, h]

/-- 04 R65: the chains shift from the buffer that holds the image of the ordinal, the first of the two before the
second. -/
theorem heldImage_eq {s : State} {o : Ordinal} {e : Word16} {image : List Bool}
    (h : s.shb.buffer0 = .held o e image ∨ (s.shb.buffer0.ordinal? ≠ some o ∧ s.shb.buffer1 = .held o e image)) :
    s.heldImage o = image := by
  unfold State.heldImage
  obtain h0 | ⟨h0, h1⟩ := h
  · simp [h0, Buffer.imageOf]
  · have hnone : s.shb.buffer0.imageOf o = none := by
      cases hb : s.shb.buffer0 with
      | held x _ _ =>
        rw [hb] at h0
        simpa [Buffer.imageOf, Buffer.ordinal?] using h0
      | _ => rfl
    rw [hnone, h1]
    simp [Buffer.imageOf]

/-! ### SEGMENTS_SENT and MODULE_ANSWER (04 R65, R66) -/

theorem emits_eq (l : List LineItem) (s : State) :
    l.foldl (fun t x => emit x t) s = { s with lineOut := s.lineOut ++ l } := by
  induction l generalizing s with
  | nil => simp
  | cons x xs ih =>
    rw [List.foldl_cons, ih]
    simp [emit]

/-- 04 R65: a SHIFTING chain becomes CHECKING, its segments and the check call driven. -/
theorem sendCheckCall_shifting {s : State} {k : ChainIdx} {o : Ordinal} (h : (s.hci.chains[k]).phase = .shifting o) :
    sendCheckCall k s =
      { s with
        hci := { s.hci with chains := s.hci.chains.set k.val { s.hci.chains[k] with phase := .checking o [] } }
        lineOut := s.lineOut ++ s.chainSegments k o ++ [.mark k 60] } := by
  simp only [sendCheckCall, h, emits_eq]
  rfl

/-- 04 R66: a CHECKING chain collects the character. -/
theorem collectAnswer_checking {s : State} {k : ChainIdx} {o : Ordinal} {answers : List AnswerChar}
    (h : (s.hci.chains[k]).phase = .checking o answers) (x : AnswerChar) :
    collectAnswer k x s = setChain k { s.hci.chains[k] with phase := .checking o (answers ++ [x]) } s := by
  simp only [collectAnswer, h]

/-- 04 R66: any other chain ignores it. -/
theorem collectAnswer_ignores {s : State} {k : ChainIdx} (h : ∀ o answers, (s.hci.chains[k]).phase ≠ .checking o answers)
    (x : AnswerChar) : collectAnswer k x s = s := by
  simp only [collectAnswer]
  split
  · exact absurd ‹_› (h _ _)
  · rfl
  · rfl
  · rfl

theorem crc8_append (bytes : List Byte) (b : Byte) : crc8 (bytes ++ [b]) = crc8Bits 8 (crc8 bytes ^^^ b) := by
  simp [crc8]

/-- Settles O42: the segments are those of the held image, module by module and bit by bit; an answer joins those of a
CHECKING chain alone. -/
theorem shiftIsSentAndAnswersCollected : Obligations.ShiftIsSentAndAnswersCollected := by
  refine ⟨fun s k hready => ⟨fun o hshift => ?_, fun position byte stopBit => ⟨fun o answers hcheck => ?_, fun hno => ?_⟩⟩,
    rfl, crc8_append⟩
  · have hexec := command_high (sendCheckCall k) s hready
    rw [sendCheckCall_shifting (s := { s with lineOut := [] }) hshift] at hexec
    refine ⟨_, hexec, by simp [ChangedOnly], linkLeft_of rfl, by simp, fun m e image hm himage => ?_⟩
    have hheld : State.heldImage { s with lineOut := [] } o = image := heldImage_eq himage
    refine ⟨(List.range (m.modulesOf k)).map fun j => segmentBytes (moduleLifts m image k j), ?_, by simp,
      fun j bytes hbytes => ?_⟩
    · simp [State.chainSegments, hm, hheld, Function.comp_def]
    · rw [List.getElem?_map] at hbytes
      obtain ⟨x, hx, rfl⟩ := Option.map_eq_some_iff.mp hbytes
      obtain ⟨_, rfl⟩ := List.getElem?_eq_some_iff.mp hx
      obtain ⟨hlength, hcrc⟩ := segmentBytes_frame (moduleLifts m image k (List.range (m.modulesOf k))[j])
      refine ⟨hlength, hcrc, fun i hi b hb => ?_⟩
      rw [segmentBytes_value _ hi, segmentByte_bit _ _ hb, moduleLifts_getD _ _ _ _ (by omega), List.getElem_range,
        Nat.add_assoc]
  · refine ⟨_, command_high (collectAnswer k _) s hready, ?_⟩
    rw [collectAnswer_checking (s := { s with lineOut := [] }) hcheck]
    exact ⟨by simp [ChangedOnly], linkLeft_of rfl, by simp⟩
  · refine ⟨_, command_high (collectAnswer k _) s hready, ?_⟩
    rw [collectAnswer_ignores (s := { s with lineOut := [] }) hno]
    exact ⟨by simp [ChangedOnly], linkLeft_of rfl⟩

end Sys2Proof.Machine

/-! ## An encoder step -/

namespace Sys2Proof.Machine

/-! ### The causes of the tracker (05 R94, R102) -/

/-- The cause a handling of the tracker itself hands to RUN (05 R94, R102). -/
def Handling.cause? : Handling → Option Cause
  | .indexMissing => some (.stop .indexMissing)
  | .reverse => some (.stop .reverseInRun)
  | _ => none

/-- A cause that the tracker hands as a step is counted. -/
def Cause.OfStep (c : Cause) : Prop := c = .stop .indexMissing ∨ c = .stop .reverseInRun

/-- From `s` to `t` none of the tracker's causes is handed or taken. -/
def SameStepCauses (s t : State) : Prop := ∀ c : Cause, c.OfStep → (c ∈ t.run.handed ↔ c ∈ s.run.handed)

namespace SameStepCauses

theorem of_run {s t : State} (h : t.run = s.run) : SameStepCauses s t := fun _ _ => by rw [h]

theorem refl (s : State) : SameStepCauses s s := of_run rfl

theorem trans {s t u : State} (h1 : SameStepCauses s t) (h2 : SameStepCauses t u) : SameStepCauses s u := fun c hc =>
  (h2 c hc).trans (h1 c hc)

theorem foldl {β : Type} {f : State → β → State} (h : ∀ s x, SameStepCauses s (f s x)) (l : List β) (s : State) :
    SameStepCauses s (l.foldl f s) :=
  List.foldlRecOn l f (refl s) fun u hu x _ => hu.trans (h u x)

/-- Another cause is handed. -/
theorem hand {c : Cause} (hc : ¬c.OfStep) (s : State) : SameStepCauses s (hand c s) := by
  intro x hx
  have hne : x ≠ c := fun he => hc (he ▸ hx)
  simp [hne]

end SameStepCauses

theorem weftFault_sameStepCauses (d : WeftDetail) {cause : Ordinal → StopCause}
    (hc : ∀ o, ¬(Cause.stop (cause o)).OfStep) (s : State) : SameStepCauses s (weftFault d cause s) := by
  unfold weftFault
  split
  · exact .refl s
  · refine SameStepCauses.trans (.of_run ?_) (.hand (hc _) _)
    simp

theorem judgeWindow_sameStepCauses (s : State) : SameStepCauses s (judgeWindow s) := by
  unfold judgeWindow
  split
  · split
    · exact .of_run (by simp)
    · have hfault : SameStepCauses s (weftFault .missing .weftMissing s) :=
        weftFault_sameStepCauses _ (by simp [Cause.OfStep]) s
      exact hfault.trans (.of_run (by simp))
  · exact .of_run (by simp)

theorem watchedBreak_sameStepCauses (f : FeederIdx) (s : State) : SameStepCauses s (watchedBreak f s) := by
  unfold watchedBreak
  dsimp only
  split
  · exact SameStepCauses.trans (.of_run rfl) (weftFault_sameStepCauses _ (by simp [Cause.OfStep]) _)
  · exact .of_run rfl

theorem beginWatch_sameStepCauses (line : Option FeederIdx) (s : State) : SameStepCauses s (beginWatch line s) := by
  unfold beginWatch
  split
  · exact .refl s
  · dsimp only
    split
    · exact SameStepCauses.trans (.of_run rfl) (watchedBreak_sameStepCauses _ _)
    · exact .of_run rfl

theorem fireOne_sameStepCauses (s : State) (j : Nat) : SameStepCauses s (fireOne s j) := by
  obtain h | ⟨a, x, _, _, h⟩ := fireOne_cases s j
  · rw [h]
    exact .refl s
  · have hsend : SameStepCauses s (sendAction a j x s) := .of_run (by simp)
    rw [h]
    split
    · exact hsend.trans (beginWatch_sameStepCauses _ _)
    · exact hsend

theorem fireAction_sameStepCauses (x : Nat → Bool) (i : Nat) (s : State) : SameStepCauses s (fireAction x i s) := by
  unfold fireAction
  split
  · exact .refl s
  · exact .foldl fireOne_sameStepCauses _ s

theorem handClosing_sameStepCauses (x : Nat → Bool) (s : State) : SameStepCauses s (handClosing x s) := by
  have hopen : SameStepCauses s (handOpening x s) := .of_run (by simp)
  unfold handClosing
  dsimp only
  split
  · exact hopen
  · split
    · exact hopen.trans (SameStepCauses.trans (.of_run (by simp)) (judgeWindow_sameStepCauses _))
    · exact hopen

theorem latchRequest_sameStepCauses (dir : Direction) (s : State) : SameStepCauses s (latchRequest dir s) := by
  have hmiss : ∀ (e : Event) {c : Cause}, ¬c.OfStep → SameStepCauses s
      (if dir = .forward ∧ s.run.state = .weaving then hand c (post e s) else post e s) := by
    intro e c hc
    have hpost : SameStepCauses s (post e s) := .of_run (by simp)
    split
    · exact hpost.trans (.hand hc _)
    · exact hpost
  unfold latchRequest
  dsimp only
  split
  · exact hmiss _ (by simp [Cause.OfStep])
  · split
    · exact .of_run (by simp)
    · exact hmiss _ (by simp [Cause.OfStep])

theorem requestLatch_sameStepCauses (x : Nat → Bool) (dir : Direction) (s : State) :
    SameStepCauses s (requestLatch x dir s) := by
  unfold requestLatch
  split
  · exact .refl s
  · split
    · exact latchRequest_sameStepCauses dir s
    · exact .refl s

theorem armCurrent_sameStepCauses (adv : Nat → Nat) (s : State) : SameStepCauses s (armCurrent adv s) := by
  have hfault : ∀ reason, SameStepCauses s (channelFault reason s) := fun reason =>
    weftFault_sameStepCauses _ (by simp [Cause.OfStep]) s
  unfold armCurrent
  repeat' split
  · exact .refl s
  · exact .of_run (by simp)
  · exact hfault _
  · exact hfault _
  · exact .of_run (by simp [armWith])
  · exact hfault _

theorem armPromoted_sameStepCauses (s : State) : SameStepCauses s (armPromoted s) := by
  unfold armPromoted
  split
  · exact armCurrent_sameStepCauses _ s
  · exact .refl s

theorem forwardBoundary_sameStepCauses (s : State) : SameStepCauses s (forwardBoundary s) := by
  unfold forwardBoundary
  split
  · exact .of_run (by simp)
  · split
    · have hbefore : SameStepCauses s (forwardSnapshot (promote s)) := .of_run (by simp)
      exact (hbefore.trans (armPromoted_sameStepCauses _)).trans (.of_run (by simp))
    · exact .of_run (by simp)

/-- A handling hands the tracker's causes only as the tracker's own. -/
theorem handle_stepCause (i : StepInfo) (s : State) (h : Handling) {c : Cause} (hc : c.OfStep) :
    c ∈ (handle i s h).run.handed ↔ c ∈ s.run.handed ∨ h.cause? = some c := by
  have hother : h.cause? = none → SameStepCauses s (handle i s h) →
      (c ∈ (handle i s h).run.handed ↔ c ∈ s.run.handed ∨ h.cause? = some c) := fun hnone hsame => by
    simp [hnone, hsame c hc]
  cases h with
  | direction => exact hother rfl (.of_run (by simp [handle]))
  | release => exact hother rfl (.of_run (by simp [handle]))
  | boundary =>
    refine hother rfl ?_
    simp only [handle]
    split
    · exact forwardBoundary_sameStepCauses s
    · exact .of_run (by simp)
  | keep => exact hother rfl (.of_run (by simp [handle]))
  | latch => exact hother rfl (requestLatch_sameStepCauses _ _ s)
  | fire j => exact hother rfl (fireAction_sameStepCauses _ j s)
  | windowOpen => exact hother rfl (.of_run (by simp [handle]))
  | windowClose => exact hother rfl (handClosing_sameStepCauses _ s)
  | indexMissing => simp [handle, raiseIndexMissing, Handling.cause?, eq_comm]
  | reverse => simp [handle, Handling.cause?, eq_comm]

/-- Where RUN takes no cause, the tracker's causes handed are those of the step's own handlings. -/
theorem acts_stepCause {i : StepInfo} {l : List StepAct} (hl : ∀ a ∈ l, ∃ h, a = .handling h) {c : Cause}
    (hc : c.OfStep) (s : State) :
    c ∈ (l.foldl (StepAct.apply i) s).run.handed ↔
      c ∈ s.run.handed ∨ ∃ h, .handling h ∈ l ∧ h.cause? = some c := by
  induction l generalizing s with
  | nil => simp
  | cons a as ih =>
    obtain ⟨h, rfl⟩ := hl a (by simp)
    rw [List.foldl_cons, ih fun b hb => hl b (by simp [hb])]
    simp only [StepAct.apply, handle_stepCause i s h hc, List.mem_cons, StepAct.handling.injEq]
    constructor
    · rintro ((hs | hh) | ⟨x, hx, hxc⟩)
      · exact .inl hs
      · exact .inr ⟨h, .inl rfl, hh⟩
      · exact .inr ⟨x, .inr hx, hxc⟩
    · rintro (hs | ⟨x, rfl | hx, hxc⟩)
      · exact .inl (.inl hs)
      · exact .inl (.inr hxc)
      · exact .inr ⟨x, hx, hxc⟩

theorem StepActs.only_handlings {order : List Nat} {rest : List Handling} {l : List StepAct}
    (hl : StepActs (.only []) order rest l) (horder : 0 ∉ order) : ∀ a ∈ l, ∃ h, a = .handling h := by
  intro a ha
  cases a with
  | handling h => exact ⟨h, rfl⟩
  | take => exact absurd (hl.take ha) horder
  | drain => exact nomatch hl.drain ha

/-! ### What a step counts (05 R88, R94, R99 to R102) -/

theorem clampTravel_eq (x : Int) : clampTravel x = min 32767 (max (-32767) x) := by
  unfold clampTravel
  split
  · omega
  · split <;> omega

theorem nextPosition_forward {n p : Nat} (h : p < n) : nextPosition n p .forward = (p + 1) % n := by
  simp only [nextPosition]
  split
  · rw [Nat.mod_eq_of_lt ‹_›]
  · have hlast : p + 1 = n := by omega
    rw [hlast, Nat.mod_self]

theorem nextPosition_backward {n p : Nat} (h : p < n) : nextPosition n p .backward = (p + n - 1) % n := by
  simp only [nextPosition]
  split
  · rw [Nat.mod_eq_of_lt (by omega)]
    omega
  · have hsum : p + n - 1 = p - 1 + n := by omega
    rw [hsum, Nat.add_mod_right, Nat.mod_eq_of_lt (by omega)]

theorem wrap_forward_iff {n p : Nat} (h : p < n) : (stepInfo n p .forward).wrap = true ↔ p + 1 = n := by
  by_cases hinside : p + 1 < n
  · simp [stepInfo, nextPosition, hinside]
    omega
  · simp [stepInfo, nextPosition, hinside]
    omega

/-- 05 R88: the four forward steps of the quadrature pair are those in which ENCA leads ENCB. -/
theorem mem_forwardPairs_iff (line : EncLine) (a b : Level) :
    ((a, b), (if line = .encA then flipLevel a else a, if line = .encB then flipLevel b else b)) ∈ forwardPairs ↔
      stepDirection line a b = .forward := by
  cases line <;> cases a <;> cases b <;> decide

theorem missesIndex_iff (n : Nat) (k : Stk) (dir : Direction) :
    missesIndex n k dir = true ↔
      k.homing = .homed ∧ k.indexMissingRaised = false ∧ 2 * k.netTravel.natAbs ≤ 3 * n ∧
        3 * n < 2 * (travelAfter k dir).natAbs := by
  simp [missesIndex, and_assoc]

theorem reversesInRun_iff (run : RunState) (tolerance count : Nat) (dir : Direction) :
    reversesInRun run tolerance count dir = true ↔
      dir = .backward ∧ run = .weaving ∧ count ≤ tolerance ∧ tolerance < reverseAfter run count dir := by
  simp [reversesInRun, and_assoc]

/-- 05 R97: the tracker's own handlings are not among a step's crossings. -/
theorem not_mem_crossingHandlings {i : StepInfo} {h : Handling} (hc : h.cause? ≠ none) : h ∉ crossingHandlings i := by
  intro hm
  unfold crossingHandlings fireList at hm
  cases h with
  | indexMissing => split at hm <;> simp at hm
  | reverse => split at hm <;> simp at hm
  | _ => exact hc rfl

theorem indexMissing_mem_stepHandlings (m : MachineRecord) (run : RunState) (dir : Direction) (k : Stk) :
    .indexMissing ∈ stepHandlings m run dir k ↔ missesIndex m.counts k dir = true := by
  have hcross := not_mem_crossingHandlings (i := stepInfo m.counts k.position dir) (h := .indexMissing) nofun
  simp [stepHandlings, hcross]

theorem reverse_mem_stepHandlings (m : MachineRecord) (run : RunState) (dir : Direction) (k : Stk) :
    .reverse ∈ stepHandlings m run dir k ↔ reversesInRun run m.reverseTolerance k.reverseCount dir = true := by
  have hcross := not_mem_crossingHandlings (i := stepInfo m.counts k.position dir) (h := .reverse) nofun
  simp [stepHandlings, hcross]

/-- A step that crosses nothing and hands no cause is at most a change of direction. -/
theorem stepHandlings_direction {m : MachineRecord} {run : RunState} {dir : Direction} {k : Stk}
    (hhomed : k.homing ≠ .homed) (hrun : run ≠ .weaving ∨ dir = .forward) {h : Handling}
    (hm : h ∈ stepHandlings m run dir k) : h = .direction := by
  have hindex : missesIndex m.counts k dir = false := by simp [missesIndex, hhomed]
  have hreverse : reversesInRun run m.reverseTolerance k.reverseCount dir = false := by
    obtain hrun | rfl := hrun
    · simp [reversesInRun, hrun]
    · rfl
  simp only [stepHandlings, hhomed, hindex, hreverse, if_false, List.append_nil, Bool.false_eq_true] at hm
  split at hm
  · simpa using hm
  · simp at hm

/-! ### The tracker after a step -/

/-- The other fields of the tracker as a line has changed its accepted level (05 R88). -/
@[simp] theorem Stk.lineMoved_rest (line : EncLine) (elapsed : Nat) (l : Level) (k : Stk) :
    (k.lineMoved line elapsed l).encZ = k.encZ ∧ (k.lineMoved line elapsed l).netTravel = k.netTravel ∧
    (k.lineMoved line elapsed l).indexMissingRaised = k.indexMissingRaised ∧
    (k.lineMoved line elapsed l).reverseCount = k.reverseCount ∧
    (k.lineMoved line elapsed l).illegalCount = k.illegalCount ∧
    (k.lineMoved line elapsed l).lastDeviation = k.lastDeviation ∧
    (k.lineMoved line elapsed l).largestDeviation = k.largestDeviation := by
  cases line <;> simp [Stk.lineMoved, Stk.setLine, Stk.elapse]

/-- 05 R88: the line that changes, and the other. -/
theorem Stk.lineMoved_levels {line : EncLine} {k : Stk} {a b l : Level} (ha : k.encA = some a) (hb : k.encB = some b)
    (hl : k.lineLevel line = some l) (elapsed : Nat) :
    (k.lineMoved line elapsed l).encA = some (if line = .encA then flipLevel a else a) ∧
      (k.lineMoved line elapsed l).encB = some (if line = .encB then flipLevel b else b) := by
  cases line with
  | encA =>
    obtain rfl : a = l := Option.some.inj (ha.symm.trans hl)
    simp [Stk.lineMoved, Stk.setLine, Stk.elapse, hb]
  | encB =>
    obtain rfl : b = l := Option.some.inj (hb.symm.trans hl)
    simp [Stk.lineMoved, Stk.setLine, Stk.elapse, ha]

/-- What counting a step makes of each field, the timers apart (05 R88, R90, R94, R101). -/
@[simp] theorem Stk.step_fields (m : MachineRecord) (run : RunState) (dir : Direction) (k : Stk) :
    (k.step m run dir).encA = k.encA ∧ (k.step m run dir).encB = k.encB ∧ (k.step m run dir).encZ = k.encZ ∧
    (k.step m run dir).homing = k.homing ∧ (k.step m run dir).illegalCount = k.illegalCount ∧
    (k.step m run dir).lastDeviation = k.lastDeviation ∧ (k.step m run dir).largestDeviation = k.largestDeviation ∧
    (k.step m run dir).position = nextPosition m.counts k.position dir ∧ (k.step m run dir).direction = dir ∧
    (k.step m run dir).motion = .moving ∧ (k.step m run dir).standstillTimer = some m.standstillMs ∧
    (k.step m run dir).netTravel = travelAfter k dir ∧
    (k.step m run dir).indexMissingRaised = (k.indexMissingRaised || missesIndex m.counts k dir) ∧
    (k.step m run dir).reverseCount = reverseAfter run k.reverseCount dir := by
  simp [Stk.step]

/-- 05 R99: a HOMED forward step over the wrap takes T_rev from a running timer and restarts the timer. -/
theorem Stk.step_times_wrap {m : MachineRecord} {k : Stk} (run : RunState) (hh : k.homing = .homed)
    (hw : (stepInfo m.counts k.position .forward).wrap = true) :
    (k.step m run .forward).revTimer = some 0 ∧
      (k.step m run .forward).revTime =
        (match k.revTimer with | some x => some (min x 16777215) | none => k.revTime) := by
  simp only [Stk.step, Stk.timeStep, hh, hw, maxRevTime]
  cases k.revTimer <;> simp

/-- 05 R99: any other forward step leaves both. -/
theorem Stk.step_times_inside {m : MachineRecord} {k : Stk} (run : RunState)
    (h : ¬(k.homing = .homed ∧ (stepInfo m.counts k.position .forward).wrap = true)) :
    (k.step m run .forward).revTimer = k.revTimer ∧ (k.step m run .forward).revTime = k.revTime := by
  simp [Stk.step, Stk.timeStep, h]

/-! ### The command -/

theorem act_stk (i : StepInfo) (s : State) (a : StepAct) : (StepAct.apply i s a).stk = s.stk := by
  cases a with
  | handling h => simp [StepAct.apply]
  | take => exact takeAt_stk s 0
  | drain => exact drain_stk s

theorem takeCauses_loomEvent (taken : CausesTaken) (s : State) : LoomEvent s (takeCauses taken s) :=
  takeCauses_preserves (LoomEvent s) (fun _ _ h => h.trans (.of_same rfl rfl rfl rfl rfl rfl))
    (fun u c h => h.trans (takeCause_loomEvent u c)) taken s (.refl s)

theorem act_loomEvent (i : StepInfo) (s : State) (a : StepAct) : LoomEvent s (StepAct.apply i s a) := by
  cases a with
  | handling h => exact (handle_handedOn i s h).toLoomEvent
  | take => exact takeCauses_loomEvent (.only [0]) s
  | drain => exact takeCauses_loomEvent .every s

/-- 05 R88, R97: a change of one line is counted as a step, its crossings are taken by acts that take each of its
handlings once, and RUN takes causes. -/
theorem exec_encoderStep {s : State} {m : MachineRecord} {line : EncLine} {a b l : Level} (hready : s.Ready)
    (hm : s.tbm.machine = some m) (ha : s.stk.encA = some a) (hb : s.stk.encB = some b)
    (hl : s.stk.lineLevel line = some l) (elapsed : Nat) (order : List Nat) (taken : CausesTaken) :
    let k := s.stk.lineMoved line elapsed l
    let dir := stepDirection line a b
    ∃ acts, StepActs taken order (stepHandlings m s.run.state dir k) acts ∧
      exec (.encoderStep line elapsed order taken) s =
        .next (kickTransmitter (takeCauses taken
          (acts.foldl (StepAct.apply (stepInfo m.counts s.stk.position dir))
            { s with lineOut := [], stk := k.step m s.run.state dir }))) := by
  intro k dir
  have hchange : lineChange line elapsed order taken { s with lineOut := [] } =
      takeStep m dir order taken { s with lineOut := [], stk := k } := by
    simp only [lineChange, hm, hl, ha, hb]
    rfl
  obtain ⟨acts, hacts, he⟩ := takeStep_acts m dir order taken { s with lineOut := [], stk := k }
  refine ⟨acts, hacts, (causing_high taken _ s hready).trans ?_⟩
  have hposition : k.position = s.stk.position := by simp [k]
  rw [hchange, he, ← hposition]
  rfl

/-- Only the lines, the buffers and the chains differ. -/
def ShedOnly (s t : State) : Prop := t = { s with lineOut := t.lineOut, shb := t.shb, hci := t.hci }

theorem ShedOnly.trans {s t u : State} (h1 : ShedOnly s t) (h2 : ShedOnly t u) : ShedOnly s u :=
  Eq.trans h2 (by rw [h1])

theorem evalTarget_shedOnly (s : State) : ShedOnly s (evalTarget s) := by
  have h := evalTarget_frame s
  cases hs : evalTarget s
  simp_all [ShedOnly]

/-- With no crossing and no cause of the step, and no cause taken, a step's acts are at most a change of direction
(03 R55). -/
theorem acts_shedOnly {i : StepInfo} {order : List Nat} {taken : CausesTaken} {rest : List Handling} {l : List StepAct}
    {s : State} (hl : StepActs taken order rest l) (hrest : ∀ h ∈ rest, h = .direction)
    (hnone : s.run.handed = [] ∨ (taken = .only [] ∧ 0 ∉ order)) :
    ShedOnly s (takeCauses taken (l.foldl (StepAct.apply i) s)) := by
  have hacts : ShedOnly s (l.foldl (StepAct.apply i) s) := by
    refine acts_preserve (P := ShedOnly s) (fun u a ha hu => ?_) rfl
    have hrun : u.run = s.run := by rw [hu]
    cases a with
    | handling h =>
      rw [hrest h ((hl.mem_handling h).mp ha)]
      exact hu.trans (evalTarget_shedOnly u)
    | take =>
      have hno : s.run.handed = [] := hnone.resolve_right fun h => h.2 (hl.take ha)
      have htake : takeAt u 0 = u := by simp [takeAt, hrun, hno]
      rwa [StepAct.apply, htake]
    | drain =>
      have hno : s.run.handed = [] := hnone.resolve_right fun h => nomatch (h.1.symm.trans (hl.drain ha))
      have hdrain : drain u = u := drain_of_none u (by rw [hrun, hno])
      rwa [StepAct.apply, hdrain]
  obtain hno | ⟨rfl, _⟩ := hnone
  · rw [takeCauses_of_none taken _ (by rw [hacts, hno])]
    exact hacts
  · exact hacts

/-- 05 R94: the record of a missed index is posted as the step left the tracker. -/
theorem acts_post_indexMissing {i : StepInfo} {l : List StepAct} {s : State} (hm : .handling .indexMissing ∈ l) :
    Posted (.indexMissing s.stk.position s.stk.netTravel) (l.foldl (StepAct.apply i) s) := by
  refine acts_reach (W := fun u => u.stk = s.stk) hm (fun u a _ hu => (act_stk i u a).trans hu) (fun u hu => ?_)
    (fun u a _ hu => (act_loomEvent i u a).posted _ hu) rfl
  have hpost := post_posted (.indexMissing u.stk.position u.stk.netTravel) u
  rw [hu] at hpost
  simpa [handle, raiseIndexMissing, hu, Posted] using hpost

/-- A step, as it is counted and as its acts are taken, is an event of the loom. -/
theorem acts_loomEvent (s : State) (k : Stk) (i : StepInfo) (acts : List StepAct) :
    LoomEvent s (acts.foldl (StepAct.apply i) { s with lineOut := [], stk := k }) :=
  acts_preserve (P := LoomEvent s) (fun v a _ hv => hv.trans (act_loomEvent i v a)) (.of_same rfl rfl rfl rfl rfl rfl)

/-- The state an encoder step leaves, as its acts and RUN's taking of causes have left it. -/
theorem encoderStep_leaves (s : State) (k : Stk) (i : StepInfo) (acts : List StepAct) (taken : CausesTaken) :
    let t := kickTransmitter (takeCauses taken (acts.foldl (StepAct.apply i) { s with lineOut := [], stk := k }))
    Undisturbed s t ∧ t.stk = k := by
  refine ⟨undisturbed_kick ((acts_loomEvent s k i acts).trans (takeCauses_loomEvent taken _)).undisturbed, ?_⟩
  have hstk : (acts.foldl (StepAct.apply i) { s with lineOut := [], stk := k }).stk = k :=
    acts_preserve (P := fun v => v.stk = k) (fun v a _ hv => (act_stk i v a).trans hv) rfl
  simp [takeCauses_stk, hstk]

theorem ShedOnly.changedOnly_kick {s v : State} {k : Stk} (h : ShedOnly { s with lineOut := [], stk := k } v) :
    ChangedOnly [.lines, .dlp, .shb, .hci, .stk] s (kickTransmitter v) ∧ LinkLeft s.dlp (kickTransmitter v) := by
  rw [ShedOnly] at h
  refine ⟨?_, linkLeft_of (by rw [h])⟩
  rw [h]
  simp [ChangedOnly]

/-- Where RUN takes no cause, the tracker's causes handed as a step ends: INDEX_MISSING where the step misses the index
(05 R94), REVERSE_IN_RUN where it reverses in run (05 R102); the first with its record posted. -/
theorem encoderStep_causes {s : State} {m : MachineRecord} {k' : Stk} {dir : Direction} {order : List Nat}
    {acts : List StepAct} (hacts : StepActs (.only []) order (stepHandlings m s.run.state dir k') acts)
    (horder : 0 ∉ order) (k : Stk) (i : StepInfo) :
    let t := kickTransmitter (takeCauses (.only []) (acts.foldl (StepAct.apply i) { s with lineOut := [], stk := k }))
    (.stop .indexMissing ∈ t.run.handed ↔ .stop .indexMissing ∈ s.run.handed ∨ missesIndex m.counts k' dir = true) ∧
      (.stop .reverseInRun ∈ t.run.handed ↔
        .stop .reverseInRun ∈ s.run.handed ∨ reversesInRun s.run.state m.reverseTolerance k'.reverseCount dir = true) ∧
      (missesIndex m.counts k' dir = true → s.dlp.transmitter ≠ none →
        Posted (.indexMissing k.position k.netTravel) t) := by
  have hcause : ∀ {c : Cause}, c.OfStep → ∀ h : Handling, (∀ x : Handling, x.cause? = some c ↔ x = h) →
      (c ∈ (acts.foldl (StepAct.apply i) { s with lineOut := [], stk := k }).run.handed ↔
        c ∈ s.run.handed ∨ h ∈ stepHandlings m s.run.state dir k') := fun hc h hown => by
    rw [acts_stepCause (hacts.only_handlings horder) hc]
    simp [hown, hacts.mem_handling]
  simp only [kickTransmitter_frame, takeCauses, List.foldl_nil, ← indexMissing_mem_stepHandlings m s.run.state dir k',
    ← reverse_mem_stepHandlings m s.run.state dir k']
  refine ⟨hcause (.inl rfl) .indexMissing ?_, hcause (.inr rfl) .reverse ?_, fun hmiss hbusy => ?_⟩
  · intro x
    cases x <;> simp [Handling.cause?]
  · intro x
    cases x <;> simp [Handling.cause?]
  · exact LoomEvent.posted_kick (acts_loomEvent s k i acts) (.refl _) hbusy
      (acts_post_indexMissing ((hacts.mem_handling _).mpr hmiss))

/-- Settles O28: the counts are those of the tracker's step, which no crossing and no cause changes; the causes handed
are those of the step's own handlings, whatever their order. -/
theorem encoderStepCounts : Obligations.EncoderStepCounts := by
  intro s m line elapsed order taken a b hready hm hpos ha hb a' b' forward
  obtain ⟨l, hl⟩ : ∃ l, s.stk.lineLevel line = some l := by
    cases line
    · exact ⟨a, ha⟩
    · exact ⟨b, hb⟩
  have hforward : forward ↔ stepDirection line a b = .forward := mem_forwardPairs_iff line a b
  clear_value forward
  obtain ⟨acts, hacts, hexec⟩ := exec_encoderStep hready hm ha hb hl elapsed order taken
  obtain ⟨hA, hB⟩ := Stk.lineMoved_levels ha hb hl elapsed
  obtain ⟨hundisturbed, hstk⟩ := encoderStep_leaves s
    ((s.stk.lineMoved line elapsed l).step m s.run.state (stepDirection line a b))
    (stepInfo m.counts s.stk.position (stepDirection line a b)) acts taken
  refine ⟨_, hexec, hundisturbed, ?_⟩
  rw [hstk]
  generalize stepDirection line a b = dir at *
  simp only [Stk.step_fields, Stk.lineMoved_frame, Stk.lineMoved_rest, true_and]
  refine ⟨hA, hB, fun hno => ?_, fun hf => ?_, fun hf => ?_, fun hno hrun hnone => ?_, ?_⟩
  · simp [travelAfter, hno]
  · obtain rfl := hforward.mp hf
    refine ⟨nextPosition_forward hpos, rfl, rfl, fun h => ?_, fun h hlast => ?_, fun hinside => ?_⟩
    · simp [travelAfter, h, clampTravel_eq]
    · obtain ⟨htimer, htime⟩ := Stk.step_times_wrap (k := s.stk.lineMoved line elapsed l) s.run.state (by simp [h])
        (by simpa using (wrap_forward_iff hpos).mpr hlast)
      refine ⟨htimer, htime.trans ?_⟩
      simp only [Stk.lineMoved_frame]
      cases s.stk.revTimer <;> rfl
    · have htimes := Stk.step_times_inside (m := m) (k := s.stk.lineMoved line elapsed l) s.run.state
        (by simpa [wrap_forward_iff hpos] using hinside)
      simpa using htimes
  · obtain rfl : dir = .backward := by
      cases dir with
      | backward => rfl
      | forward => exact absurd (hforward.mpr rfl) hf
    refine ⟨nextPosition_backward hpos, rfl, rfl, rfl, fun h => ?_, ?_⟩
    · simp [travelAfter, h, clampTravel_eq]
    · simp [reverseAfter, satInc, ite_and]
  · have hdirection : ∀ h ∈ stepHandlings m s.run.state dir (s.stk.lineMoved line elapsed l), h = .direction :=
      fun h hm => stepHandlings_direction (by simpa using hno) (hrun.imp_right hforward.mp) hm
    exact ShedOnly.changedOnly_kick (s := s) (k := (s.stk.lineMoved line elapsed l).step m s.run.state dir)
      (acts_shedOnly hacts hdirection hnone)
  · have hmissing := missesIndex_iff m.counts (s.stk.lineMoved line elapsed l) dir
    simp only [Stk.lineMoved_frame, Stk.lineMoved_rest] at hmissing
    have hreverse := reversesInRun_iff s.run.state m.reverseTolerance s.stk.reverseCount dir
    have hbackward : dir = .backward ↔ ¬forward := by
      rw [hforward]
      cases dir <;> simp
    rw [hbackward] at hreverse
    rw [← hmissing, ← hreverse]
    refine ⟨fun h => by simp [h], fun h => by simp [h], fun ht horder => ?_⟩
    subst ht
    obtain ⟨hindex, hrev, hposted⟩ := encoderStep_causes hacts horder
      ((s.stk.lineMoved line elapsed l).step m s.run.state dir) (stepInfo m.counts s.stk.position dir)
    simp only [Stk.lineMoved_rest, Stk.step_fields, Stk.lineMoved_frame] at hindex hrev hposted
    exact ⟨hindex, hrev, hposted⟩

end Sys2Proof.Machine

/-! ## Bad queries and commands, and the sticky flags of the modules -/

namespace Sys2Proof.Machine

/-! ### Bad queries and commands -/

/-- 10 R185: a COMMAND frame that reaches no block is answered with its code echoed. -/
theorem answered_unknownCommand {p : List Byte} {rest : List RxFrame} {s : State} {a : Answer}
    (h : Taking .unknownCommand p rest s)
    (ha : a = { kind := .command, code := p.getD 0 0, result := unknownResult p, data := [] }) :
    Answered .unknownCommand a rest s := by
  subst ha
  exact answered_of h takeUnknownCommand rfl rfl

/-- 04 R84: QUERY MODULES names no chain above 3. -/
theorem takeQueryModules_range {p : List Byte} (h : 3 < byteAt p 2) (s : State) :
    takeQueryModules p s = answerCommand 9 .range [] s :=
  if_neg (Nat.not_le.mpr h)

/-- Settles O24: each frame is answered by its row's effect alone. -/
theorem badQueriesAndCommandsAreAnswered : Obligations.BadQueriesAndCommandsAreAnswered := fun _ _ _ =>
  ⟨fun h => answered_command h (eff := fun _ t => answerCommand 9 .unknown [] t) rfl rfl,
    fun h hchain => answered_command h (eff := takeQueryModules) rfl (takeQueryModules_range hchain _),
    fun h => answered_unknownCommand h rfl,
    fun _ _ h => answered_unknownCommand h rfl⟩

/-! ### CLEAR_MODULE_FLAGS (04 R82) -/

theorem modChains_chain (f : ChainIdx → Chain → Chain) (s : State) (k : ChainIdx) :
    (modChains f s).hci.chains[k] = f k s.hci.chains[k] := by
  simp [modChains]

theorem clearSticky_chain (s : State) (k : ChainIdx) :
    (clearSticky s).hci.chains[k] =
      { s.hci.chains[k] with
        entries := (s.hci.chains[k]).entries.map fun e => { e with sticky := ModuleFlags.clear } } :=
  modChains_chain _ s k

/-- Settles O26: the command's effect is that on the entries, and the answer. -/
theorem clearModuleFlagsClearsSticky : Obligations.ClearModuleFlagsClearsSticky := by
  intro s p rest h
  refine ⟨_, taking_headTaken h fun _ t => answerCommand 11 .ok [] (clearSticky t), ?_, ?_, ?_, fun k => ?_, ?_⟩
  · simp [ChangedOnly, clearSticky]
  · simp [clearSticky, modChains]
  · simp [clearSticky, modChains]
  · simp only [kickTransmitter_frame, answerCommand_frame]
    exact clearSticky_chain (headTaken rest s) k
  · exact linkLeft_of rfl

end Sys2Proof.Machine

/-! ## The end of checking -/

namespace Sys2Proof.Machine

/-! ### The evaluation of the target changes phases of the chains, and drives no strobe -/

/-- From `s` to `t` nothing of the chains changes but their phases, and the strobes driven stay the same. -/
structure PhasesOnly (s t : State) : Prop where
  chain : ∀ k : ChainIdx, t.hci.chains[k] = { s.hci.chains[k] with phase := (t.hci.chains[k]).phase }
  strobes : t.lineOut.filter (fun x => x = .strobe) = s.lineOut.filter (fun x => x = .strobe)

namespace PhasesOnly

theorem of_same {s t : State} (hc : t.hci.chains = s.hci.chains) (hl : t.lineOut = s.lineOut) : PhasesOnly s t :=
  ⟨fun k => by rw [hc], by rw [hl]⟩

theorem refl (s : State) : PhasesOnly s s := of_same rfl rfl

theorem trans {s t u : State} (h1 : PhasesOnly s t) (h2 : PhasesOnly t u) : PhasesOnly s u :=
  ⟨fun k => (h2.chain k).trans (by rw [h1.chain k]), h2.strobes.trans h1.strobes⟩

theorem foldl {β : Type} {f : State → β → State} (h : ∀ s x, PhasesOnly s (f s x)) (l : List β) (s : State) :
    PhasesOnly s (l.foldl f s) :=
  List.foldlRecOn l f (refl s) fun u hu x _ => hu.trans (h u x)

end PhasesOnly

/-- A chain takes a phase, and a mark is driven. -/
theorem markChain_phasesOnly (s : State) (k : ChainIdx) (ph : ChainPhase) (code : Byte) :
    PhasesOnly s (emit (.mark k code) (setChain k { s.hci.chains[k] with phase := ph } s)) := by
  refine ⟨fun j => ?_, by simp⟩
  by_cases hkj : k.val = j.val
  · cases Fin.ext hkj
    simp
  · simp [hkj]

theorem handChain_phasesOnly (o : Ordinal) (s : State) (k : ChainIdx) : PhasesOnly s (handChain o s k) := by
  by_cases h : (s.hci.chains[k]).phase.Shifts o
  · rw [handChain_shifts h]
    exact markChain_phasesOnly s k _ _
  · rw [handChain_of_not_shifts h]
    exact .refl s

theorem abortChain_phasesOnly (s : State) (k : ChainIdx) : PhasesOnly s (abortChain s k) := by
  simp only [abortChain]
  split
  · exact markChain_phasesOnly s k .idle _
  · exact markChain_phasesOnly s k .idle _
  · exact .refl s
  · exact .refl s

theorem abandonedFor_phasesOnly (target : Option Ordinal) (s : State) : PhasesOnly s (abandonedFor target s) :=
  PhasesOnly.trans (t := abandonExpansion { s with shb := { s.shb with target := target } }) (.of_same rfl rfl)
    (.foldl abortChain_phasesOnly _ _)

theorem takeUp_phasesOnly (o : Ordinal) (s : State) : PhasesOnly s (takeUp o s) := by
  unfold takeUp
  split
  · exact .foldl (handChain_phasesOnly o) _ s
  · exact .of_same (by simp) (by simp)

/-- 03 R55: the evaluation of the target changes no chain but in its phase, and drives marks alone. -/
theorem evalTarget_phasesOnly (s : State) : PhasesOnly s (evalTarget s) := by
  obtain he | he | ⟨o, he⟩ := evalTarget_cases s
  · rw [he]
    exact .refl s
  · rw [he]
    exact abandonedFor_phasesOnly none s
  · rw [he]
    exact (abandonedFor_phasesOnly (some o) s).trans (takeUp_phasesOnly o _)

/-! ### The judgement of a module (04 R66, R80, 10 R198) -/

/-- 10 R198: a character is ACK or NAK by bit 7 where its stop bit is high and bits 7 and 6 differ. -/
theorem judgeChar_eq (x : AnswerChar) :
    judgeChar x =
      if x.stopBit = .high ∧ x.byte.getLsbD 7 ≠ x.byte.getLsbD 6 then
        { answer := if x.byte.getLsbD 7 then .ack else .nak, flags := answerFlags x.byte }
      else .silent := by
  unfold judgeChar
  cases x.stopBit with
  | low => rfl
  | high => cases x.byte.getLsbD 7 <;> cases x.byte.getLsbD 6 <;> rfl

/-- 04 R66: the one character in a module's position is judged. -/
theorem judgeModule_one {answers : List AnswerChar} {j : Nat} {x : AnswerChar}
    (h : (answers.filter fun x => x.position = j) = [x]) : judgeModule answers j = judgeChar x := by
  simp only [judgeModule, h]

/-- 04 R66: with no character in its position, or with several, a module is SILENT. -/
theorem judgeModule_other {answers : List AnswerChar} {j : Nat}
    (h : ∀ x, (answers.filter fun x => x.position = j) ≠ [x]) : judgeModule answers j = .silent := by
  unfold judgeModule
  split
  · exact absurd ‹_› (h _)
  · rfl

/-- 04 R80: a judgement is ACK, NAK or SILENT. -/
theorem judgeModule_answer (answers : List AnswerChar) (j : Nat) : (judgeModule answers j).answer ≠ .none := by
  by_cases h : ∃ x, (answers.filter fun x => x.position = j) = [x]
  · obtain ⟨x, hx⟩ := h
    rw [judgeModule_one hx, judgeChar_eq]
    split
    · dsimp only
      split <;> simp
    · simp [Judgement.silent]
  · rw [judgeModule_other (not_exists.mp h)]
    simp [Judgement.silent]

/-- 04 R81: every judgement but ACK is a failure. -/
theorem judgeModule_failed (answers : List AnswerChar) (j : Nat) :
    (judgeModule answers j).failed = decide ((judgeModule answers j).answer ≠ .ack) := by
  have h := judgeModule_answer answers j
  unfold Judgement.failed
  cases ha : (judgeModule answers j).answer <;> simp_all

/-- 04 R80: the counts of an entry after a judgement. -/
theorem update_judgeModule (e : ModuleEntry) (answers : List AnswerChar) (j : Nat) :
    e.update (judgeModule answers j) =
      { lastAnswer := (judgeModule answers j).answer
        lastFlags := (judgeModule answers j).flags
        sticky := e.sticky.union (judgeModule answers j).flags
        consecutive := if (judgeModule answers j).failed then satInc 15 e.consecutive else 0
        total := if (judgeModule answers j).failed then satInc 255 e.total else e.total } := by
  unfold ModuleEntry.update
  rw [judgeModule_failed]
  by_cases ha : (judgeModule answers j).answer = .ack <;> simp [ha]

/-! ### The reports of an end of checking (04 R81, R82, R84) -/

/-- The judgements of the modules of a chain, in module order. -/
def judgements (answers : List AnswerChar) (n : Nat) : List Judgement := (List.range n).map (judgeModule answers)

/-- The modules that fail, in increasing index (04 R81). -/
def failingModules (answers : List AnswerChar) (n : Nat) : List Nat :=
  (List.range n).filter fun j => (judgeModule answers j).failed

theorem judgements_zipIdx (answers : List AnswerChar) (n : Nat) :
    (judgements answers n).zipIdx = (List.range n).map fun j => (judgeModule answers j, j) := by
  apply List.ext_getElem <;> simp [judgements]

/-- Each entry with its module's judgement. -/
theorem zip_judgements (entries : List ModuleEntry) (answers : List AnswerChar) :
    entries.zip (judgements answers entries.length) = entries.zipIdx.map fun x => (x.1, judgeModule answers x.2) := by
  apply List.ext_getElem <;> simp [judgements]

theorem failing_judgements (answers : List AnswerChar) (n : Nat) :
    (((judgements answers n).zipIdx.filter fun x => x.1.failed).map Prod.snd) = failingModules answers n := by
  rw [judgements_zipIdx, List.filter_map, List.map_map]
  exact List.map_id _

theorem judgements_any_failed (answers : List AnswerChar) (n : Nat) :
    (judgements answers n).any Judgement.failed = !(failingModules answers n).isEmpty := by
  rw [Bool.eq_iff_iff]
  simp [judgements, failingModules]

/-- The CHAIN_ERROR of an end of checking, where a check fails (04 R81). -/
def chainErrors (k : ChainIdx) (o : Ordinal) (answers : List AnswerChar) (n : Nat) : List Event :=
  if lengthError answers n || !(failingModules answers n).isEmpty then
    [.chainError k o ((failingModules answers n).headD n)
      ((failingModules answers n).length + (lengthError answers n).toNat)]
  else []

/-- The MODULE_ALARM of a module that gains a sticky flag (04 R82). -/
def alarmOf (k : ChainIdx) (answers : List AnswerChar) (x : ModuleEntry × Nat) : Option Event :=
  let j := judgeModule answers x.2
  let raised := ModuleFlags.newlyRaised x.1.sticky j.flags
  if raised.any then some (.moduleAlarm k x.2 raised j.answer) else none

theorem posts_eq (es : List Event) (s : State) :
    es.foldl (fun t e => post e t) s = { s with dlp := s.dlp.posts es } := by
  induction es generalizing s with
  | nil => rfl
  | cons e es ih => rw [List.foldl_cons, ih, post_eq, Dlp.posts, Dlp.posts, List.foldl_cons]

theorem dlp_posts_append (as bs : List Event) (d : Dlp) : d.posts (as ++ bs) = (d.posts as).posts bs :=
  List.foldl_append

/-- What posting leaves of the link. -/
theorem dlp_posts_frame (es : List Event) (d : Dlp) :
    (d.posts es).receiver = d.receiver ∧ (d.posts es).held = d.held ∧ (d.posts es).answer = d.answer ∧
    (d.posts es).linkErrors = d.linkErrors := by
  induction es generalizing d with
  | nil => exact ⟨rfl, rfl, rfl, rfl⟩
  | cons e es ih =>
    obtain ⟨h1, h2, h3, h4, _⟩ := dlp_post_frame e d
    obtain ⟨hr, hh, ha, hl⟩ := ih (d.post e)
    exact ⟨hr.trans h1, hh.trans h2, ha.trans h3, hl.trans h4⟩

theorem postChainError_eq (k : ChainIdx) (o : Ordinal) (answers : List AnswerChar) (n : Nat) (s : State) :
    postChainError k o (judgements answers n) (lengthError answers n) s =
      { s with dlp := s.dlp.posts (chainErrors k o answers n) } := by
  rw [← posts_eq]
  simp only [postChainError, failing_judgements, chainErrors]
  cases failingModules answers n with
  | nil => cases lengthError answers n <;> simp [judgements]
  | cons f fs => simp

theorem postAlarms_eq (k : ChainIdx) (answers : List AnswerChar) (entries : List ModuleEntry) (s : State) :
    (entries.zip (judgements answers entries.length)).zipIdx.foldl (postAlarm k) s =
      { s with dlp := s.dlp.posts (entries.zipIdx.filterMap (alarmOf k answers)) } := by
  have hlist : (entries.zip (judgements answers entries.length)).zipIdx =
      entries.zipIdx.map fun x => ((x.1, judgeModule answers x.2), x.2) := by
    rw [zip_judgements]
    apply List.ext_getElem <;> simp
  rw [← posts_eq, hlist, List.foldl_map, List.foldl_filterMap]
  refine congrArg (fun f => entries.zipIdx.foldl f s) (funext fun t => funext fun x => ?_)
  simp only [postAlarm, alarmOf]
  split <;> rfl

/-! ### The chain judged -/

/-- The chain as the close of its answer window leaves it (04 R66, R80). -/
def Chain.closed (c : Chain) (o : Ordinal) (answers : List AnswerChar) : Chain :=
  { phase := .ready o (lengthError answers c.entries.length || !(failingModules answers c.entries.length).isEmpty)
    lengthFlag := lengthError answers c.entries.length
    entries := c.entries.zipIdx.map fun x => x.1.update (judgeModule answers x.2) }

theorem judged_judgements (c : Chain) (o : Ordinal) (answers : List AnswerChar) :
    c.judged o (judgements answers c.entries.length) (lengthError answers c.entries.length) = c.closed o answers := by
  simp only [Chain.judged, Chain.closed, zip_judgements, judgements_any_failed, List.map_map]
  rfl

/-- The records of an end of checking: CHAIN_ERROR, then the alarms in increasing module index (log 21). -/
def checkingReports (k : ChainIdx) (o : Ordinal) (answers : List AnswerChar) (entries : List ModuleEntry) :
    List Event :=
  chainErrors k o answers entries.length ++ entries.zipIdx.filterMap (alarmOf k answers)

/-- The state in which the chain is judged and its reports are posted. -/
def checked (k : ChainIdx) (o : Ordinal) (answers : List AnswerChar) (s : State) : State :=
  setChain k ((s.hci.chains[k]).closed o answers)
    { s with dlp := s.dlp.posts (checkingReports k o answers (s.hci.chains[k]).entries) }

/-- 04 R66: the close of the answer window of a CHECKING chain. -/
theorem closeChecking_checking {s : State} {k : ChainIdx} {o : Ordinal} {answers : List AnswerChar}
    (h : (s.hci.chains[k]).phase = .checking o answers) :
    closeChecking k s = evalTarget (latchIfDue (applyChainFault k (checked k o answers s))) := by
  have hjudged := judged_judgements s.hci.chains[k] o answers
  have herror := postChainError_eq k o answers (s.hci.chains[k]).entries.length
  have halarms := postAlarms_eq k answers (s.hci.chains[k]).entries
  simp only [judgements] at hjudged herror halarms
  simp only [closeChecking, h, hjudged, herror, halarms, checked, checkingReports, dlp_posts_append]
  rfl

/-! ### The chain fault mode (04 R83) -/

/-- The module has come to the limit of consecutive errors. -/
def FaultyAt (entries : List ModuleEntry) (limit j : Nat) : Prop := ∃ e, entries[j]? = some e ∧ limit ≤ e.consecutive

theorem faultyModule_some {limit j : Nat} {entries : List ModuleEntry} :
    faultyModule limit entries = some j ↔ FaultyAt entries limit j ∧ ∀ i < j, ¬FaultyAt entries limit i := by
  unfold faultyModule FaultyAt
  rw [findIndex_some]
  simp only [Nat.zero_add, decide_eq_true_eq, decide_eq_false_iff_not]
  constructor
  · rintro ⟨_, e, rfl, he, hle, hlow⟩
    exact ⟨⟨e, he, hle⟩, fun i hi ⟨x, hx, hxle⟩ => hlow i hi x hx hxle⟩
  · rintro ⟨⟨e, he, hle⟩, hlow⟩
    exact ⟨j, e, rfl, he, hle, fun i hi x hx hxle => hlow i hi ⟨x, hx, hxle⟩⟩

theorem faultyModule_none {limit : Nat} {entries : List ModuleEntry} (h : ∀ j, ¬FaultyAt entries limit j) :
    faultyModule limit entries = none :=
  Option.eq_none_iff_forall_ne_some.mpr fun j hj => h j (faultyModule_some.mp hj).1

/-- In mode REPORT no cause is handed. -/
theorem applyChainFault_report {s : State} {m : MachineRecord} (hm : s.tbm.machine = some m)
    (hmode : m.chainMode = .report) (k : ChainIdx) : applyChainFault k s = s := by
  simp [applyChainFault, hm, hmode]

/-- In mode STOP-after-K the lowest faulty module hands CHAIN_FAULT, if there is one. -/
theorem applyChainFault_stopAfter {s : State} {m : MachineRecord} (hm : s.tbm.machine = some m) {limit : Nat}
    (hmode : m.chainMode = .stopAfter limit) (k : ChainIdx) :
    (∀ j, FaultyAt (s.hci.chains[k]).entries limit j → (∀ i < j, ¬FaultyAt (s.hci.chains[k]).entries limit i) →
      applyChainFault k s = hand (.stop (.chainFault k j)) s) ∧
    ((∀ j, ¬FaultyAt (s.hci.chains[k]).entries limit j) → applyChainFault k s = s) := by
  refine ⟨fun j hj hlow => ?_, fun hno => ?_⟩
  · simp only [applyChainFault, hm, hmode, faultyModule_some.mpr ⟨hj, hlow⟩]
  · simp only [applyChainFault, hm, hmode, faultyModule_none hno]

theorem applyChainFault_cases (k : ChainIdx) (s : State) :
    applyChainFault k s = s ∨ ∃ c, applyChainFault k s = hand c s := by
  unfold applyChainFault
  repeat' split
  · exact .inl rfl
  · exact .inl rfl
  · exact .inl rfl
  · exact .inr ⟨_, rfl⟩

end Sys2Proof.Machine

namespace Sys2Proof.Machine

/-! ### END_OF_CHECKING -/

/-- The state in which a chain is judged and its chain fault handed, before the latch is tested. -/
def checkingJudged (k : ChainIdx) (o : Ordinal) (answers : List AnswerChar) (s : State) : State :=
  applyChainFault k (checked k o answers { s with lineOut := [] })

@[simp] theorem checked_frame (k : ChainIdx) (o : Ordinal) (answers : List AnswerChar) (s : State) :
    (checked k o answers s).pending = s.pending ∧ (checked k o answers s).resetLine = s.resetLine ∧
    (checked k o answers s).lineOut = s.lineOut ∧ (checked k o answers s).tbm = s.tbm ∧
    (checked k o answers s).psq = s.psq ∧ (checked k o answers s).shb = s.shb ∧
    (checked k o answers s).hci =
      { s.hci with chains := s.hci.chains.set k.val ((s.hci.chains[k]).closed o answers) } ∧
    (checked k o answers s).stk = s.stk ∧ (checked k o answers s).asc = s.asc ∧ (checked k o answers s).wfm = s.wfm ∧
    (checked k o answers s).drv = s.drv ∧ (checked k o answers s).run = s.run ∧
    (checked k o answers s).dlp = s.dlp.posts (checkingReports k o answers (s.hci.chains[k]).entries) :=
  ⟨rfl, rfl, rfl, rfl, rfl, rfl, rfl, rfl, rfl, rfl, rfl, rfl, rfl⟩

theorem checkingJudged_cases (k : ChainIdx) (o : Ordinal) (answers : List AnswerChar) (s : State) :
    checkingJudged k o answers s = checked k o answers { s with lineOut := [] } ∨
      ∃ c, checkingJudged k o answers s = hand c (checked k o answers { s with lineOut := [] }) :=
  applyChainFault_cases k _

/-- What the judgement leaves of every block but the causes handed. -/
@[simp] theorem checkingJudged_frame (k : ChainIdx) (o : Ordinal) (answers : List AnswerChar) (s : State) :
    (checkingJudged k o answers s).pending = s.pending ∧ (checkingJudged k o answers s).resetLine = s.resetLine ∧
    (checkingJudged k o answers s).lineOut = [] ∧ (checkingJudged k o answers s).tbm = s.tbm ∧
    (checkingJudged k o answers s).psq = s.psq ∧ (checkingJudged k o answers s).shb = s.shb ∧
    (checkingJudged k o answers s).hci =
      { s.hci with chains := s.hci.chains.set k.val ((s.hci.chains[k]).closed o answers) } ∧
    (checkingJudged k o answers s).stk = s.stk ∧ (checkingJudged k o answers s).asc = s.asc ∧
    (checkingJudged k o answers s).wfm = s.wfm ∧
    (checkingJudged k o answers s).drv = s.drv ∧
    (checkingJudged k o answers s).dlp = s.dlp.posts (checkingReports k o answers (s.hci.chains[k]).entries) ∧
    (checkingJudged k o answers s).run.state = s.run.state := by
  obtain h | ⟨c, h⟩ := checkingJudged_cases k o answers s
  · rw [h]
    simp
  · rw [h]
    simp

/-- The causes handed by the end of checking, by the chain fault mode (04 R83). -/
theorem checkingJudged_run {s : State} {m : MachineRecord} (hm : s.tbm.machine = some m) (k : ChainIdx) (o : Ordinal)
    (answers : List AnswerChar) :
    let entries := ((s.hci.chains[k]).closed o answers).entries
    (m.chainMode = .report → (checkingJudged k o answers s).run = s.run) ∧
    ∀ limit, m.chainMode = .stopAfter limit →
      (∀ j, FaultyAt entries limit j → (∀ i < j, ¬FaultyAt entries limit i) →
        (checkingJudged k o answers s).run = { s.run with handed := s.run.handed ++ [.stop (.chainFault k j)] }) ∧
      ((∀ j, ¬FaultyAt entries limit j) → (checkingJudged k o answers s).run = s.run) := by
  intro entries
  let u := checked k o answers { s with lineOut := [] }
  have hu : u.tbm.machine = some m := hm
  have hentries : (u.hci.chains[k]).entries = entries := by simp [u, entries]
  have hrun : ∀ {v}, applyChainFault k u = v → (checkingJudged k o answers s).run = v.run := congrArg State.run
  refine ⟨fun hmode => hrun (v := u) (applyChainFault_report hu hmode k), fun limit hmode => ?_⟩
  have hstop := applyChainFault_stopAfter hu hmode k
  rw [hentries] at hstop
  exact ⟨fun j hj hlow => hrun (hstop.1 j hj hlow), fun hno => hrun (v := u) (hstop.2 hno)⟩

/-- The state END_OF_CHECKING leaves before RUN takes causes: the latch is tested and the target evaluated. -/
def checkingClosed (k : ChainIdx) (o : Ordinal) (answers : List AnswerChar) (s : State) : State :=
  evalTarget (latchIfDue (checkingJudged k o answers s))

@[simp] theorem checkingClosed_frame (k : ChainIdx) (o : Ordinal) (answers : List AnswerChar) (s : State) :
    (checkingClosed k o answers s).pending = s.pending ∧ (checkingClosed k o answers s).resetLine = s.resetLine ∧
    (checkingClosed k o answers s).tbm = s.tbm ∧ (checkingClosed k o answers s).psq = s.psq ∧
    (checkingClosed k o answers s).stk = s.stk ∧ (checkingClosed k o answers s).asc = s.asc ∧
    (checkingClosed k o answers s).wfm = s.wfm ∧ (checkingClosed k o answers s).drv = s.drv ∧
    (checkingClosed k o answers s).dlp = s.dlp.posts (checkingReports k o answers (s.hci.chains[k]).entries) ∧
    (checkingClosed k o answers s).run = (checkingJudged k o answers s).run := by
  simp [checkingClosed]

theorem checkingClosed_undisturbed (k : ChainIdx) (o : Ordinal) (answers : List AnswerChar) (s : State) :
    Undisturbed s (checkingClosed k o answers s) := by
  simp only [Undisturbed, checkingClosed_frame, true_and, and_true]
  exact dlp_posts_frame _ _

theorem exec_endOfChecking {s : State} {k : ChainIdx} {o : Ordinal} {answers : List AnswerChar} (hready : s.Ready)
    (h : (s.hci.chains[k]).phase = .checking o answers) (taken : CausesTaken) :
    exec (.endOfChecking k taken) s = .next (kickTransmitter (takeCauses taken (checkingClosed k o answers s))) :=
  (causing_high taken _ s hready).trans (by rw [closeChecking_checking (s := { s with lineOut := [] }) h]; rfl)

/-- What testing the latch leaves of the chains (04 R77). -/
theorem latchIfDue_chains (s : State) : (latchIfDue s).hci.chains = s.hci.chains := by
  obtain h | ⟨_, o, h⟩ := latchIfDue_cases s <;> rw [h]
  rfl

theorem checkingClosed_chain (k : ChainIdx) (o : Ordinal) (answers : List AnswerChar) (s : State) :
    ((checkingClosed k o answers s).hci.chains[k]).entries = ((s.hci.chains[k]).closed o answers).entries ∧
      ((checkingClosed k o answers s).hci.chains[k]).lengthFlag = ((s.hci.chains[k]).closed o answers).lengthFlag := by
  have h := (evalTarget_phasesOnly (latchIfDue (checkingJudged k o answers s))).chain k
  rw [checkingClosed, h, latchIfDue_chains]
  simp

/-- Outside STOPPED no latch is due, and a target in force stays in force (03 R55, 04 R77). -/
theorem checkingClosed_running {s : State} (hrun : s.run.state ≠ .stopped) (k : ChainIdx) (o : Ordinal)
    (answers : List AnswerChar) :
    checkingClosed k o answers s = evalTarget (checkingJudged k o answers s) ∧
      (s.shb.target = s.newTarget → checkingClosed k o answers s = checkingJudged k o answers s) := by
  have hlatch : latchIfDue (checkingJudged k o answers s) = checkingJudged k o answers s :=
    latchIfDue_running _ (by simpa using hrun)
  have htarget : (checkingJudged k o answers s).newTarget = s.newTarget := by apply newTarget_congr <;> simp
  rw [checkingClosed, hlatch]
  exact ⟨rfl, fun h => evalTarget_same _ (by simp [htarget, h])⟩

/-- 04 R71: every chain with modules is READY with the ordinal. -/
theorem allReady_iff (s : State) (o : Ordinal) :
    s.allReady o = true ↔ ∀ k ∈ s.usedChains, (s.hci.chains[k]).phase.readyWith o = true := by
  simp [State.allReady]

theorem usedChains_congr {s t : State} (h : t.tbm = s.tbm) : t.usedChains = s.usedChains := by
  unfold State.usedChains State.modulesOn
  rw [h]

/-- 04 R77: a latch that is due fires where the chain judged was the last. -/
theorem checkingClosed_latches {s : State} (hrun : s.run.state = .stopped) {k : ChainIdx} {o : Ordinal}
    (hreq : s.hci.required = some o) (htag : s.tagNames o = false)
    (hothers : ∀ j ∈ s.usedChains, j ≠ k → (s.hci.chains[j]).phase.readyWith o = true) (answers : List AnswerChar) :
    (checkingClosed k o answers s).hci.tag.ordinal = some o ∧ (checkingClosed k o answers s).hci.tag.stale = false ∧
      LineItem.strobe ∈ (checkingClosed k o answers s).lineOut := by
  have hready : (checkingJudged k o answers s).allReady o = true := by
    rw [allReady_iff, usedChains_congr (s := s) (by simp)]
    intro j hj
    by_cases hjk : j = k
    · subst hjk
      simp [Chain.closed, ChainPhase.readyWith]
    · have hval : k.val ≠ j.val := fun h => hjk (Fin.ext h.symm)
      simpa [hval] using hothers j hj hjk
  have htag' : (checkingJudged k o answers s).tagNames o = false := by simpa [State.tagNames] using htag
  have hreq' : (checkingJudged k o answers s).hci.required = some o := by simpa using hreq
  have hfire : latchIfDue (checkingJudged k o answers s) = fireLatch o (checkingJudged k o answers s) := by
    simp only [latchIfDue, hreq']
    exact if_pos ⟨by simpa using hrun, htag', hready⟩
  rw [checkingClosed, hfire, (evalTarget_tag _).1]
  exact ⟨rfl, rfl, (evalTarget_noNewImage _).lines.subset (by simp [fireLatch])⟩

/-- Where CHAIN_FAULT is taken in WEAVING while the shaft moves, the loom stops (09 R167). -/
theorem drain_checkingClosed {s : State} {m : MachineRecord} (hm : s.tbm.machine = some m) {k : ChainIdx} {o : Ordinal}
    {answers : List AnswerChar} {limit j : Nat} (hmode : m.chainMode = .stopAfter limit)
    (hj : FaultyAt ((s.hci.chains[k]).closed o answers).entries limit j)
    (hlow : ∀ i < j, ¬FaultyAt ((s.hci.chains[k]).closed o answers).entries limit i) (hquiet : s.run.handed = [])
    (hrun : s.run.state = .weaving) (hmoving : s.stk.motion = .moving) :
    (drain (checkingClosed k o answers s)).run =
        { s.run with state := .stopping, permit := false, firstStop := some (.chainFault k j) } ∧
      (drain (checkingClosed k o answers s)).dlp =
        (s.dlp.posts (checkingReports k o answers (s.hci.chains[k]).entries)).post
          (.runState .stopping .weaving (some (.chainFault k j)) s.run.haltCause none) := by
  have hhanded : (checkingJudged k o answers s).run = { s.run with handed := [.stop (.chainFault k j)] } := by
    simpa [hquiet] using ((checkingJudged_run hm k o answers).2 limit hmode).1 j hj hlow
  rw [drain_of_one _ (.stop (.chainFault k j)) (by simp [hhanded]), takeCause, takeStop_moving]
  · simp [hhanded, hquiet, hrun]
  · simpa [hhanded] using hrun
  · simpa using hmoving

theorem flags_any_false {f : ModuleFlags} : f.any = false ↔ f = ⟨false, false, false⟩ := by
  obtain ⟨low, hot, open'⟩ := f
  simp [ModuleFlags.any, and_assoc]

end Sys2Proof.Machine

namespace Sys2Proof.Machine

/-- Settles O43: the verdicts are the model's judgements, so that the entries, the records and the cause handed are
those of `checkingJudged`; the latch is tested and the target evaluated on what it leaves. -/
theorem endOfCheckingJudges : Obligations.EndOfCheckingJudges := by
  intro s m k o answers c n silent verdict fails failing tooLong failed updated errors alarm reports faulty hready hm
    hphase
  have hverdict : ∀ j, verdict j = ((judgeModule answers j).answer, (judgeModule answers j).flags) := by
    intro j
    simp only [verdict, silent]
    split
    · rename_i x hx
      rw [judgeModule_one hx, judgeChar_eq]
      split <;> rfl
    · rename_i hno
      rw [judgeModule_other hno]
      rfl
  have hfails : fails = fun j => (judgeModule answers j).failed := by
    funext j
    simp [fails, hverdict, judgeModule_failed]
  have hupdated : updated = fun e j => e.update (judgeModule answers j) := by
    funext e j
    simp only [updated, hverdict, hfails, update_judgeModule]
    rfl
  have halarm : alarm = alarmOf k answers := by
    funext x
    simp only [alarm, alarmOf, hverdict, ← flags_any_false, ModuleFlags.newlyRaised,
      ← Bool.not_eq_false, ite_not]
  have hfailing : failing = failingModules answers n := by simp only [failing, hfails, failingModules]
  have hentries : (c.closed o answers).entries = c.entries.zipIdx.map fun x => updated x.1 x.2 := by
    simp only [Chain.closed, hupdated]
  have hphaseLeft : (c.closed o answers).phase = .ready o failed := by
    simp only [Chain.closed, failed, hfailing]
    rfl
  have hreports : reports = s.dlp.posts (checkingReports k o answers c.entries) := by
    simp only [reports, errors, failed, halarm, hfailing]
    rfl
  have hfaulty : ∀ limit j, faulty limit j ↔ FaultyAt (c.closed o answers).entries limit j := by
    intro limit j
    simp [faulty, FaultyAt, hentries]
  clear_value reports
  subst hreports
  simp only [hfaulty, ← hentries]
  obtain ⟨hreport, hstop⟩ := checkingJudged_run hm k o answers
  have hleft : ∀ taken, exec (.endOfChecking k taken) s =
      .next (kickTransmitter (takeCauses taken (checkingClosed k o answers s))) := exec_endOfChecking hready hphase
  have hlink : (checkingClosed k o answers s).dlp = s.dlp.posts (checkingReports k o answers c.entries) := by simp [c]
  refine ⟨⟨_, hleft (.only []), ?_⟩, fun limit j hmode hj hlow hquiet hweaving hmoving => ⟨_, hleft .every, ?_⟩⟩
  · rw [takeCauses_none]
    refine ⟨undisturbed_kick (checkingClosed_undisturbed k o answers s), by simp [ChangedOnly], linkLeft_of hlink, ?_⟩
    simp only [kickTransmitter_frame, checkingClosed_frame]
    refine ⟨(checkingClosed_chain k o answers s).1, (checkingClosed_chain k o answers s).2, hreport,
      fun limit j hmode hj hlow => (hstop limit hmode).1 j hj hlow, fun limit hmode hno => (hstop limit hmode).2 hno,
      fun hrun => ?_, fun hrun htarget => ?_,
      fun hrun hreq htag _ hothers => checkingClosed_latches hrun hreq htag hothers answers⟩
    · simp [(checkingClosed_running hrun k o answers).1]
    · rw [(checkingClosed_running hrun k o answers).2 htarget]
      simp [ChangedOnly, ← hphaseLeft, c]
  · obtain ⟨hrunLeft, hdlpLeft⟩ := drain_checkingClosed hm hmode hj hlow hquiet hweaving hmoving
    refine ⟨?_, linkLeft_of hdlpLeft⟩
    rw [← hrunLeft]
    simp [takeCauses]

end Sys2Proof.Machine

/-! ## No strobe is driven in OFFLINE and HALTED -/

namespace Sys2Proof.Machine

/-- The run is in OFFLINE or HALTED, and HLS has not been strobed. -/
structure Unstruck (s : State) : Prop where
  still : s.run.state = .offline ∨ s.run.state = .halted
  lines : LineItem.strobe ∉ s.lineOut

namespace Unstruck

variable {s t : State}

theorem congr (h : Unstruck s) (hrun : t.run.state = s.run.state) (hlines : t.lineOut = s.lineOut) : Unstruck t :=
  ⟨hrun ▸ h.still, hlines ▸ h.lines⟩

theorem linked (h : Unstruck s) (hlink : LinkOnly s t) : Unstruck t := by
  obtain ⟨_, rfl⟩ := hlink
  exact h.congr rfl rfl

theorem handed (h : Unstruck s) (ht : HandedOn s t) (hlines : t.lineOut = s.lineOut) : Unstruck t :=
  h.congr ht.state hlines

/-- What makes no image drives no strobe. -/
theorem imageless (h : Unstruck s) (ht : NoNewImage s t) (hrun : t.run = s.run) : Unstruck t :=
  ⟨hrun ▸ h.still, fun hm => h.lines (ht.strobe hm)⟩

theorem not_stopped (h : Unstruck s) : s.run.state ≠ .stopped := by
  rcases h.still with hs | hs <;> simp [hs]

theorem not_weaving (h : Unstruck s) : s.run.state ≠ .weaving := by
  rcases h.still with hs | hs <;> simp [hs]

theorem not_stopping (h : Unstruck s) : s.run.state ≠ .stopping := by
  rcases h.still with hs | hs <;> simp [hs]

end Unstruck

/-! ### Commands that drive no line -/

theorem onDriving_lineOut (dc : DriverIdx) (f : DriverChannel → DriverSettings → DriverChannel) (s : State) :
    (onDriving dc f s).lineOut = s.lineOut := by
  simp only [onDriving]
  repeat' split
  all_goals rfl

theorem endTest_lineOut (n : Nat) (s : State) : (endTest n s).lineOut = s.lineOut := by
  unfold endTest
  split
  · rfl
  · simp

theorem takeOffstateTest_lineOut (p : List Byte) (s : State) : (takeOffstateTest p s).lineOut = s.lineOut := by
  simp only [takeOffstateTest]
  repeat' split
  all_goals rfl

theorem peakLimitEnds_lineOut (dc : DriverIdx) (s : State) : (peakLimitEnds dc s).lineOut = s.lineOut := by
  simp only [peakLimitEnds]
  split <;> simp

theorem deglitchEnds_lineOut (dc : DriverIdx) (s : State) : (deglitchEnds dc s).lineOut = s.lineOut := by
  simp only [deglitchEnds]
  split <;> simp

theorem acquireSensor_lineOut (x : Sensor) (l : Level) (s : State) : (acquireSensor x l s).lineOut = s.lineOut := by
  unfold acquireSensor
  repeat' split
  all_goals simp

theorem arvRises_lineOut (s : State) : (arvRises s).lineOut = s.lineOut := by
  unfold arvRises takeRise
  repeat' split
  all_goals simp

theorem arvFalls_lineOut (s : State) : (arvFalls s).lineOut = s.lineOut := by
  unfold arvFalls
  split <;> rfl

theorem feederBreaks_lineOut (f : FeederIdx) (s : State) : (feederBreaks f s).lineOut = s.lineOut := by
  unfold feederBreaks
  split <;> simp

theorem feederClears_lineOut (f : FeederIdx) (s : State) : (feederClears f s).lineOut = s.lineOut := by
  unfold feederClears
  split <;> rfl

theorem acquireLevel_unstruck (input : EncInput) (l : Level) {s : State} (h : Unstruck s) :
    Unstruck (acquireLevel input l s) := by
  unfold acquireLevel
  split
  · exact h.congr rfl rfl
  · exact h

theorem illegalChange_unstruck {s : State} (h : Unstruck s) : Unstruck (illegalChange s) := by
  unfold illegalChange
  split
  · exact h.congr (by simp) (by simp)
  · exact h

theorem indexFall_unstruck {s : State} (h : Unstruck s) : Unstruck (indexFall s) := by
  unfold indexFall
  split
  · exact h.congr rfl rfl
  · exact h

/-! ### The evaluations of the shed -/

theorem evalTarget_unstruck {s : State} (h : Unstruck s) : Unstruck (evalTarget s) :=
  h.imageless (evalTarget_noNewImage s) (by simp)

/-- 04 R77: a latch falls due in STOPPED alone. -/
theorem latchIfDue_unstruck {s : State} (h : Unstruck s) : Unstruck (latchIfDue s) := by
  rw [latchIfDue_running s h.not_stopped]
  exact h

theorem settle_unstruck {s : State} (h : Unstruck s) : Unstruck (settle s) :=
  ⟨by simpa using h.still, settle_no_strobe s h.not_stopped h.lines⟩

/-! ### Causes -/

/-- 09 R168, R171: in OFFLINE and HALTED a cause changes no state. -/
theorem takeCause_unstruck (s : State) (c : Cause) (h : Unstruck s) : Unstruck (takeCause s c) := by
  have hlater : ∀ c, Unstruck (laterCause c s) := fun c => h.congr (by simp [laterCause]) (by simp)
  cases c with
  | stop c =>
    simp only [takeCause, takeStop, if_neg h.not_weaving]
    exact hlater _
  | halt c =>
    rcases h.still with hs | hs
    · simp only [takeCause, takeHalt, hs]
      exact hlater _
    · simp only [takeCause, takeHalt, hs]
      exact hlater _

theorem takeCauses_unstruck (taken : CausesTaken) {s : State} (h : Unstruck s) : Unstruck (takeCauses taken s) :=
  takeCauses_preserves Unstruck (fun _ _ hu => hu.congr rfl rfl) takeCause_unstruck taken s h

/-! ### A step of the shaft -/

theorem forwardBoundary_unstruck {s : State} (h : Unstruck s) : Unstruck (forwardBoundary s) := by
  have hhanded := forwardSnapshot_handedOn
  unfold forwardBoundary
  repeat' split
  · exact h.handed ((withPsq_handedOn _ s).trans (hhanded _)) (by simp)
  · exact settle_unstruck (h.handed ((promotedAt_handedOn s).trans (armPromoted_handedOn _)) (by simp))
  · exact h.handed ((withPsq_handedOn _ s).trans (hhanded _)) (by simp [dwell])

theorem backwardBoundary_unstruck {s : State} (h : Unstruck s) : Unstruck (backwardBoundary s) := by
  have hdisarmed : HandedOn s (disarmedAt s) := (disarmBackward_handedOn s).trans
    ((makeSnapshot_handedOn .backward (fun _ => 0) _).trans (modCurrent_handedOn PickRecord.disarmed _))
  cases hlast : s.psq.history.getLast? with
  | some newest =>
    rw [backwardBoundary_unwinds hlast]
    exact settle_unstruck (h.handed (hdisarmed.trans (unwind_handedOn newest _)) (by simp [disarmedAt]))
  | none =>
    exact h.handed (backwardBoundary_handedOn s) (by
      rw [backwardBoundary_fallsBehind (List.getLast?_eq_none_iff.mp hlast)]
      simp [disarmedAt, depthRaised])

/-- 04 R76: outside STOPPED a crossing evaluates no required pick. -/
theorem keepShed_running (c : StepInfo) {s : State} (h : s.run.state ≠ .stopped) : keepShed c s = s := by
  simp only [keepShed, h, false_and, if_false]
  split <;> rfl

/-- 04 R71: outside WEAVING and STOPPING a crossing requests no latch. -/
theorem requestLatch_unasked (crosses : Nat → Bool) (dir : Direction) {s : State} (hw : s.run.state ≠ .weaving)
    (hs : s.run.state ≠ .stopping) : requestLatch crosses dir s = s := by
  simp only [requestLatch, hw, hs, or_self, false_and, if_false]
  split <;> rfl

/-- 04 R71, R76: in OFFLINE and HALTED a crossing neither requests a latch nor evaluates the required pick. -/
theorem handle_unstruck (c : StepInfo) (s : State) (x : Handling) (h : Unstruck s) : Unstruck (handle c s x) := by
  cases x with
  | direction => exact evalTarget_unstruck h
  | boundary =>
    simp only [handle]
    split
    · exact forwardBoundary_unstruck h
    · exact backwardBoundary_unstruck h
  | keep => rwa [handle, keepShed_running c h.not_stopped]
  | latch => rwa [handle, requestLatch_unasked _ _ h.not_weaving h.not_stopping]
  | _ => exact h.handed (handle_handedOn c s _) (by simp [handle])

theorem takeStep_unstruck (m : MachineRecord) (dir : Direction) (order : List Nat) (taken : CausesTaken) {s : State}
    (h : Unstruck s) : Unstruck (takeStep m dir order taken s) :=
  runOrder_preserves Unstruck (stepInfo m.counts s.stk.position dir) (handle_unstruck _)
    (fun _ place hu => takeCauses_unstruck (.only [place]) hu) (fun _ hu => takeCauses_unstruck .every hu) taken order
    _ _ (h.congr rfl rfl)

theorem lineChange_unstruck (line : EncLine) (elapsed : Nat) (order : List Nat) (taken : CausesTaken) {s : State}
    (h : Unstruck s) : Unstruck (lineChange line elapsed order taken s) := by
  obtain he | ⟨m, l, _, he | ⟨dir, he⟩⟩ := lineChange_cases line elapsed order taken s
  · rw [he]
    exact h
  · rw [he]
    exact h.congr rfl rfl
  · rw [he]
    exact takeStep_unstruck m dir order taken (s := lineChanged line elapsed l s) (h.congr rfl rfl)

/-! ### The index and the standstill -/

theorem indexRise_unstruck {s : State} (h : Unstruck s) : Unstruck (indexRise s) := by
  have hfails : ∀ (m : MachineRecord) (d : Int) {u : State}, Unstruck u → Unstruck (indexFails m d u) :=
    fun m d u hu =>
      (settle_unstruck (s := dropRevTime { u with stk := { u.stk with homing := .unhomed } }) (hu.congr rfl rfl)).handed
        ((post_handedOn _ _).trans (hand_handedOn _ _)) (by simp [indexFails])
  unfold indexRise takeIndex
  dsimp only
  repeat' split
  · exact h.congr rfl rfl
  · exact settle_unstruck (h.congr (by simp) (by simp))
  · exact h.congr rfl rfl
  · exact hfails _ _ (h.congr rfl rfl)
  · exact h

/-- 09 R169: the standstill ends STOPPING alone. -/
theorem declareStandstill_unstruck {s : State} (h : Unstruck s) : Unstruck (declareStandstill s) := by
  simp only [declareStandstill, if_neg h.not_stopping]
  split
  · exact h.congr rfl rfl
  · exact h

/-! ### The chains and the expansion -/

theorem completeExpansion_unstruck {s : State} (h : Unstruck s) : Unstruck (completeExpansion s) := by
  have hover : ∀ (o : Ordinal) (i : BufferIdx) (b : Buffer), Unstruck (handOver o (setBuffer i b s)) := fun o i b =>
    (h.congr (t := setBuffer i b s) (by simp) (by simp)).imageless (.foldl (handChain_noNewImage o) _ _) (by simp)
  unfold completeExpansion
  repeat' split
  · exact hover _ _ _
  · exact hover _ _ _
  · exact h

/-- 04 R63: what is shifted is segments, and no strobe. -/
theorem strobe_not_mem_chainSegments (s : State) (k : ChainIdx) (o : Ordinal) :
    LineItem.strobe ∉ s.chainSegments k o := by
  unfold State.chainSegments
  split <;> simp

theorem sendCheckCall_unstruck (k : ChainIdx) {s : State} (h : Unstruck s) : Unstruck (sendCheckCall k s) := by
  cases hphase : (s.hci.chains[k]).phase with
  | shifting o =>
    rw [sendCheckCall_shifting hphase]
    exact ⟨h.still, by simp [h.lines, strobe_not_mem_chainSegments]⟩
  | _ => simpa only [sendCheckCall, hphase] using h

theorem collectAnswer_unstruck (k : ChainIdx) (x : AnswerChar) {s : State} (h : Unstruck s) :
    Unstruck (collectAnswer k x s) := by
  simp only [collectAnswer]
  split
  · exact h.congr rfl rfl
  · exact h
  · exact h
  · exact h

theorem closeChecking_unstruck (k : ChainIdx) {s : State} (h : Unstruck s) : Unstruck (closeChecking k s) := by
  cases hphase : (s.hci.chains[k]).phase with
  | checking o answers =>
    have hchecked : Unstruck (checked k o answers s) := h.congr (by simp) (by simp)
    rw [closeChecking_checking hphase]
    refine evalTarget_unstruck (latchIfDue_unstruck ?_)
    obtain he | ⟨c, he⟩ := applyChainFault_cases k (checked k o answers s)
    · rwa [he]
    · rw [he]
      exact hchecked.congr rfl rfl
  | _ => simpa only [closeChecking, hphase] using h

/-! ### The frames taken -/

/-- 10 R181: where the frame cannot be taken nothing happens; where it can the row's effect is had. -/
theorem takeFrame_preserves {P Q : State → Prop} {eff : List Byte → State → State}
    (hheld : ∀ s l, P s → P { s with dlp := { s.dlp with held := l } }) (hQ : ∀ s, P s → Q s)
    (he : ∀ p s, P s → Q (eff p s)) (row : FrameRow) {s : State} (h : P s) : Q (takeFrame row eff s) := by
  unfold takeFrame
  split
  · exact hQ s h
  · split
    · exact he _ _ (hheld _ _ h)
    · exact hQ s h

theorem takeFrame_unstruck (row : FrameRow) {eff : List Byte → State → State}
    (he : ∀ p (u : State), Unstruck u → Unstruck (eff p u)) {s : State} (h : Unstruck s) :
    Unstruck (takeFrame row eff s) :=
  takeFrame_preserves (fun _ _ hu => hu.congr rfl rfl) (fun _ => id) he row h

theorem answered_unstruck {s : State} (h : Unstruck s) (code : Nat) (r : Result) (data : List Byte) :
    Unstruck (answerCommand code r data s) :=
  h.linked (answerCommand_linkOnly code r data s)

theorem takePick_unstruck (p : List Byte) {s : State} (h : Unstruck s) : Unstruck (takePick p s) := by
  have hrefuse : ∀ cause, Unstruck (refusePick cause p s) := fun _ => h.linked (post_linkOnly _ s)
  have haccept : ∀ r, Unstruck (acceptPick r s) := by
    intro r
    simp only [acceptPick]
    split
    · exact settle_unstruck (h.congr rfl rfl)
    · exact h.congr (by simp) (by simp)
  unfold takePick
  repeat' split
  · exact hrefuse _
  · exact hrefuse _
  · exact hrefuse _
  · exact hrefuse _
  · exact haccept _
  · exact hrefuse _

/-- Only ARM and CLEAR lead on from OFFLINE and HALTED, to STOPPED (09 R159). -/
theorem takeArm_unstruck (p : List Byte) {s : State} (h : Unstruck s) :
    (takeArm p s).run.state = .stopped ∨ Unstruck (takeArm p s) := by
  unfold takeArm
  repeat' split
  · exact .inr (answered_unstruck h _ _ _)
  · exact .inl (by simp)
  · exact .inr (answered_unstruck h _ _ _)

theorem takeClear_unstruck (p : List Byte) {s : State} (h : Unstruck s) :
    (takeClear p s).run.state = .stopped ∨ Unstruck (takeClear p s) := by
  unfold takeClear
  repeat' split
  · exact .inr (answered_unstruck h _ _ _)
  · exact .inr (answered_unstruck h _ _ _)
  · exact .inr (answered_unstruck h _ _ _)
  · exact .inl (by simp)

theorem takeDisarm_unstruck (p : List Byte) {s : State} (h : Unstruck s) : Unstruck (takeDisarm p s) := by
  simp only [takeDisarm, if_neg h.not_stopped]
  exact answered_unstruck h _ _ _

theorem takeStart_unstruck (taken : CausesTaken) (p : List Byte) {s : State} (h : Unstruck s) :
    Unstruck (takeStart taken p s) := by
  simp only [takeStart, if_pos h.not_stopped]
  exact answered_unstruck h _ _ _

theorem takeStopCommand_unstruck (taken : CausesTaken) (p : List Byte) {s : State} (h : Unstruck s) :
    Unstruck (takeStopCommand taken p s) := by
  simp only [takeStopCommand, if_neg h.not_weaving]
  exact answered_unstruck h _ _ _

theorem takeFlush_unstruck (p : List Byte) {s : State} (h : Unstruck s) : Unstruck (takeFlush p s) := by
  have htaken : ∀ arg, Unstruck (takenBack arg s) := fun arg => h.congr (by simp) (by simp)
  unfold takeFlush
  split
  · exact answered_unstruck (settle_unstruck (htaken _)) _ _ _
  · exact answered_unstruck h _ _ _

theorem takeHome_unstruck (p : List Byte) {s : State} (h : Unstruck s) : Unstruck (takeHome p s) := by
  have hhoming : Unstruck (startHoming s) := by
    simp only [startHoming]
    split <;> exact settle_unstruck (h.congr rfl rfl)
  unfold takeHome
  repeat' split
  · exact answered_unstruck h _ _ _
  · exact answered_unstruck hhoming _ _ _
  · exact answered_unstruck h _ _ _

/-- 04 R85: SOFT_RESET aborts shifts and leads to OFFLINE. -/
theorem takeSoftReset_unstruck (p : List Byte) {s : State} (h : Unstruck s) : Unstruck (takeSoftReset p s) := by
  have haborted : NoNewImage s (abortShifts s) := .foldl abortChain_noNewImage _ s
  have hreset : Unstruck (softResetBlocks s) := ⟨.inl rfl, fun hm => h.lines (haborted.strobe hm)⟩
  exact (answered_unstruck hreset _ _ _).linked (post_linkOnly _ _)

/-- 02 R35: an accepted pattern write settles. -/
theorem patternTable_unstruck (p : List Byte) (ok : Bool) (checks : List FieldCheck) (write : State → State)
    (hw : ∀ u, (write u).run = u.run ∧ (write u).lineOut = u.lineOut) {s : State} (h : Unstruck s) :
    Unstruck (patternTable p ok checks write s) := by
  obtain ⟨r, x, he⟩ | ⟨_, _, x, he⟩ := patternTable_cases p ok checks write s
  · rw [he]
    exact h.linked (answerTable_linkOnly _ _ _ _)
  · rw [he]
    exact (settle_unstruck (h.congr (by simp [modChains, hw]) (by simp [modChains, hw]))).linked
      (answerTable_linkOnly _ _ _ _)

theorem checkedWrite_unstruck (p : List Byte) (ok : Bool) (checks : List FieldCheck) {write : State → State}
    {s : State} (h : Unstruck s) (hw : Unstruck (write s)) : Unstruck (checkedWrite p ok checks write s) := by
  obtain ⟨r, x, he⟩ | ⟨_, x, he⟩ := checkedWrite_cases p ok checks write s
  · rw [he]
    exact h.linked (answerTable_linkOnly _ _ _ _)
  · rw [he]
    exact hw.linked (answerTable_linkOnly _ _ _ _)

/-! ### Every command -/

/-- Every command's effect but those of ARM and CLEAR leads from OFFLINE and HALTED to OFFLINE and HALTED, with no
strobe. -/
theorem commandEffect_unstruck (c : Instr) (harm : c ≠ .arm) (hclear : c ≠ .clear) {s : State} (h : Unstruck s) :
    Unstruck (commandEffect c s) := by
  cases c with
  | hardReset => exact h
  | resetRelease => exact h
  | pickFrame => exact takeFrame_unstruck .pick (fun p _ => takePick_unstruck p) h
  | tableMachine =>
    exact takeFrame_unstruck (.table .machine) (eff := takeTableMachine)
      (fun p _ => patternTable_unstruck p _ _ _ (by simp [writeMachine_frame])) h
  | tableSections =>
    exact takeFrame_unstruck (.table .sections) (eff := takeTableSections)
      (fun p _ => patternTable_unstruck p _ _ (writeSection (tableIndex p) (sectionOf p)) fun _ => ⟨rfl, rfl⟩) h
  | tableEffects =>
    exact takeFrame_unstruck (.table .effects) (eff := takeTableEffects)
      (fun p _ => patternTable_unstruck p _ _ (writeEffect (tableIndex p) (effectOf p)) fun _ => ⟨rfl, rfl⟩) h
  | tableWeaves =>
    exact takeFrame_unstruck (.table .weaves) (eff := takeTableWeaves)
      (fun p _ => patternTable_unstruck p _ _ (writeWeave (tableIndex p) (weaveOf p)) fun _ => ⟨rfl, rfl⟩) h
  | tableProfiles =>
    exact takeFrame_unstruck (.table .profiles) (eff := takeTableProfiles)
      (fun p _ hu => checkedWrite_unstruck p _ _ (write := writeProfile _ _) hu (hu.congr rfl rfl)) h
  | tableWefts =>
    exact takeFrame_unstruck (.table .wefts) (eff := takeTableWefts)
      (fun p _ hu => checkedWrite_unstruck p _ _ (write := writeWeft _ _) hu (hu.congr rfl rfl)) h
  | tableDrivers =>
    exact takeFrame_unstruck (.table .drivers) (eff := takeTableDrivers)
      (fun p _ hu => checkedWrite_unstruck p _ _ (write := writeDriver _ _) hu (hu.congr rfl rfl)) h
  | arm => exact absurd rfl harm
  | clear => exact absurd rfl hclear
  | disarm => exact takeFrame_unstruck .disarm (fun p _ => takeDisarm_unstruck p) h
  | start taken => exact takeFrame_unstruck .start (fun p _ => takeStart_unstruck taken p) h
  | stop taken => exact takeFrame_unstruck .stop (fun p _ => takeStopCommand_unstruck taken p) h
  | flush => exact takeFrame_unstruck .flush (fun p _ => takeFlush_unstruck p) h
  | home => exact takeFrame_unstruck .home (fun p _ => takeHome_unstruck p) h
  | softReset => exact takeFrame_unstruck .softReset (fun p _ => takeSoftReset_unstruck p) h
  | offstateTest =>
    exact takeFrame_unstruck .offstateTest
      (fun p u hu => hu.congr (takeOffstateTest_samePick p u).run (takeOffstateTest_lineOut p u)) h
  | clearModuleFlags =>
    exact takeFrame_unstruck .clearModuleFlags
      (fun _ u hu => answered_unstruck (hu.congr (t := clearSticky u) rfl rfl) 11 .ok []) h
  | encoderLevelAcquired input l => exact acquireLevel_unstruck input l h
  | encoderStep line elapsed order taken =>
    exact takeCauses_unstruck taken (lineChange_unstruck line elapsed order taken h)
  | illegalTransition taken => exact takeCauses_unstruck taken (illegalChange_unstruck h)
  | indexPulse taken => exact takeCauses_unstruck taken (indexRise_unstruck h)
  | standstill => exact declareStandstill_unstruck h
  | sensorLevelAcquired x l taken =>
    exact takeCauses_unstruck taken (h.congr (acquireSensor_state x l s) (acquireSensor_lineOut x l s))
  | arvRise => exact h.congr (arvRises_state s) (arvRises_lineOut s)
  | arvFall => exact h.congr (arvFalls_samePick s).run (arvFalls_lineOut s)
  | feederBreak f taken => exact takeCauses_unstruck taken (h.congr (feederBreaks_state f s) (feederBreaks_lineOut f s))
  | feederClear f => exact h.congr (feederClears_samePick f s).run (feederClears_lineOut f s)
  | peakTimeLimitEnd dc taken =>
    exact takeCauses_unstruck taken (h.congr (peakLimitEnds_state dc s) (peakLimitEnds_lineOut dc s))
  | deglitchEnd dc taken =>
    exact takeCauses_unstruck taken (h.congr (deglitchEnds_state dc s) (deglitchEnds_lineOut dc s))
  | testEnd n => exact h.congr (endTest_samePick n s).run (endTest_lineOut n s)
  | expansionComplete => exact completeExpansion_unstruck h
  | segmentsSent k => exact sendCheckCall_unstruck k h
  | moduleAnswer k n b l => exact collectAnswer_unstruck k _ h
  | endOfChecking k taken => exact takeCauses_unstruck taken (closeChecking_unstruck k h)
  | enczFall => exact indexFall_unstruck h
  | peakLevelReached dc => exact h.congr (onDriving_samePick dc _ s).run (onDriving_lineOut dc _ s)
  | holdLevelReached dc => exact h.congr (onDriving_samePick dc _ s).run (onDriving_lineOut dc _ s)
  | directLoadReached dc => exact h.congr (onDriving_samePick dc _ s).run (onDriving_lineOut dc _ s)
  | chopOffTimeEnd dc n => exact h.congr (onDriving_samePick dc _ s).run (onDriving_lineOut dc _ s)
  | blankingEnd dc n => exact h.congr (onDriving_samePick dc _ s).run (onDriving_lineOut dc _ s)
  | overcurrentRise dc => exact h.congr (onDriving_samePick dc _ s).run (onDriving_lineOut dc _ s)
  | overcurrentFall dc =>
    exact h.congr (onDriving_samePick dc (fun c _ => { c with deglitchTimer := none }) s).run (onDriving_lineOut dc _ s)
  | _ => exact h.linked (commandEffect_linkOnly _ rfl s)

/-- Every command's effect leads from OFFLINE and HALTED to STOPPED, or drives no strobe. -/
theorem commandEffect_stopped_or_unstruck (c : Instr) {s : State} (h : Unstruck s) :
    (commandEffect c s).run.state = .stopped ∨ Unstruck (commandEffect c s) := by
  by_cases harm : c = .arm
  · rw [harm]
    exact takeFrame_preserves (P := Unstruck) (Q := fun t => t.run.state = .stopped ∨ Unstruck t)
      (fun _ _ hu => hu.congr rfl rfl) (fun _ => .inr) (fun p _ => takeArm_unstruck p) .arm h
  by_cases hclear : c = .clear
  · rw [hclear]
    exact takeFrame_preserves (P := Unstruck) (Q := fun t => t.run.state = .stopped ∨ Unstruck t)
      (fun _ _ hu => hu.congr rfl rfl) (fun _ => .inr) (fun p _ => takeClear_unstruck p) .clear h
  exact .inr (commandEffect_unstruck c harm hclear h)

/-- Settles O60: but for ARM and CLEAR, which end in STOPPED, no command's effect drives a strobe from OFFLINE and
HALTED; the hard reset drives nothing, and the release of RESETn is no matter of a high line. -/
theorem noStrobeInOfflineOrHalted : Obligations.NoStrobeInOfflineOrHalted := by
  intro c s t still hhigh hexec hs ht
  by_cases hline : Instr.ofResetLine c = false
  · rw [exec_eq_command c s hline, command_high _ s hhigh] at hexec
    injection hexec with hexec
    subst hexec
    simp only [still, kickTransmitter_frame] at ht ⊢
    have hbegin : Unstruck { s with lineOut := [] } := ⟨hs, by simp⟩
    obtain hstopped | hunstruck := commandEffect_stopped_or_unstruck c hbegin
    · simp [hstopped] at ht
    · exact hunstruck.lines
  · cases c with
    | hardReset =>
      injection hexec with hexec
      subst hexec
      simp [State.reset]
    | resetRelease =>
      simp only [exec, execResetRelease, hhigh] at hexec
      injection hexec with hexec
      subst hexec
      simp
    | _ => exact absurd rfl hline

end Sys2Proof.Machine

/-! ## A crossing of the effective latch angle, and a crossing of angle 0 or L in STOPPED -/

namespace Sys2Proof.Machine

/-! ### The handlings of a step in the default order -/

/-- What a step hands on after the latch: the matters of the armed part, and the causes of the tracker. -/
def Handling.afterLatch : Handling → Bool
  | .fire _ => true
  | .windowOpen => true
  | .windowClose => true
  | .indexMissing => true
  | .reverse => true
  | _ => false

theorem afterBoundary_split (m : MachineRecord) (run : RunState) (dir : Direction) (k : Stk) :
    ∃ rest, afterBoundary m run dir k = .keep :: .latch :: rest ∧ ∀ x ∈ rest, x.afterLatch = true := by
  refine ⟨(afterBoundary m run dir k).drop 2, rfl, fun x hx => ?_⟩
  have hif : ∀ (b : Prop) [Decidable b] (y : Handling), y.afterLatch = true → x ∈ (if b then [y] else []) →
      x.afterLatch = true := by
    intro b _ y hy hx
    split at hx <;> simp_all
  simp only [afterBoundary, fireList, List.append_assoc, List.cons_append, List.drop_succ_cons, List.drop_zero,
    List.nil_append, List.mem_append] at hx
  obtain hx | hx | hx := hx
  · cases dir with
    | forward =>
      simp only [List.mem_append, List.mem_map, List.mem_cons, List.not_mem_nil, or_false] at hx
      obtain ⟨i, _, rfl⟩ | rfl | rfl := hx <;> rfl
    | backward => simp at hx
  · exact hif _ _ rfl hx
  · exact hif _ _ rfl hx

/-- A change of direction, as a step hands it on (05 R90). -/
def turning (dir : Direction) (k : Stk) : List Handling := if k.direction ≠ dir then [.direction] else []

/-- 05 R97: what a HOMED step off the pick boundary hands on. -/
theorem stepHandlings_inside {m : MachineRecord} {dir : Direction} {k : Stk} (run : RunState) (hh : k.homing = .homed)
    (hw : (stepInfo m.counts k.position dir).wrap = false) :
    stepHandlings m run dir k = turning dir k ++ afterBoundary m run dir k := by
  have hd : (stepInfo m.counts k.position dir).direction = dir := by cases dir <;> rfl
  cases dir <;> simp [stepHandlings, turning, afterBoundary, crossingHandlings, hh, hw, hd]

/-- 05 R97: what a HOMED step hands on, parted at the two matters of the Hook Chain Interface. -/
theorem stepHandlings_homed {m : MachineRecord} {dir : Direction} {k : Stk} (run : RunState) (hh : k.homing = .homed) :
    ∃ before rest, stepHandlings m run dir k = before ++ .keep :: .latch :: rest ∧
      (∀ x ∈ rest, x.afterLatch = true) ∧
      ((stepInfo m.counts k.position dir).wrap = false → before = turning dir k) := by
  obtain ⟨rest, hrest, hafter⟩ := afterBoundary_split m run dir k
  cases hw : (stepInfo m.counts k.position dir).wrap with
  | true =>
    exact ⟨beforeBoundary dir k ++ [.boundary], rest, by simp [stepHandlings_wrap run hh hw, hrest], hafter, by simp⟩
  | false => exact ⟨turning dir k, rest, by rw [stepHandlings_inside run hh hw, hrest], hafter, fun _ => rfl⟩

/-- The state in which a step of the shaft is counted, before its handlings (05 R88, R99). -/
def stepCounted (m : MachineRecord) (dir : Direction) (k : Stk) (s : State) : State :=
  { s with lineOut := [], stk := k.step m s.run.state dir }

/-- The tracker as the step that is counted meets it. -/
structure LineMoved (s : State) (k : Stk) : Prop where
  homing : k.homing = s.stk.homing
  position : k.position = s.stk.position
  direction : k.direction = s.stk.direction

/-- 05 R88, R97: a step whose handlings are taken in the default order. -/
theorem exec_defaultStep {m : MachineRecord} {line : EncLine} {dir : Direction} {s : State} (h : StepReady m line dir s)
    (elapsed : Nat) (taken : CausesTaken) :
    ∃ k, LineMoved s k ∧
      exec (.encoderStep line elapsed [] taken) s =
        .next (kickTransmitter (takeCauses taken
          (handleRest (stepInfo m.counts s.stk.position dir) taken (stepHandlings m s.run.state dir k)
            (stepCounted m dir k s)))) := by
  obtain ⟨hready, hm, _, _, hdir⟩ := h
  obtain ⟨a, ha, b, hb, hdir⟩ : ∃ a, s.stk.encA = some a ∧ ∃ b, s.stk.encB = some b ∧ stepDirection line a b = dir := by
    cases ha : s.stk.encA <;> cases hb : s.stk.encB <;> simp_all
  obtain ⟨l, hl⟩ : ∃ l, s.stk.lineLevel line = some l := by
    cases line
    · exact ⟨a, ha⟩
    · exact ⟨b, hb⟩
  have hposition : (s.stk.lineMoved line elapsed l).position = s.stk.position := by simp
  have hmoved : LineMoved s (s.stk.lineMoved line elapsed l) := ⟨by simp, hposition, by cases line <;> rfl⟩
  refine ⟨_, hmoved, (causing_high taken _ s hready).trans ?_⟩
  simp only [lineChange, hm, hl, ha, hb, hdir, takeStep, runOrder]
  rw [← hposition]
  rfl

/-! ### Causes that no latch request hands -/

/-- What a latch request that misses hands to RUN (04 R72, R73). -/
def StopCause.OfLatch (c : StopCause) : Prop := c = .starved ∨ ∃ o, c = .lateImage o

/-- From `s` to `t` only stop causes are handed, and none that a latch request hands. -/
def HandsOther (s t : State) : Prop :=
  ∀ c ∈ t.run.handed, c ∈ s.run.handed ∨ ∃ x : StopCause, c = .stop x ∧ ¬x.OfLatch

namespace HandsOther

theorem of_run {s t : State} (h : t.run = s.run) : HandsOther s t := fun _ hc => .inl (h ▸ hc)

theorem refl (s : State) : HandsOther s s := of_run rfl

theorem trans {s t u : State} (h1 : HandsOther s t) (h2 : HandsOther t u) : HandsOther s u := fun c hc =>
  (h2 c hc).elim (h1 c) .inr

theorem foldl {β : Type} {f : State → β → State} (h : ∀ s x, HandsOther s (f s x)) (l : List β) (s : State) :
    HandsOther s (l.foldl f s) :=
  List.foldlRecOn l f (refl s) fun u hu x _ => hu.trans (h u x)

theorem hand {x : StopCause} (hx : ¬x.OfLatch) (s : State) : HandsOther s (hand (.stop x) s) := by
  intro c hc
  simp only [hand_run, List.mem_append, List.mem_singleton] at hc
  exact hc.imp_right fun he => ⟨x, he, hx⟩

end HandsOther

theorem weftFault_handsOther (d : WeftDetail) {cause : Ordinal → StopCause} (hc : ∀ o, ¬(cause o).OfLatch)
    (s : State) : HandsOther s (weftFault d cause s) := by
  unfold weftFault
  split
  · exact .refl s
  · refine HandsOther.trans (.of_run ?_) (.hand (hc _) _)
    simp

theorem judgeWindow_handsOther (s : State) : HandsOther s (judgeWindow s) := by
  unfold judgeWindow
  split
  · split
    · exact .of_run (by simp)
    · have hfault : HandsOther s (weftFault .missing .weftMissing s) :=
        weftFault_handsOther _ (by simp [StopCause.OfLatch]) s
      exact hfault.trans (.of_run (by simp))
  · exact .of_run (by simp)

theorem watchedBreak_handsOther (f : FeederIdx) (s : State) : HandsOther s (watchedBreak f s) := by
  unfold watchedBreak
  dsimp only
  split
  · exact HandsOther.trans (.of_run rfl) (weftFault_handsOther _ (by simp [StopCause.OfLatch]) _)
  · exact .of_run rfl

theorem beginWatch_handsOther (line : Option FeederIdx) (s : State) : HandsOther s (beginWatch line s) := by
  unfold beginWatch
  split
  · exact .refl s
  · dsimp only
    split
    · exact HandsOther.trans (.of_run rfl) (watchedBreak_handsOther _ _)
    · exact .of_run rfl

theorem fireOne_handsOther (s : State) (j : Nat) : HandsOther s (fireOne s j) := by
  obtain h | ⟨a, x, _, _, h⟩ := fireOne_cases s j
  · rw [h]
    exact .refl s
  · have hsend : HandsOther s (sendAction a j x s) := .of_run (by simp)
    rw [h]
    split
    · exact hsend.trans (beginWatch_handsOther _ _)
    · exact hsend

theorem fireAction_handsOther (x : Nat → Bool) (i : Nat) (s : State) : HandsOther s (fireAction x i s) := by
  unfold fireAction
  split
  · exact .refl s
  · exact .foldl fireOne_handsOther _ s

theorem handClosing_handsOther (x : Nat → Bool) (s : State) : HandsOther s (handClosing x s) := by
  have hopen : HandsOther s (handOpening x s) := .of_run (by simp)
  unfold handClosing
  dsimp only
  split
  · exact hopen
  · split
    · exact hopen.trans (HandsOther.trans (.of_run (by simp)) (judgeWindow_handsOther _))
    · exact hopen

/-! ### What follows the latch -/

theorem HandedOn.tbm {s t : State} (h : HandedOn s t) : t.tbm = s.tbm := by
  obtain ⟨_, _, htbm, _⟩ := h.undisturbed
  exact htbm

/-- The snapshot but for its armed part. -/
def Snapshot.unarmed (x : Snapshot) : Snapshot := { x with armed := none }

/-- From `s` to `t` nothing is done but what a step hands on after the latch: the shed, the lines and the tracker
stay, and the run but for the outcome of CURRENT. -/
structure LatchPassed (s t : State) : Prop where
  handed : HandedOn s t
  hci : t.hci = s.hci
  lines : t.lineOut = s.lineOut
  stk : t.stk = s.stk
  outcome : s.psq.OutcomeOnly t.psq
  snapshot : t.asc.snapshot.map Snapshot.unarmed = s.asc.snapshot.map Snapshot.unarmed
  causes : HandsOther s t

namespace LatchPassed

theorem refl (s : State) : LatchPassed s s := ⟨.refl s, rfl, rfl, rfl, .refl _, rfl, .refl s⟩

theorem trans {s t u : State} (h1 : LatchPassed s t) (h2 : LatchPassed t u) : LatchPassed s u :=
  ⟨h1.handed.trans h2.handed, h2.hci.trans h1.hci, h2.lines.trans h1.lines, h2.stk.trans h1.stk,
    h1.outcome.trans h2.outcome, h2.snapshot.trans h1.snapshot, h1.causes.trans h2.causes⟩

end LatchPassed

/-- 06 R114 to R117: within a step only the crossing of the pick boundary makes another snapshot. -/
theorem handle_unarmedSnapshot (c : StepInfo) (s : State) {x : Handling} (hb : x ≠ .boundary) (hr : x ≠ .release) :
    (handle c s x).asc.snapshot.map Snapshot.unarmed = s.asc.snapshot.map Snapshot.unarmed := by
  cases ha : s.armedPart with
  | none =>
    obtain ⟨_, hasc, _⟩ := handle_unarmed ha c hb hr
    rw [hasc]
  | some a =>
    obtain ⟨sn, hsn, harmed⟩ : ∃ sn, s.asc.snapshot = some sn ∧ sn.armed = some a := by
      cases hsn : s.asc.snapshot <;> simp_all [State.armedPart]
    have hhas : s.HasSnapshot sn (some a) := by
      rw [State.HasSnapshot, hsn, ← harmed]
    have hleft := handle_snapshot hhas c hb
    rw [State.HasSnapshot] at hleft
    rw [hleft, hsn]
    rfl

theorem handle_latchPassed (c : StepInfo) (s : State) {x : Handling} (hx : x.afterLatch = true) :
    LatchPassed s (handle c s x) := by
  have hb : x ≠ .boundary := by
    rintro rfl
    simp [Handling.afterLatch] at hx
  have hr : x ≠ .release := by
    rintro rfl
    simp [Handling.afterLatch] at hx
  have hcauses : HandsOther s (handle c s x) := by
    cases x with
    | fire i => exact fireAction_handsOther _ i s
    | windowOpen => exact .of_run (by simp [handle])
    | windowClose => exact handClosing_handsOther _ s
    | indexMissing =>
      exact HandsOther.trans (.of_run (by simp)) (.hand (x := .indexMissing) (by simp [StopCause.OfLatch]) _)
    | reverse => exact .hand (x := .reverseInRun) (by simp [StopCause.OfLatch]) s
    | direction | release | boundary | keep | latch => simp [Handling.afterLatch] at hx
  have hkept : (handle c s x).hci = s.hci ∧ (handle c s x).lineOut = s.lineOut := by
    cases x with
    | direction | release | boundary | keep | latch => simp [Handling.afterLatch] at hx
    | _ => simp [handle]
  exact ⟨handle_handedOn c s x, hkept.1, hkept.2, by simp, handle_outcome c s x hb, handle_unarmedSnapshot c s hb hr,
    hcauses⟩

theorem handles_latchPassed (c : StepInfo) {l : List Handling} (hl : ∀ x ∈ l, x.afterLatch = true) (s : State) :
    LatchPassed s (l.foldl (handle c) s) :=
  List.foldlRecOn l _ (.refl s) fun _ hu x hx => hu.trans (handle_latchPassed c _ (hl x hx))

end Sys2Proof.Machine

namespace Sys2Proof.Machine

/-! ### The latch request (04 R72, R73, R75) -/

/-- The record a latch request is for: a forward one for NEXT, a backward one for CURRENT. -/
def State.recordFor (dir : Direction) (s : State) : Option PickRecord :=
  match dir with
  | .forward => s.psq.nextPick
  | .backward => s.psq.current

/-- 04 R75: the state of each chain with modules, in increasing chain number. -/
def State.chainReports (s : State) : List ChainReport :=
  s.usedChains.map fun k =>
    { state := (s.hci.chains[k]).phase.name, ordinal := (s.hci.chains[k]).phase.ordinal? }

/-- The record and the cause of a latch request that misses; none of one that fires. -/
def latchMiss (dir : Direction) (s : State) : Option (Event × StopCause) :=
  match s.recordFor dir with
  | none => some (.lateStarved dir s.hci.tag s.run.state, .starved)
  | some n =>
    if s.allReady n.ordinal then none
    else some (.lateNotReady dir n.ordinal s.hci.tag s.run.state s.chainReports, .lateImage n.ordinal)

/-- 04 R73: a miss is posted; in WEAVING a forward one hands its cause. -/
def missed (dir : Direction) (x : Event × StopCause) (s : State) : State :=
  if dir = .forward ∧ s.run.state = .weaving then hand (.stop x.2) (post x.1 s) else post x.1 s

theorem latchMiss_starved {dir : Direction} {s : State} (h : s.recordFor dir = none) :
    latchMiss dir s = some (.lateStarved dir s.hci.tag s.run.state, .starved) := by
  simp [latchMiss, h]

theorem latchMiss_late {dir : Direction} {s : State} {n : PickRecord} (h : s.recordFor dir = some n)
    (hr : s.allReady n.ordinal = false) :
    latchMiss dir s =
      some (.lateNotReady dir n.ordinal s.hci.tag s.run.state s.chainReports, .lateImage n.ordinal) := by
  simp [latchMiss, h, hr]

theorem latchMiss_ready {dir : Direction} {s : State} {n : PickRecord} (h : s.recordFor dir = some n)
    (hr : s.allReady n.ordinal = true) : latchMiss dir s = none := by
  simp [latchMiss, h, hr]

/-- 04 R72, R73: a request for a record fires where every chain with modules is READY with it. -/
theorem latchRequest_for {dir : Direction} {s : State} {n : PickRecord} (h : s.recordFor dir = some n) :
    latchRequest dir s =
      if s.allReady n.ordinal then evalTarget (fireLatch n.ordinal s)
      else missed dir
        (.lateNotReady dir n.ordinal s.hci.tag s.run.state s.chainReports, .lateImage n.ordinal) s := by
  cases dir with
  | forward =>
    have hn : s.nextOrdinal = some n.ordinal := congrArg (Option.map PickRecord.ordinal) h
    simp only [latchRequest, hn, missed, State.chainReports]
  | backward =>
    have hn : s.currentOrdinal = some n.ordinal := congrArg (Option.map PickRecord.ordinal) h
    simp only [latchRequest, hn, missed, State.chainReports]

/-- 04 R73: with the slot empty a request misses. -/
theorem latchRequest_empty {dir : Direction} {s : State} (h : s.recordFor dir = none) :
    latchRequest dir s = missed dir (.lateStarved dir s.hci.tag s.run.state, .starved) s := by
  cases dir with
  | forward =>
    have hn : s.nextOrdinal = none := congrArg (Option.map PickRecord.ordinal) h
    simp only [latchRequest, hn, missed]
  | backward =>
    have hn : s.currentOrdinal = none := congrArg (Option.map PickRecord.ordinal) h
    simp only [latchRequest, hn, missed]

theorem latchRequest_fires {dir : Direction} {s : State} {n : PickRecord} (h : s.recordFor dir = some n)
    (hr : s.allReady n.ordinal = true) : latchRequest dir s = evalTarget (fireLatch n.ordinal s) := by
  rw [latchRequest_for h, if_pos hr]

theorem latchRequest_misses {dir : Direction} {s : State} {x : Event × StopCause} (h : latchMiss dir s = some x) :
    latchRequest dir s = missed dir x s := by
  cases hn : s.recordFor dir with
  | none =>
    rw [latchMiss_starved hn] at h
    rw [latchRequest_empty hn, Option.some.inj h]
  | some n =>
    cases hr : s.allReady n.ordinal with
    | true => simp [latchMiss_ready hn hr] at h
    | false =>
      rw [latchMiss_late hn hr] at h
      rw [latchRequest_for hn, hr, Option.some.inj h]
      rfl

theorem missed_run (dir : Direction) (x : Event × StopCause) (s : State) :
    (missed dir x s).run =
      { s.run with
        handed := s.run.handed ++ if dir = .forward ∧ s.run.state = .weaving then [.stop x.2] else [] } := by
  unfold missed
  split <;> simp

theorem missed_frame (dir : Direction) (x : Event × StopCause) (s : State) :
    (missed dir x s).hci = s.hci ∧ (missed dir x s).lineOut = s.lineOut ∧ (missed dir x s).stk = s.stk := by
  unfold missed
  split <;> simp

theorem missed_posted (dir : Direction) (x : Event × StopCause) (s : State) : Posted x.1 (missed dir x s) := by
  unfold missed
  split
  · exact (hand_handedOn _ _).posted _ (post_posted x.1 s)
  · exact post_posted x.1 s

/-- 04 R71: a latch that fires strobes once and sets the tag. -/
theorem fired_tag (o : Ordinal) (s : State) :
    (evalTarget (fireLatch o s)).hci.tag = { ordinal := some o, stale := false, degraded := s.anyDegraded } ∧
      (evalTarget (fireLatch o s)).lineOut.filter (fun x => x = .strobe) =
        s.lineOut.filter (fun x => x = .strobe) ++ [.strobe] := by
  refine ⟨by simp [fireLatch], (evalTarget_phasesOnly _).strobes.trans ?_⟩
  simp [fireLatch]

/-- What a latch request hands to RUN: the cause of a forward miss in WEAVING. -/
theorem latchRequest_hands (dir : Direction) (s : State) (c : StopCause) :
    .stop c ∈ (latchRequest dir s).run.handed ↔
      .stop c ∈ s.run.handed ∨
        ((latchMiss dir s).map Prod.snd = some c ∧ dir = .forward ∧ s.run.state = .weaving) := by
  cases hmiss : latchMiss dir s with
  | some x =>
    rw [latchRequest_misses hmiss, missed_run]
    by_cases hstops : dir = .forward ∧ s.run.state = .weaving
    · simp [hstops, eq_comm]
    · simp [hstops]
  | none =>
    obtain ⟨n, hn, hready⟩ : ∃ n, s.recordFor dir = some n ∧ s.allReady n.ordinal = true := by
      cases hn : s.recordFor dir <;> simp_all [latchMiss]
    rw [latchRequest_fires hn hready]
    simp [fireLatch]

/-- The cause of a latch request that misses tells why. -/
theorem latchMiss_cause_iff (dir : Direction) (s : State) (c : StopCause) :
    (latchMiss dir s).map Prod.snd = some c ↔
      (c = .starved ∧ s.recordFor dir = none) ∨
        ∃ o, c = .lateImage o ∧ ∃ n, s.recordFor dir = some n ∧ n.ordinal = o ∧ s.allReady o = false := by
  cases hn : s.recordFor dir with
  | none =>
    simp only [latchMiss_starved hn, Option.map_some, Option.some.injEq, reduceCtorEq, false_and, exists_false,
      and_false, or_false, and_true]
    exact eq_comm
  | some n =>
    cases hready : s.allReady n.ordinal with
    | true =>
      rw [latchMiss_ready hn hready]
      simp [hready]
    | false =>
      simp only [latchMiss_late hn hready, Option.map_some, Option.some.injEq, reduceCtorEq, and_false, false_or]
      constructor
      · rintro rfl
        exact ⟨n.ordinal, rfl, n, rfl, rfl, hready⟩
      · rintro ⟨_, rfl, _, rfl, rfl, _⟩
        rfl

theorem latchMiss_starved_iff (dir : Direction) (s : State) :
    (latchMiss dir s).map Prod.snd = some .starved ↔ s.recordFor dir = none := by
  rw [latchMiss_cause_iff]
  simp

theorem latchMiss_late_iff (dir : Direction) (s : State) (o : Ordinal) :
    (latchMiss dir s).map Prod.snd = some (.lateImage o) ↔
      ∃ n, s.recordFor dir = some n ∧ n.ordinal = o ∧ s.allReady o = false := by
  rw [latchMiss_cause_iff]
  refine ⟨?_, fun h => .inr ⟨o, rfl, h⟩⟩
  rintro (⟨h, _⟩ | ⟨_, ho, h⟩)
  · cases h
  · cases ho
    exact h

theorem chainReports_congr {s t : State} (hm : t.tbm = s.tbm) (hc : t.hci = s.hci) :
    t.chainReports = s.chainReports := by
  unfold State.chainReports
  rw [usedChains_congr hm, hc]

/-! ### A change of direction before the latch -/

/-- 03 R55, 04 R65: the evaluation of the target leaves a chain that is READY with the new target. -/
theorem evalTarget_keeps_ready {s : State} {o : Ordinal} (hn : s.newTarget = some o) {k : ChainIdx}
    (h : (s.hci.chains[k]).phase.readyWith o = true) :
    ((evalTarget s).hci.chains[k]).phase = (s.hci.chains[k]).phase := by
  obtain ⟨d, hphase⟩ : ∃ d, (s.hci.chains[k]).phase = .ready o d := by
    cases hp : (s.hci.chains[k]).phase <;> simp_all [ChainPhase.readyWith]
  have habandoned : ((abandonedFor (some o) s).hci.chains[k]).phase = .ready o d := by
    have hleft : (abandonExpansion { s with shb := { s.shb with target := some o } }).hci = s.hci := rfl
    rw [abandonedFor, abortShifts, abortChains_phase, if_pos (mem_chainList k), hleft, hphase]
    rfl
  by_cases hsame : s.newTarget = s.shb.target
  · rw [evalTarget_same s hsame]
  · have heval : evalTarget s = takeUp o (abandonedFor (some o) s) := by
      unfold evalTarget
      rw [if_neg hsame, hn]
      rfl
    rw [heval, hphase]
    unfold takeUp
    split
    · unfold handOver
      rw [handChains_chain]
      split
      · dsimp only
        rw [habandoned]
        exact if_pos rfl
      · exact habandoned
    · simpa using habandoned

/-- The state in which a step's crossing of the effective latch angle requests a latch, as the state before the step
has it. -/
structure AtLatch (dir : Direction) (s u : State) : Prop where
  handed : HandedOn s u
  run : u.run = s.run
  psq : u.psq = s.psq
  asc : u.asc = s.asc
  tag : u.hci.tag = s.hci.tag
  motion : u.stk.motion = .moving
  strobes : u.lineOut.filter (fun x => x = .strobe) = []
  unready : ∀ (k : ChainIdx) o,
    (u.hci.chains[k]).phase.readyWith o = true → (s.hci.chains[k]).phase.readyWith o = true
  ready : ∀ n, s.recordFor dir = some n → ∀ k : ChainIdx, (s.hci.chains[k]).phase.readyWith n.ordinal = true →
    (u.hci.chains[k]).phase = (s.hci.chains[k]).phase

namespace AtLatch

variable {dir : Direction} {s u : State}

theorem recordFor (h : AtLatch dir s u) : u.recordFor dir = s.recordFor dir := by
  cases dir <;> simp [State.recordFor, h.psq]

theorem usedChains (h : AtLatch dir s u) : u.usedChains = s.usedChains :=
  usedChains_congr h.handed.tbm

theorem strobe (h : AtLatch dir s u) : LineItem.strobe ∉ u.lineOut := fun hm => by
  have hin : LineItem.strobe ∈ u.lineOut.filter (fun x => x = .strobe) := List.mem_filter.mpr ⟨hm, by simp⟩
  rw [h.strobes] at hin
  simp at hin

/-- 04 R72: the chains are READY with the record at the latch where they were before the step. -/
theorem allReady (h : AtLatch dir s u) {n : PickRecord} (hn : s.recordFor dir = some n) :
    u.allReady n.ordinal = s.allReady n.ordinal := by
  rw [Bool.eq_iff_iff, allReady_iff, allReady_iff, h.usedChains]
  refine forall₂_congr fun k _ => ⟨h.unready k _, fun hk => ?_⟩
  rwa [h.ready n hn k hk]

theorem anyDegraded (h : AtLatch dir s u) {n : PickRecord} (hn : s.recordFor dir = some n)
    (hr : s.allReady n.ordinal = true) : u.anyDegraded = s.anyDegraded := by
  unfold State.anyDegraded
  rw [h.usedChains, Bool.eq_iff_iff, List.any_eq_true, List.any_eq_true]
  refine exists_congr fun k => and_congr_right fun hk => ?_
  rw [h.ready n hn k ((allReady_iff s _).mp hr k hk)]

theorem latchMiss_cause (h : AtLatch dir s u) :
    (latchMiss dir u).map Prod.snd = (latchMiss dir s).map Prod.snd := by
  cases hn : s.recordFor dir with
  | none => rw [latchMiss_starved hn, latchMiss_starved (h.recordFor.trans hn)]; rfl
  | some n =>
    have hready := h.allReady hn
    cases hr : s.allReady n.ordinal with
    | true => rw [latchMiss_ready hn hr, latchMiss_ready (h.recordFor.trans hn) (hready.trans hr)]
    | false => rw [latchMiss_late hn hr, latchMiss_late (h.recordFor.trans hn) (hready.trans hr)]; rfl

end AtLatch

/-- A change of direction evaluates the target on the record the latch is for. -/
theorem atLatch_turning {m : MachineRecord} {dir : Direction} {s : State} (hrun : s.run.state = .weaving ∨
    s.run.state = .stopping) (k k' : Stk) (c : StepInfo) :
    AtLatch dir s ((turning dir k').foldl (handle c) (stepCounted m dir k s)) := by
  have hcounted : HandedOn s (stepCounted m dir k s) := .of_same rfl rfl rfl rfl rfl rfl rfl
  unfold turning
  split
  · have hnew : ∀ n, s.recordFor dir = some n → (stepCounted m dir k s).newTarget = some n.ordinal := fun n hn => by
      have hslot : (stepCounted m dir k s).slotAhead = some n.ordinal := by
        cases dir <;> simp_all [stepCounted, State.slotAhead, State.recordFor, State.nextOrdinal, State.currentOrdinal]
      have hstate : (stepCounted m dir k s).run.state = s.run.state := rfl
      rcases hrun with h | h <;> simp [State.newTarget, hstate, h, hslot]
    have hturned : [Handling.direction].foldl (handle c) (stepCounted m dir k s) = evalTarget (stepCounted m dir k s) :=
      rfl
    rw [hturned]
    exact
      { handed := hcounted.trans (evalTarget_handedOn _)
        run := by simp [stepCounted]
        psq := by simp [stepCounted]
        asc := by simp [stepCounted]
        tag := by simp [stepCounted]
        motion := by simp [stepCounted]
        strobes := (evalTarget_phasesOnly _).strobes
        unready := (evalTarget_noNewImage _).ready
        ready := fun n hn k hk => evalTarget_keeps_ready (hnew n hn) hk }
  · exact ⟨hcounted, rfl, rfl, rfl, rfl, by simp [stepCounted], rfl, fun _ _ => id, fun _ _ _ _ => rfl⟩

end Sys2Proof.Machine

namespace Sys2Proof.Machine

/-! ### A step over the effective latch angle in WEAVING or STOPPING -/

theorem stepInfo_direction (n p : Nat) (dir : Direction) : (stepInfo n p dir).direction = dir := by
  cases dir <;> rfl

/-- 06 R117: in WEAVING and STOPPING a crossing of the effective latch angle requests a latch. -/
theorem requestLatch_asked {crosses : Nat → Bool} {u : State} {sn : Snapshot} (hsn : u.asc.snapshot = some sn)
    (hrun : u.run.state = .weaving ∨ u.run.state = .stopping) (hcross : crosses sn.latchAngle = true)
    (dir : Direction) : requestLatch crosses dir u = latchRequest dir u := by
  simp [requestLatch, hsn, hrun, hcross]

/-- 04 R71, 06 R117: the handlings of such a step are a change of direction, the latch request and what follows it. -/
theorem exec_latchStep {m : MachineRecord} {line : EncLine} {dir : Direction} {s : State} {sn : Snapshot}
    {taken : CausesTaken} (h : StepReady m line dir s) (hw : (stepInfo m.counts s.stk.position dir).wrap = false)
    (hcross : (stepInfo m.counts s.stk.position dir).crosses sn.latchAngle = true) (hsn : s.asc.snapshot = some sn)
    (hrun : s.run.state = .weaving ∨ s.run.state = .stopping) (hnone : NoneTaken taken s) (elapsed : Nat) :
    ∃ u rest, AtLatch dir s u ∧ (∀ x ∈ rest, x.afterLatch = true) ∧
      exec (.encoderStep line elapsed [] taken) s =
        .next (kickTransmitter (takeCauses taken
          (handleRest (stepInfo m.counts s.stk.position dir) taken rest (latchRequest dir u)))) := by
  obtain ⟨k, hk, hexec⟩ := exec_defaultStep h elapsed taken
  obtain ⟨rest, hrest, hafter⟩ := afterBoundary_split m s.run.state dir k
  obtain ⟨_, _, hhomed, _⟩ := h
  have hhandlings := stepHandlings_inside (m := m) (dir := dir) s.run.state (hk.homing.trans hhomed)
    (by rwa [hk.position])
  have hdir := stepInfo_direction m.counts s.stk.position dir
  generalize stepInfo m.counts s.stk.position dir = c at *
  have hat := atLatch_turning (m := m) (dir := dir) hrun k k c
  have hturning : ∀ x ∈ turning dir k, x = .direction ∨ x = .release := by
    unfold turning
    split <;> simp
  have hcounted : NoneTaken taken (stepCounted m dir k s) := hnone
  refine ⟨_, rest, hat, hafter, ?_⟩
  rw [hexec, hhandlings, hrest, handleRest_before hcounted c hturning]
  generalize (turning dir k).foldl (handle c) (stepCounted m dir k s) = u at hat ⊢
  have hu : NoneTaken taken u := by rwa [NoneTaken, hat.run]
  have hrunU : u.run.state = .weaving ∨ u.run.state = .stopping := by rwa [hat.run]
  have hkeep : handle c u .keep = u := keepShed_running c (by rcases hrunU with hr | hr <;> simp [hr])
  have hlatch : handle c u .latch = latchRequest dir u := by
    rw [handle, hdir, requestLatch_asked (by rwa [hat.asc]) hrunU hcross]
  rw [handleRest_cons hu, hkeep, handleRest_cons hu, hlatch]

/-- Where RUN takes no cause, what follows the latch request leaves the shed to the step's end. -/
theorem exec_latchStep_waits {m : MachineRecord} {line : EncLine} {dir : Direction} {s : State} {sn : Snapshot}
    (h : StepReady m line dir s) (hw : (stepInfo m.counts s.stk.position dir).wrap = false)
    (hcross : (stepInfo m.counts s.stk.position dir).crosses sn.latchAngle = true) (hsn : s.asc.snapshot = some sn)
    (hrun : s.run.state = .weaving ∨ s.run.state = .stopping) (elapsed : Nat) :
    ∃ u v, AtLatch dir s u ∧ LatchPassed (latchRequest dir u) v ∧
      exec (.encoderStep line elapsed [] (.only [])) s = .next (kickTransmitter v) := by
  obtain ⟨u, rest, hu, hafter, hexec⟩ := exec_latchStep h hw hcross hsn hrun (taken := .only []) (.inl rfl) elapsed
  exact ⟨u, _, hu, handles_latchPassed _ hafter _, hexec⟩

section
variable {dir : Direction} {s u v : State}

/-- What a step that takes no cause leaves of RUN, of the pick run and of the snapshot. -/
theorem latchStep_leaves (hu : AtLatch dir s u) (hv : LatchPassed (latchRequest dir u) v) :
    HandedOn s v ∧ { (kickTransmitter v).psq with current := s.psq.current } = s.psq ∧
      (kickTransmitter v).asc.snapshot.map Snapshot.unarmed = s.asc.snapshot.map Snapshot.unarmed := by
  have houtcome := hv.outcome
  have hsnapshot := hv.snapshot
  simp only [kickTransmitter_frame]
  simp only [latchRequest_frame, hu.psq] at houtcome
  simp only [latchRequest_frame, hu.asc] at hsnapshot
  obtain ⟨f, _, hf⟩ := houtcome
  exact ⟨(hu.handed.trans (latchRequest_handedOn dir u)).trans hv.handed, by rw [hf], hsnapshot⟩

/-- 04 R71, R72: a request with every chain READY strobes once and sets the tag. -/
theorem latchStep_fires (hu : AtLatch dir s u) (hv : LatchPassed (latchRequest dir u) v) {n : PickRecord}
    (hn : s.recordFor dir = some n) (hr : s.allReady n.ordinal = true) :
    (kickTransmitter v).hci.tag = { ordinal := some n.ordinal, stale := false, degraded := s.anyDegraded } ∧
      (kickTransmitter v).lineOut.filter (fun x => x = .strobe) = [.strobe] := by
  have hfires := latchRequest_fires (hu.recordFor.trans hn) ((hu.allReady hn).trans hr)
  obtain ⟨htag, hstrobes⟩ := fired_tag n.ordinal u
  simp only [kickTransmitter_frame]
  rw [hv.hci, hv.lines, hfires, htag, hstrobes, hu.anyDegraded hn hr, hu.strobes]
  exact ⟨rfl, rfl⟩

/-- 04 R73: a request that misses leaves the shed, and posts its record. -/
theorem latchStep_misses (hu : AtLatch dir s u) (hv : LatchPassed (latchRequest dir u) v) {x : Event × StopCause}
    (hx : latchMiss dir u = some x) :
    (kickTransmitter v).hci = u.hci ∧ (kickTransmitter v).hci.tag = s.hci.tag ∧
      LineItem.strobe ∉ (kickTransmitter v).lineOut ∧
      (s.dlp.transmitter ≠ none → Posted x.1 (kickTransmitter v)) := by
  have hmisses := latchRequest_misses hx
  obtain ⟨hhci, hlines, _⟩ := missed_frame dir x u
  have hleft : (kickTransmitter v).hci = u.hci := by simp [hv.hci, hmisses, hhci]
  have hdriven : v.lineOut = u.lineOut := by rw [hv.lines, hmisses, hlines]
  have hloom : LoomEvent s (latchRequest dir u) := (hu.handed.trans (latchRequest_handedOn dir u)).toLoomEvent
  exact ⟨hleft, hleft ▸ hu.tag, by simpa [hdriven] using hu.strobe,
    fun hbusy => hloom.posted_kick hv.handed.toLoomEvent hbusy (hmisses ▸ missed_posted dir x u)⟩

/-- 04 R73, R75: a request with a chain not READY posts the states of the chains, which stay to the step's end. -/
theorem latchStep_late (hu : AtLatch dir s u) (hv : LatchPassed (latchRequest dir u) v) {n : PickRecord}
    (hn : s.recordFor dir = some n) (hr : s.allReady n.ordinal = false) :
    (kickTransmitter v).hci.tag = s.hci.tag ∧ LineItem.strobe ∉ (kickTransmitter v).lineOut ∧
      (s.dlp.transmitter ≠ none →
        Posted (.lateNotReady dir n.ordinal s.hci.tag s.run.state (kickTransmitter v).chainReports)
          (kickTransmitter v)) := by
  obtain ⟨hhci, htag, hno, hposted⟩ := latchStep_misses hu hv
    (latchMiss_late (hu.recordFor.trans hn) ((hu.allReady hn).trans hr))
  have hreports : (kickTransmitter v).chainReports = u.chainReports :=
    chainReports_congr (by simpa using hv.handed.tbm) hhci
  rw [hu.tag, hu.run, ← hreports] at hposted
  exact ⟨htag, hno, hposted⟩

/-- 04 R73: a request with the slot empty. -/
theorem latchStep_starved (hu : AtLatch dir s u) (hv : LatchPassed (latchRequest dir u) v)
    (hn : s.recordFor dir = none) :
    (kickTransmitter v).hci.tag = s.hci.tag ∧ LineItem.strobe ∉ (kickTransmitter v).lineOut ∧
      (s.dlp.transmitter ≠ none → Posted (.lateStarved dir s.hci.tag s.run.state) (kickTransmitter v)) := by
  obtain ⟨_, htag, hno, hposted⟩ := latchStep_misses hu hv (latchMiss_starved (hu.recordFor.trans hn))
  rw [hu.tag, hu.run] at hposted
  exact ⟨htag, hno, hposted⟩

/-- 04 R73: of the causes of a latch request, a step hands that of its own miss alone. -/
theorem latchStep_hands (hu : AtLatch dir s u) (hv : LatchPassed (latchRequest dir u) v) {c : StopCause}
    (hc : c.OfLatch) :
    .stop c ∈ (kickTransmitter v).run.handed ↔
      .stop c ∈ s.run.handed ∨
        ((latchMiss dir s).map Prod.snd = some c ∧ dir = .forward ∧ s.run.state = .weaving) := by
  simp only [kickTransmitter_frame]
  rw [← hu.latchMiss_cause, ← hu.run, ← latchRequest_hands]
  refine ⟨fun hm => (hv.causes _ hm).elim id ?_, hv.handed.grows _⟩
  rintro ⟨x, hx, hno⟩
  obtain rfl := Cause.stop.inj hx
  exact absurd hc hno

end

/-! ### The loom stopped by a latch request -/

/-- The loom is STOPPING for a cause, with a tag in force and no strobe driven; only stop causes wait. -/
structure StoppingFor (c : StopCause) (tag : ShedTag) (t : State) : Prop where
  state : t.run.state = .stopping
  permit : t.run.permit = false
  first : t.run.firstStop = some c
  tag : t.hci.tag = tag
  lines : LineItem.strobe ∉ t.lineOut
  waiting : ∀ x ∈ t.run.handed, ∃ y, x = .stop y

namespace StoppingFor

variable {c : StopCause} {tag : ShedTag} {t u : State}

theorem passed (h : StoppingFor c tag t) (hp : LatchPassed t u) : StoppingFor c tag u := by
  have hrun := hp.handed.run
  refine ⟨by rw [hrun]; exact h.state, by rw [hrun]; exact h.permit, by rw [hrun]; exact h.first,
    by rw [hp.hci]; exact h.tag, by rw [hp.lines]; exact h.lines, fun x hx => ?_⟩
  exact (hp.causes x hx).elim (h.waiting x) fun ⟨y, hy, _⟩ => ⟨y, hy⟩

/-- 09 R168: a stop cause taken in STOPPING is a later one. -/
theorem takeCause (h : StoppingFor c tag t) (x : StopCause) : StoppingFor c tag (takeCause t (.stop x)) := by
  have hlater : Machine.takeCause t (.stop x) = laterCause (.stop x) t := takeStop_later x t (by simp [h.state])
  rw [hlater]
  exact ⟨by simpa [laterCause] using h.state, by simpa [laterCause] using h.permit,
    by simpa [laterCause] using h.first, by simpa using h.tag, by simpa using h.lines,
    by simpa [laterCause] using h.waiting⟩

theorem drain (h : StoppingFor c tag t) : StoppingFor c tag (drain t) := by
  have hempty : StoppingFor c tag { t with run := { t.run with handed := [] } } :=
    ⟨h.state, h.permit, h.first, h.tag, h.lines, by simp⟩
  refine List.foldlRecOn t.run.handed Machine.takeCause hempty fun v hv x hx => ?_
  obtain ⟨y, rfl⟩ := h.waiting x hx
  exact hv.takeCause y

theorem handleRest (h : StoppingFor c tag t) (i : StepInfo) {rest : List Handling}
    (hrest : ∀ x ∈ rest, x.afterLatch = true) : StoppingFor c tag (rest.foldl (handleAndDrain i) t) :=
  List.foldlRecOn rest _ h fun v hv x hx => (hv.passed (handle_latchPassed i v (hrest x hx))).drain

end StoppingFor

/-- 09 R167: a stop cause taken in WEAVING stops the moving loom and leaves the shed. -/
theorem takeStop_stoppingFor {s : State} (hw : s.run.state = .weaving) (hm : s.stk.motion = .moving)
    (hl : LineItem.strobe ∉ s.lineOut) (hq : s.run.handed = []) (c : StopCause) :
    StoppingFor c s.hci.tag (takeStop c s) := by
  rw [takeStop_moving c s hw hm]
  refine ⟨by simp, by simp, by simp, by rw [changeState_tag _ _ (by simp)], ?_, by simp [hq]⟩
  simp only [changeState, postRunState_frame]
  exact settle_no_strobe _ (by simp [enterState_run]) (by simpa using hl)

/-- The cause of a missed latch, taken as it is handed, stops the loom. -/
theorem drain_missed {s u : State} (hu : AtLatch .forward s u) (hw : s.run.state = .weaving)
    (hquiet : s.run.handed = []) (x : Event × StopCause) :
    StoppingFor x.2 s.hci.tag (drain (missed .forward x u)) := by
  have hhanded : (missed .forward x u).run.handed = [.stop x.2] := by
    rw [missed_run, hu.run, hquiet, if_pos ⟨rfl, hw⟩]
    rfl
  obtain ⟨hhci, hlines, hstk⟩ := missed_frame .forward x u
  have hstops := takeStop_stoppingFor
    (s := { missed .forward x u with run := { (missed .forward x u).run with handed := [] } })
    (by simp [missed_run, hu.run, hw]) (by simp [hstk, hu.motion]) (by simpa [hlines] using hu.strobe) rfl x.2
  rw [drain_of_one _ _ hhanded, ← hu.tag, ← hhci]
  exact hstops

/-- 09 R167: a missed forward latch in WEAVING, its cause taken as it is handed, stops the loom for it. -/
theorem exec_latchStep_stops {m : MachineRecord} {line : EncLine} {s : State} {sn : Snapshot} {cause : StopCause}
    (h : StepReady m line .forward s) (hwrap : (stepInfo m.counts s.stk.position .forward).wrap = false)
    (hcross : (stepInfo m.counts s.stk.position .forward).crosses sn.latchAngle = true)
    (hsn : s.asc.snapshot = some sn) (hw : s.run.state = .weaving) (hquiet : s.run.handed = [])
    (hcause : (latchMiss .forward s).map Prod.snd = some cause) (elapsed : Nat) :
    ∃ t, exec (.encoderStep line elapsed [] .every) s = .next (kickTransmitter t) ∧
      StoppingFor cause s.hci.tag t := by
  obtain ⟨u, rest, hu, hafter, hexec⟩ :=
    exec_latchStep h hwrap hcross hsn (.inl hw) (taken := .every) (.inr hquiet) elapsed
  obtain ⟨x, hx, rfl⟩ := Option.map_eq_some_iff.mp (hu.latchMiss_cause.trans hcause)
  rw [latchRequest_misses hx] at hexec
  exact ⟨_, hexec, ((drain_missed hu hw hquiet x).handleRest _ hafter).drain⟩

end Sys2Proof.Machine

namespace Sys2Proof.Machine

/-! ### A step over angle 0 or L in STOPPED -/

/-- 04 R77: where every chain is READY with the required pick and the tag does not name it, the latch fires. -/
theorem latchIfDue_fires {s : State} {o : Ordinal} (hst : s.run.state = .stopped) (hreq : s.hci.required = some o)
    (hready : s.allReady o = true) (htag : s.tagNames o = false) : latchIfDue s = fireLatch o s := by
  simp [latchIfDue, hreq, hst, htag, hready]

theorem latchIfDue_rests {s : State} {o : Ordinal} (hreq : s.hci.required = some o)
    (h : s.allReady o = false ∨ s.tagNames o = true) : latchIfDue s = s := by
  rcases h with h | h <;> simp [latchIfDue, hreq, h]

/-- 04 R77: with every chain READY with the required pick, the tag names it once a due latch is tested. -/
theorem latchIfDue_names {s : State} {o : Ordinal} (hst : s.run.state = .stopped) (hreq : s.hci.required = some o)
    (hready : s.allReady o = true) : (latchIfDue s).tagNames o = true := by
  cases htag : s.tagNames o with
  | true => rwa [latchIfDue_rests hreq (.inr htag)]
  | false =>
    rw [latchIfDue_fires hst hreq hready htag]
    simp [fireLatch, State.tagNames]

theorem allReady_evalTarget {s : State} {o : Ordinal} (h : (evalTarget s).allReady o = true) :
    s.allReady o = true := by
  rw [allReady_iff, usedChains_congr (s := s) (by simp)] at h
  exact (allReady_iff s o).mpr fun k hk => (evalTarget_noNewImage s).ready k o (h k hk)

theorem tagNames_congr {s t : State} (h : t.hci.tag = s.hci.tag) (o : Ordinal) : t.tagNames o = s.tagNames o := by
  simp [State.tagNames, h]

theorem allReady_congr {s t : State} (hc : t.hci.chains = s.hci.chains) (hm : t.tbm = s.tbm) (o : Ordinal) :
    t.allReady o = s.allReady o := by
  unfold State.allReady
  rw [usedChains_congr hm, hc]

theorem anyDegraded_congr {s t : State} (hc : t.hci = s.hci) (hm : t.tbm = s.tbm) : t.anyDegraded = s.anyDegraded := by
  unfold State.anyDegraded
  rw [usedChains_congr hm, hc]

/-- 04 R77: after settling in STOPPED the tag names a required pick with which every chain is READY. -/
theorem settle_names {s : State} {o : Ordinal} (hst : s.run.state = .stopped) (hreq : s.newRequired = some o)
    (hready : (settle s).allReady o = true) : (settle s).tagNames o = true := by
  have hlatched := allReady_evalTarget hready
  rw [allReady_congr (s := evalRequired s) (latchIfDue_chains _) (by simp)] at hlatched
  rw [settle, tagNames_congr (s := latchIfDue (evalRequired s)) (by simp)]
  exact latchIfDue_names hst hreq hlatched

/-- 04 R76, R77: settling in STOPPED fires the latch of a required pick with which every chain is READY and which the
tag does not name. -/
theorem settle_fires {s : State} {o : Ordinal} (hst : s.run.state = .stopped) (hreq : s.newRequired = some o)
    (hready : s.allReady o = true) (htag : s.tagNames o = false) :
    LineItem.strobe ∈ (settle s).lineOut ∧
      (settle s).hci.tag = { ordinal := some o, stale := false, degraded := s.anyDegraded } := by
  have hfires : latchIfDue (evalRequired s) = fireLatch o (evalRequired s) := latchIfDue_fires hst hreq hready htag
  unfold settle
  rw [hfires]
  refine ⟨(evalTarget_noNewImage _).lines.subset (by simp [fireLatch]), ?_⟩
  simp only [evalTarget_tag, fireLatch]
  rfl

/-- 04 R76, R77: settling in STOPPED with a chain not READY, or the tag in place, drives no strobe. -/
theorem settle_rests {s : State} {o : Ordinal} (hreq : s.newRequired = some o)
    (h : s.allReady o = false ∨ s.tagNames o = true) (hl : LineItem.strobe ∉ s.lineOut) :
    LineItem.strobe ∉ (settle s).lineOut ∧ (settle s).hci.tag = s.hci.tag := by
  have hrests : latchIfDue (evalRequired s) = evalRequired s := latchIfDue_rests hreq h
  have hno : LineItem.strobe ∉ (settle s).lineOut := fun hm => by
    unfold settle at hm
    rw [hrests] at hm
    exact hl ((evalTarget_noNewImage (evalRequired s)).strobe hm)
  exact ⟨hno, settle_tag_of_no_strobe s hno⟩

/-- The state in which a step's crossing of angle 0 or L is handled in STOPPED, as the state before the step has it. -/
structure AtKeep (m : MachineRecord) (dir : Direction) (s u : State) : Prop where
  handed : HandedOn s u
  stopped : u.run.state = .stopped
  machine : u.tbm.machine = some m
  homed : u.stk.homing = .homed
  position : u.stk.position = nextPosition m.counts s.stk.position dir
  straight : (stepInfo m.counts s.stk.position dir).wrap = false → s.stk.direction = dir →
    u.psq = s.psq ∧ u.hci = s.hci ∧ u.lineOut = []

/-- 04 R76: in STOPPED a crossing of angle 0 or L is settled; what follows requests no latch. -/
theorem exec_keepStep {m : MachineRecord} {line : EncLine} {dir : Direction} {s : State} (h : StepReady m line dir s)
    (hst : s.run.state = .stopped)
    (hcross : (stepInfo m.counts s.stk.position dir).crosses 0 = true ∨
      (stepInfo m.counts s.stk.position dir).crosses m.latchAngle = true) (elapsed : Nat) :
    ∃ u v, AtKeep m dir s u ∧ LatchPassed (settle u) v ∧
      exec (.encoderStep line elapsed [] (.only [])) s = .next (kickTransmitter v) := by
  obtain ⟨k, hk, hexec⟩ := exec_defaultStep h elapsed (.only [])
  obtain ⟨_, hm, hhomed, _, _⟩ := h
  have hhoming := hk.homing.trans hhomed
  obtain ⟨before, rest, hhandlings, hafter, hinside⟩ := stepHandlings_homed (m := m) (dir := dir) s.run.state hhoming
  have hcounted : HandedOn s (stepCounted m dir k s) := .of_same rfl rfl rfl rfl rfl rfl rfl
  have hstk : ∀ (l : List Handling) (c : StepInfo) (w : State), (l.foldl (handle c) w).stk = w.stk := fun l c w =>
    foldl_keeps (fun x : State => x.stk) _ (fun x y => by simp) l w
  let c := stepInfo m.counts s.stk.position dir
  let u := before.foldl (handle c) (stepCounted m dir k s)
  have hhanded : HandedOn s u := hcounted.trans (handles_handedOn c before _)
  have hat : AtKeep m dir s u :=
    { handed := hhanded
      stopped := hhanded.state.trans hst
      machine := by rw [hhanded.tbm, hm]
      homed := by simp only [u, hstk]; simpa [stepCounted] using hhoming
      position := by simp only [u, hstk]; simp [stepCounted, hk.position]
      straight := fun hwrap hdir => by
        have hnil : before = [] := by
          rw [hinside (by rwa [hk.position]), turning, if_neg (by simp [hk.direction, hdir])]
        simp only [u, hnil]
        exact ⟨rfl, rfl, rfl⟩ }
  have hkeep : handle c u .keep = settle u := by
    simp only [handle, keepShed, hat.machine]
    exact if_pos ⟨hat.stopped, hcross⟩
  have hlatch : handle c (settle u) .latch = settle u :=
    requestLatch_unasked _ _ (by simp [hat.stopped]) (by simp [hat.stopped])
  refine ⟨u, rest.foldl (handle c) (settle u), hat, handles_latchPassed c hafter _, ?_⟩
  rw [hexec, hhandlings]
  simp only [takeCauses, handleRest, List.foldl_nil, List.foldl_append, List.foldl_cons]
  change Host.Outcome.next (kickTransmitter (rest.foldl (handle c) (handle c (handle c u .keep) .latch))) = _
  rw [hkeep, hlatch]

/-- What follows the settling in such a step leaves the shed, the lines, the tracker and the slots. -/
theorem keepStep_leaves {u v : State} (hv : LatchPassed (settle u) v) :
    (kickTransmitter v).hci = (settle u).hci ∧ (kickTransmitter v).lineOut = (settle u).lineOut ∧
      (kickTransmitter v).tbm = (settle u).tbm ∧ (kickTransmitter v).stk = u.stk ∧
      (kickTransmitter v).currentOrdinal = u.currentOrdinal ∧ (kickTransmitter v).nextOrdinal = u.nextOrdinal := by
  have houtcome : u.psq.OutcomeOnly (kickTransmitter v).psq := by simpa using hv.outcome
  exact ⟨by simpa using hv.hci, by simpa using hv.lines, by simpa using hv.handed.tbm,
    by simpa using hv.stk, houtcome.ordinals⟩

namespace AtKeep

variable {m : MachineRecord} {dir : Direction} {s u : State}

theorem newRequired (h : AtKeep m dir s u) :
    u.newRequired =
      if angleOf m.counts u.stk.position < m.latchAngle then u.currentOrdinal else u.nextOrdinal := by
  rw [newRequired_on h.machine, if_pos ⟨h.stopped, h.homed⟩]

/-- 04 R76: off the pick boundary a forward step leaves L behind, so that NEXT is required; a backward one brings L
ahead, so that CURRENT is. -/
theorem newRequired_straight (h : AtKeep m dir s u)
    (hcross : (stepInfo m.counts s.stk.position dir).crosses 0 = true ∨
      (stepInfo m.counts s.stk.position dir).crosses m.latchAngle = true)
    (hwrap : (stepInfo m.counts s.stk.position dir).wrap = false) (hdir : s.stk.direction = dir) {n : PickRecord}
    (hn : s.recordFor dir = some n) : u.newRequired = some n.ordinal := by
  obtain ⟨hpsq, _, _⟩ := h.straight hwrap hdir
  rw [h.newRequired, h.position]
  have hbetween : (stepInfo m.counts s.stk.position dir).below < m.latchAngle ∧
      m.latchAngle ≤ (stepInfo m.counts s.stk.position dir).above := by
    simpa [StepInfo.crosses, hwrap] using hcross
  obtain ⟨hbelow, habove⟩ := hbetween
  cases dir with
  | forward =>
    rw [if_neg (by simpa [stepInfo] using habove)]
    rw [State.nextOrdinal, hpsq]
    exact congrArg (Option.map PickRecord.ordinal) hn
  | backward =>
    rw [if_pos (by simpa [stepInfo] using hbelow)]
    rw [State.currentOrdinal, hpsq]
    exact congrArg (Option.map PickRecord.ordinal) hn

end AtKeep

end Sys2Proof.Machine

namespace Sys2Proof.Machine

/-! ### The step as the statement has it -/

/-- 05 R97: off the pick boundary the angles crossed are those above the angle of the lower count, up to that of the
higher one. -/
theorem crosses_forward {n p angle : Nat} (hp : p + 1 < n) (hbelow : angleOf n p < angle)
    (habove : angle ≤ angleOf n (p + 1)) :
    (stepInfo n p .forward).wrap = false ∧ (stepInfo n p .forward).crosses angle = true := by
  simp [stepInfo, nextPosition, StepInfo.crosses, hp, hbelow, habove]

theorem crosses_backward {n p angle : Nat} (hp : 0 < p) (hbelow : angleOf n (p - 1) < angle)
    (habove : angle ≤ angleOf n p) :
    (stepInfo n p .backward).wrap = false ∧ (stepInfo n p .backward).crosses angle = true := by
  have hne : p ≠ 0 := Nat.ne_of_gt hp
  simp [stepInfo, nextPosition, StepInfo.crosses, hne, hbelow, habove]

/-- Settles O36: the latch request meets the shed as it was before the step, but for a change of direction, which
leaves the chains that are READY with its record; what follows it leaves the shed. In STOPPED the crossing settles. -/
theorem latchRequestFiresOrStops : Obligations.LatchRequestFiresOrStops := by
  refine ⟨?_, ?_⟩
  · intro s m line elapsed dir sn h target crossed hcrossed hsn hrun stops starved late
    have htarget : target = s.recordFor dir := by cases dir <;> rfl
    obtain ⟨hwrap, hcross⟩ : (stepInfo m.counts s.stk.position dir).wrap = false ∧
        (stepInfo m.counts s.stk.position dir).crosses sn.latchAngle = true := by
      cases dir with
      | forward =>
        obtain ⟨hinside, hbelow, habove⟩ := hcrossed
        exact crosses_forward hinside hbelow habove
      | backward =>
        obtain ⟨hinside, hbelow, habove⟩ := hcrossed
        exact crosses_backward hinside hbelow habove
    clear_value target
    subst htarget
    refine ⟨?_, fun hstops hquiet cause hcause => ?_⟩
    · obtain ⟨u, v, hu, hv, hexec⟩ := exec_latchStep_waits h hwrap hcross hsn hrun elapsed
      obtain ⟨hleft, hpsq, hsnapshot⟩ := latchStep_leaves hu hv
      rw [hsn] at hsnapshot
      refine ⟨_, hexec, undisturbed_kick hleft.undisturbed, by simpa using hleft.run, by simpa using hpsq,
        hsnapshot, fun n hn hr => latchStep_fires hu hv hn hr, ?_, fun hn => latchStep_starved hu hv hn, ?_,
        fun o => ?_⟩
      · rintro _ ⟨n, hn, rfl, hr⟩
        exact latchStep_late hu hv hn hr
      · rw [latchStep_hands hu hv (.inl rfl), latchMiss_starved_iff]
      · rw [latchStep_hands hu hv (.inr ⟨o, rfl⟩), latchMiss_late_iff]
    · obtain ⟨rfl, hw⟩ := hstops
      obtain ⟨t, hexec, ht⟩ := exec_latchStep_stops h hwrap hcross hsn hw hquiet
        ((latchMiss_cause_iff _ s cause).mpr hcause) elapsed
      exact ⟨_, hexec, by simpa using ht.tag, by simpa using ht.lines, by simpa using ht.state,
        by simpa using ht.permit, by simpa using ht.first⟩
  · intro s m line elapsed dir h hst info hcross
    obtain ⟨u, v, hu, hv, hexec⟩ := exec_keepStep h hst hcross elapsed
    have hleft := (hu.handed.trans (settle_handedOn u)).trans hv.handed
    obtain ⟨hhci, hlines, htbm, hstk, hcurrent, hnext⟩ := keepStep_leaves hv
    have hrequired : (kickTransmitter v).hci.required = u.newRequired := by rw [hhci, settle_required]
    refine ⟨_, hexec, by simpa using hleft.run, ?_, fun o ho hready => ?_, fun n hwrap hdir hn => ?_⟩
    · rw [hrequired, hu.newRequired, hstk, hcurrent, hnext]
    · rw [allReady_congr (congrArg Hci.chains hhci) htbm] at hready
      rw [tagNames_congr (congrArg Hci.tag hhci)]
      exact settle_names hu.stopped (hrequired.symm.trans ho) hready
    · have hn : s.recordFor dir = some n := by cases dir <;> exact hn
      have hreq := hu.newRequired_straight hcross hwrap hdir hn
      obtain ⟨_, hsame, hempty⟩ := hu.straight hwrap hdir
      have hready : u.allReady n.ordinal = s.allReady n.ordinal :=
        allReady_congr (congrArg Hci.chains hsame) hu.handed.tbm _
      have hnames : u.tagNames n.ordinal = s.tagNames n.ordinal := tagNames_congr (congrArg Hci.tag hsame) _
      rw [hhci, hlines, ← hready, ← hnames]
      refine ⟨fun hr ht => ?_, fun hno => ?_⟩
      · rw [← anyDegraded_congr hsame hu.handed.tbm]
        exact settle_fires hu.stopped hreq hr ht
      · rw [← hsame]
        exact settle_rests hreq hno (by simp [hempty])

end Sys2Proof.Machine

/-! ## The Shaft Tracker's own events: levels, HOME, the index, illegal transitions and standstill -/

namespace Sys2Proof.Machine

/-! ### The causes RUN takes -/

/-- Where no cause that waited before is taken, and none is handed, RUN takes none. -/
theorem takeCauses_noneTaken {taken : CausesTaken} {s u : State} (h : NoneTaken taken s) (hu : u.run = s.run) :
    takeCauses taken u = u := by
  obtain rfl | hquiet := h
  · rfl
  · exact takeCauses_of_none taken u (by rw [hu, hquiet])

/-- With none waiting before it, a cause is taken as it is handed. -/
theorem takeCauses_every_hand {u : State} (h : u.run.handed = []) (c : Cause) :
    takeCauses .every (hand c u) = takeCause u c :=
  (drain_of_one (hand c u) c (by simp [h])).trans (congrArg (takeCause · c) (State.self_handed u h))

/-- 09 R167: what a stop cause taken in WEAVING while the shaft moves leaves of RUN and of the link. -/
theorem takeStop_moving_leaves {u : State} (hw : u.run.state = .weaving) (hm : u.stk.motion = .moving) (c : StopCause) :
    (takeStop c u).run = { u.run with state := .stopping, permit := false, firstStop := some c } ∧
      (takeStop c u).dlp = u.dlp.post (.runState .stopping .weaving (some c) u.run.haltCause none) := by
  rw [takeStop_moving c u hw hm]
  simp [hw]

/-- 09 R167, R169: what it leaves at standstill. -/
theorem takeStop_still_leaves {u : State} (hw : u.run.state = .weaving) (hm : u.stk.motion = .standstill)
    (c : StopCause) :
    (takeStop c u).run = { u.run with state := .stopped, permit := false, firstStop := some c } ∧
      (takeStop c u).dlp =
        u.dlp.posts
          [ .runState .stopping .weaving (some c) u.run.haltCause none,
            .runState .stopped .stopping (some c) u.run.haltCause none ] := by
  rw [takeStop_still c u hw hm]
  simp [hw, Dlp.posts]

/-- 09 R170: what a halting cause taken in STOPPED, WEAVING or STOPPING leaves of RUN, of the target and of the link. -/
theorem takeHalt_halts_leaves {u : State} (hoff : u.run.state ≠ .offline) (hhalted : u.run.state ≠ .halted)
    (c : HaltCause) :
    (takeHalt c u).run = { u.run with state := .halted, permit := false, haltCause := some c } ∧
      (takeHalt c u).shb.target = none ∧
      (takeHalt c u).dlp = u.dlp.post (.runState .halted u.run.state u.run.firstStop (some c) none) := by
  rw [takeHalt_halts c u hoff hhalted]
  refine ⟨by simp, changeState_target _ _ (.inr rfl), by simp⟩

/-! ### Levels (05 R86, R87, 07 R125, R126) -/

/-- A change of the tracker alone is an event of the loom. -/
theorem withStk_loomEvent (s : State) (k : Stk) : LoomEvent s { s with lineOut := [], stk := k } :=
  .of_same rfl rfl rfl rfl rfl rfl

/-- A command that changes the tracker alone. -/
theorem exec_tracker {c : Instr} {f : State → State} {s : State} {k : Stk} (hready : s.Ready)
    (hc : exec c s = command f s) (hf : f { s with lineOut := [] } = { s with lineOut := [], stk := k }) :
    ∃ t, exec c s = .next t ∧ ChangedOnly [.dlp, .stk] s t ∧ t.stk = k ∧ LinkLeft s.dlp t := by
  refine ⟨_, hc.trans (command_high f s hready), ?_⟩
  rw [hf]
  exact ⟨by simp [ChangedOnly], by simp, linkLeft_of rfl⟩

/-- A command that changes the monitor and what the link holds. -/
theorem exec_monitor {c : Instr} {f : State → State} {s : State} {w : Wfm} {d : Dlp} (hready : s.Ready)
    (hc : exec c s = command f s) (hf : f { s with lineOut := [] } = { s with lineOut := [], wfm := w, dlp := d }) :
    ∃ t, exec c s = .next t ∧ ChangedOnly [.dlp, .wfm] s t ∧ t.wfm = w ∧ LinkLeft d t := by
  refine ⟨_, hc.trans (command_high f s hready), ?_⟩
  rw [hf]
  exact ⟨by simp [ChangedOnly], by simp, linkLeft_of rfl⟩

/-- SENSOR_LEVEL_ACQUIRED where RUN takes no cause and the acquisition hands none. -/
theorem exec_sensorLevelAcquired {x : Sensor} {l : Level} {taken : CausesTaken} {s : State} {w : Wfm} {d : Dlp}
    (hready : s.Ready) (hnone : NoneTaken taken s)
    (ha : acquireSensor x l { s with lineOut := [] } = { s with lineOut := [], wfm := w, dlp := d }) :
    ∃ t, exec (.sensorLevelAcquired x l taken) s = .next t ∧ ChangedOnly [.dlp, .wfm] s t ∧ t.wfm = w ∧ LinkLeft d t :=
  exec_monitor (f := fun u => takeCauses taken (acquireSensor x l u)) hready rfl
    (by rw [ha]; exact takeCauses_noneTaken hnone rfl)

/-- 05 R87: with a machine record present an input is acquired. -/
theorem acquireLevel_machine {s : State} {m : MachineRecord} (hm : s.tbm.machine = some m) (input : EncInput)
    (l : Level) : acquireLevel input l { s with lineOut := [] } = { s with lineOut := [], stk := s.stk.acquire input l } := by
  simp [acquireLevel, hm]

/-- 07 R126: a feeder line acquired at BREAK that is not watched alarms. -/
theorem acquireSensor_alarms {s : State} {m : MachineRecord} {f : FeederIdx} (hm : s.tbm.machine = some m)
    (hf : s.wfm.feeders[f] = none) (hw : s.wfm.watch ≠ some f) :
    acquireSensor (.feeder f) .high { s with lineOut := [] } =
      { s with
        lineOut := [], wfm := { s.wfm with feeders := s.wfm.feeders.set f.val (some .high) }
        dlp :=
          s.dlp.post (.feederAlarm f s.angle s.run.state (s.psq.current.map fun r => (r.ordinal, r.weft))) } := by
  have hbroken : feederBroken f (setFeeder f .high { s with lineOut := [] }) =
      feederAlarm f (setFeeder f .high { s with lineOut := [] }) := if_neg hw
  simp only [acquireSensor, hm, hf, Option.isSome_some, Option.isNone_none, if_true, hbroken]
  exact post_eq _ _

/-- Settles O27: each level is acquired, or falls, by an update of its own; an alarm is posted beside it. -/
theorem levelsAreAcquiredAndFall : Obligations.LevelsAreAcquiredAndFall := by
  intro s m l f taken hready hnone hm tracker monitor feeder
  refine ⟨fun h => ?encA, fun h => ?encB, fun h => ?encZ, fun h => ?enczFall, fun h => ?arv, fun h => ?arvFall,
    fun h => ?clear, fun h hw => ?alarm, fun h => ?feederClear⟩
  case encA =>
    exact exec_tracker (f := acquireLevel .encA l) hready rfl
      ((acquireLevel_machine hm .encA l).trans (by simp [Stk.acquire, h]))
  case encB =>
    exact exec_tracker (f := acquireLevel .encB l) hready rfl
      ((acquireLevel_machine hm .encB l).trans (by simp [Stk.acquire, h]))
  case encZ =>
    exact exec_tracker (f := acquireLevel .encZ l) hready rfl
      ((acquireLevel_machine hm .encZ l).trans (by simp [Stk.acquire, h]))
  case enczFall => exact exec_tracker (f := indexFall) hready rfl (by simp [indexFall, hm, h])
  case arv => exact exec_sensorLevelAcquired hready hnone (by simp [acquireSensor, hm, h, setArv])
  case arvFall => exact exec_monitor (f := arvFalls) hready rfl (by simp [arvFalls, hm, h, setArv])
  case clear => exact exec_sensorLevelAcquired hready hnone (by simp [acquireSensor, hm, h, setFeeder, feeder])
  case alarm => exact exec_sensorLevelAcquired hready hnone (acquireSensor_alarms hm h hw)
  case feederClear =>
    exact exec_monitor (f := feederClears f) hready rfl (by simp [feederClears, hm, h, setFeeder, feeder])

end Sys2Proof.Machine

namespace Sys2Proof.Machine

/-! ### HOME (05 R91) -/

theorem allowsHome_iff (st : RunState) : st.allowsHome = true ↔ st ≠ .weaving ∧ st ≠ .stopping := by
  cases st <;> simp [RunState.allowsHome]

/-- 04 R76: while the tracker is not HOMED no pick is required. -/
theorem newRequired_lost {s : State} (h : s.stk.homing ≠ .homed) : s.newRequired = none := by
  simp [State.newRequired, State.angle, h]

/-- 05 R91: what the start of homing leaves, the shed settled with no pick required. -/
@[simp] theorem startHoming_frame (s : State) :
    (startHoming s).pending = s.pending ∧ (startHoming s).resetLine = s.resetLine ∧
    (startHoming s).dlp = s.dlp ∧ (startHoming s).tbm = s.tbm ∧ (startHoming s).psq = s.psq ∧
    (startHoming s).asc = s.asc ∧ (startHoming s).wfm = s.wfm ∧ (startHoming s).drv = s.drv ∧
    (startHoming s).run = s.run ∧ (startHoming s).hci.required = none ∧
    (startHoming s).stk =
      { s.stk with
        homing := .homing, lastDeviation := none, largestDeviation := none, netTravel := 0
        revTime := if s.stk.homing = .homed then none else s.stk.revTime
        revTimer := if s.stk.homing = .homed then none else s.stk.revTimer } := by
  by_cases h : s.stk.homing = .homed
  · simp [startHoming, h, newRequired_lost]
  · simp [startHoming, h, newRequired_lost]

theorem takeHome_starts {s : State} {m : MachineRecord} (hw : s.run.state ≠ .weaving) (hs : s.run.state ≠ .stopping)
    (hm : s.tbm.machine = some m) (p : List Byte) : takeHome p s = answerCommand 7 .ok [] (startHoming s) := by
  simp [takeHome, (allowsHome_iff _).mpr ⟨hw, hs⟩, hm]

/-- Settles O21: HOME starts homing, or is answered by the first condition that is not met. -/
theorem homeStartsHoming : Obligations.HomeStartsHoming := by
  intro s p rest h
  refine ⟨fun hw hs => ⟨fun hm => ?table, fun m hm => ?homing⟩, fun hrun => ?state⟩
  case table =>
    exact answered_command h (eff := takeHome) rfl
      (by simp [takeHome, (allowsHome_iff _).mpr ⟨hw, hs⟩, hm, tableData, enc8, enc16])
  case homing =>
    refine ⟨_, (taking_headTaken h takeHome).trans (by rw [takeHome_starts (s := headTaken rest s) hw hs hm]), ?_⟩
    exact ⟨by simp [ChangedOnly], by simp, by simp, linkLeft_of (by simp [answerCommand, Dlp.taken, commandAnswer])⟩
  case state =>
    have hno : s.run.state.allowsHome = false := by
      rcases hrun with hrun | hrun <;> simp [hrun, RunState.allowsHome]
    exact answered_command h (eff := takeHome) rfl (by simp [takeHome, hno])

end Sys2Proof.Machine

namespace Sys2Proof.Machine

/-! ### Illegal transitions (05 R89) -/

/-- The tracker and the link as an illegal transition leaves them, its cause not handed yet. -/
def illegalCounted (a b : Level) (s : State) : State :=
  post (.encoderIllegal s.stk.position (some (flipLevel a)) (some (flipLevel b)) s.stk.homing)
    { s with
      lineOut := []
      stk :=
        { s.stk with
          encA := some (flipLevel a), encB := some (flipLevel b), illegalCount := satInc 65535 s.stk.illegalCount } }

@[simp] theorem illegalCounted_frame (a b : Level) (s : State) :
    (illegalCounted a b s).pending = s.pending ∧ (illegalCounted a b s).resetLine = s.resetLine ∧
    (illegalCounted a b s).lineOut = [] ∧ (illegalCounted a b s).tbm = s.tbm ∧ (illegalCounted a b s).psq = s.psq ∧
    (illegalCounted a b s).shb = s.shb ∧ (illegalCounted a b s).hci = s.hci ∧ (illegalCounted a b s).asc = s.asc ∧
    (illegalCounted a b s).wfm = s.wfm ∧ (illegalCounted a b s).drv = s.drv ∧ (illegalCounted a b s).run = s.run ∧
    (illegalCounted a b s).stk =
      { s.stk with
        encA := some (flipLevel a), encB := some (flipLevel b), illegalCount := satInc 65535 s.stk.illegalCount } ∧
    (illegalCounted a b s).dlp =
      s.dlp.post (.encoderIllegal s.stk.position (some (flipLevel a)) (some (flipLevel b)) s.stk.homing) := by
  simp [illegalCounted]

/-- Both levels acquired, the transition is counted and its cause handed. -/
theorem exec_illegalTransition {s : State} {m : MachineRecord} {a b : Level} (hready : s.Ready)
    (hm : s.tbm.machine = some m) (ha : s.stk.encA = some a) (hb : s.stk.encB = some b) (taken : CausesTaken) :
    exec (.illegalTransition taken) s =
      .next (kickTransmitter (takeCauses taken (hand m.encoderMode.cause (illegalCounted a b s)))) := by
  have hchange : illegalChange { s with lineOut := [] } = hand m.encoderMode.cause (illegalCounted a b s) := by
    simp only [illegalChange, hm, ha, hb]
    rfl
  exact (causing_high taken illegalChange s hready).trans (by rw [hchange])

theorem illegalCounted_loomEvent (a b : Level) (s : State) : LoomEvent s (illegalCounted a b s) :=
  (withStk_loomEvent s _).trans (post_handedOn _ _).toLoomEvent

/-- 09 R168, R171: a cause that changes no state, taken as the transition ends. -/
theorem illegalCounted_later (a b : Level) (s : State) (c : Cause) :
    let t := kickTransmitter (laterCause c (illegalCounted a b s))
    ChangedOnly [.dlp, .stk, .run] s t ∧ t.run = { s.run with lastLater := some c } ∧
      LinkLeft
        (s.dlp.posts
          [ .encoderIllegal s.stk.position (some (flipLevel a)) (some (flipLevel b)) s.stk.homing,
            .runState s.run.state s.run.state s.run.firstStop s.run.haltCause (some c) ]) t :=
  ⟨by simp [ChangedOnly], by simp, linkLeft_of (by simp [Dlp.posts])⟩

/-- Settles O29: the transition is counted and its cause handed; RUN's taking of it is that of a stop or halting
cause. -/
theorem illegalTransitionMakesNoStep : Obligations.IllegalTransitionMakesNoStep := by
  intro s m a b hready hm ha hb record later tracker cause
  have hcause : cause = m.encoderMode.cause := rfl
  have hexec := exec_illegalTransition hready hm ha hb
  clear_value cause
  subst hcause
  refine ⟨⟨_, hexec (.only []), ?_⟩, fun hquiet => ?_⟩
  · rw [takeCauses_none]
    exact ⟨by simp [ChangedOnly], by simp [tracker], by simp, linkLeft_of (by simp [record])⟩
  · have htake := takeCauses_every_hand (u := illegalCounted a b s) (by simpa using hquiet) m.encoderMode.cause
    refine ⟨_, (hexec .every).trans (by rw [htake]), ?_, ?_, fun hmode hrun => ?later, fun hmode hrun hmotion => ?moving,
      fun hmode hrun hmotion => ?still, fun hmode hrun => ?laterHalt, fun hmode hoff hhalted => ?halts⟩
    · exact undisturbed_kick ((illegalCounted_loomEvent a b s).trans (takeCause_loomEvent _ _)).undisturbed
    · simp [takeCause_stk, tracker]
    all_goals simp only [hmode, EncoderFaultMode.cause, takeCause]
    case later =>
      rw [takeStop_later _ _ (by simpa using hrun)]
      exact illegalCounted_later a b s _
    case moving =>
      obtain ⟨hr, hd⟩ := takeStop_moving_leaves (u := illegalCounted a b s) (by simpa using hrun)
        (by simpa using hmotion) .encoderFault
      exact ⟨by simp [hr], linkLeft_of (by simp [hd, record, Dlp.posts])⟩
    case still =>
      obtain ⟨hr, hd⟩ := takeStop_still_leaves (u := illegalCounted a b s) (by simpa using hrun)
        (by simpa using hmotion) .encoderFault
      exact ⟨by simp [hr], linkLeft_of (by simp [hd, record, Dlp.posts])⟩
    case laterHalt =>
      rw [takeHalt_later _ _ (by simpa using hrun)]
      exact illegalCounted_later a b s _
    case halts =>
      obtain ⟨hr, ht, hd⟩ := takeHalt_halts_leaves (u := illegalCounted a b s) (by simpa using hoff)
        (by simpa using hhalted) .encoderFault
      exact ⟨by simp [hr], by simp [ht], linkLeft_of (by simp [hd, record, Dlp.posts])⟩

end Sys2Proof.Machine

namespace Sys2Proof.Machine

/-! ### The index (05 R92 to R94) -/

/-- The state in which an index pulse meets the tracker: ENCZ accepted high. -/
def pulsed (s : State) : State := { s with lineOut := [], stk := { s.stk with encZ := some .high } }

@[simp] theorem pulsed_frame (s : State) :
    (pulsed s).pending = s.pending ∧ (pulsed s).resetLine = s.resetLine ∧ (pulsed s).lineOut = [] ∧
    (pulsed s).dlp = s.dlp ∧ (pulsed s).tbm = s.tbm ∧ (pulsed s).psq = s.psq ∧ (pulsed s).shb = s.shb ∧
    (pulsed s).hci = s.hci ∧ (pulsed s).asc = s.asc ∧ (pulsed s).wfm = s.wfm ∧ (pulsed s).drv = s.drv ∧
    (pulsed s).run = s.run ∧ (pulsed s).stk = { s.stk with encZ := some .high } :=
  ⟨rfl, rfl, rfl, rfl, rfl, rfl, rfl, rfl, rfl, rfl, rfl, rfl, rfl⟩

/-- With ENCZ accepted low the pulse is taken by the homing state. -/
theorem exec_indexPulse {s : State} {m : MachineRecord} (hready : s.Ready) (hm : s.tbm.machine = some m)
    (hz : s.stk.encZ = some .low) (taken : CausesTaken) :
    exec (.indexPulse taken) s = .next (kickTransmitter (takeCauses taken (takeIndex m (pulsed s)))) := by
  have hrise : indexRise { s with lineOut := [] } = takeIndex m (pulsed s) := by
    simp only [indexRise, hm, hz]
    rfl
  exact (causing_high taken indexRise s hready).trans (by rw [hrise])

/-- 05 R93: the deviation of p from O, folded to half a revolution on either side. -/
theorem indexDeviation_eq {m : MachineRecord} (h : 0 < m.counts) (p : Nat) :
    let r : Int := ((p : Int) - (m.offset : Int)) % (m.counts : Int)
    indexDeviation m p = if 2 * r ≤ (m.counts : Int) then r else r - (m.counts : Int) := by
  intro r
  have hr : ((r.toNat : Nat) : Int) = r := Int.toNat_of_nonneg (Int.emod_nonneg _ (by omega))
  simp only [indexDeviation, foldDeviation]
  rw [show ((p : Int) - (m.offset : Int)) % (m.counts : Int) = r from rfl, hr]
  exact if_congr (by omega) rfl rfl

/-- The state a failed check leaves, its cause not handed yet: the tracker UNHOMED and the shed settled. -/
def indexLost (m : MachineRecord) (d : Int) (s : State) : State :=
  post (.indexMismatch s.stk.position m.offset d)
    (settle (dropRevTime { s with stk := { s.stk with homing := .unhomed } }))

theorem indexFails_eq (m : MachineRecord) (d : Int) (s : State) :
    indexFails m d s = hand (.halt .indexMismatch) (indexLost m d s) := rfl

@[simp] theorem indexLost_frame (m : MachineRecord) (d : Int) (s : State) :
    (indexLost m d s).pending = s.pending ∧ (indexLost m d s).resetLine = s.resetLine ∧
    (indexLost m d s).tbm = s.tbm ∧ (indexLost m d s).psq = s.psq ∧ (indexLost m d s).hci.required = none ∧
    (indexLost m d s).stk = { s.stk with homing := .unhomed, revTime := none, revTimer := none } ∧
    (indexLost m d s).asc = s.asc ∧ (indexLost m d s).wfm = s.wfm ∧ (indexLost m d s).drv = s.drv ∧
    (indexLost m d s).run = s.run ∧
    (indexLost m d s).dlp = s.dlp.post (.indexMismatch s.stk.position m.offset d) := by
  have hlost : (dropRevTime { s with stk := { s.stk with homing := .unhomed } }).newRequired = none :=
    newRequired_lost nofun
  simp [indexLost, hlost]

theorem indexLost_loomEvent (m : MachineRecord) (d : Int) (s : State) : LoomEvent s (indexLost m d s) :=
  (LoomEvent.of_same (by simp) (by simp) (by simp) (by simp) (by simp) (by simp)).trans
    (post_handedOn (.indexMismatch s.stk.position m.offset d)
      (settle (dropRevTime { s with stk := { s.stk with homing := .unhomed } }))).toLoomEvent

/-- 05 R92, R93: whatever the pulse finds, it disturbs nothing. -/
theorem takeIndex_loomEvent (m : MachineRecord) (s : State) : LoomEvent s (takeIndex m s) := by
  unfold takeIndex
  split
  · exact .refl s
  · have hhomed : LoomEvent s
        { s with stk :=
            { s.stk with position := m.offset, homing := .homed, netTravel := 0, indexMissingRaised := false } } :=
      .of_same rfl rfl rfl rfl rfl rfl
    exact hhomed.trans ((post_handedOn _ _).trans (settle_handedOn _)).toLoomEvent
  · dsimp only
    split
    · exact .of_same rfl rfl rfl rfl rfl rfl
    · exact (indexLost_loomEvent m _ s).trans (hand_handedOn _ _).toLoomEvent

theorem takeIndex_unhomed (m : MachineRecord) {s : State} (h : s.stk.homing = .unhomed) : takeIndex m s = s := by
  simp [takeIndex, h]

theorem takeIndex_homing (m : MachineRecord) {s : State} (h : s.stk.homing = .homing) :
    takeIndex m s = homeAt m s := by
  simp [takeIndex, h]

theorem takeIndex_passes {m : MachineRecord} {s : State} (h : s.stk.homing = .homed)
    (hd : (indexDeviation m s.stk.position).natAbs ≤ m.indexTolerance) :
    takeIndex m s = indexPasses (indexDeviation m s.stk.position) s := by
  simp [takeIndex, h, hd]

theorem takeIndex_fails {m : MachineRecord} {s : State} (h : s.stk.homing = .homed)
    (hd : m.indexTolerance < (indexDeviation m s.stk.position).natAbs) :
    takeIndex m s = hand (.halt .indexMismatch) (indexLost m (indexDeviation m s.stk.position) s) := by
  simp [takeIndex, h, Nat.not_le.mpr hd, indexFails_eq]

/-- Settles O30: the pulse is taken by the homing state, its deviation is the folded one, and the cause of a failed
check is taken as a halting cause. -/
theorem indexPulseHomesOrChecks : Obligations.IndexPulseHomesOrChecks := by
  intro s m hready hm hz r d hcounts record lost
  have hexec := exec_indexPulse hready hm hz
  have hd : indexDeviation m s.stk.position = d := indexDeviation_eq hcounts s.stk.position
  clear_value d
  subst hd
  refine ⟨fun taken hnone => ⟨_, hexec taken, ?_, fun h => ?unhomed, fun h => ?homing, fun h hok => ?passes⟩,
    fun h hbad => ?fails⟩
  · exact undisturbed_kick
      (((withStk_loomEvent s _).trans (takeIndex_loomEvent m (pulsed s))).trans (takeCauses_loomEvent taken _)).undisturbed
  case unhomed =>
    rw [takeIndex_unhomed (s := pulsed s) m h, takeCauses_noneTaken (u := pulsed s) hnone rfl]
    exact ⟨by simp [ChangedOnly], by simp, linkLeft_of rfl⟩
  case homing =>
    rw [takeIndex_homing (s := pulsed s) m h, takeCauses_noneTaken hnone (by simp [homeAt])]
    exact ⟨by simp [ChangedOnly, homeAt], by simp [homeAt], linkLeft_of (by simp [homeAt])⟩
  case passes =>
    rw [takeIndex_passes (s := pulsed s) h hok, takeCauses_noneTaken (u := indexPasses _ (pulsed s)) hnone rfl]
    refine ⟨by simp [ChangedOnly, indexPasses], ?_, linkLeft_of rfl⟩
    simp only [kickTransmitter_frame, indexPasses]
    rfl
  case fails =>
    rw [takeIndex_fails (s := pulsed s) h hbad] at hexec
    refine ⟨⟨_, hexec (.only []), ?_⟩, fun hquiet => ?_⟩
    · rw [takeCauses_none]
      exact ⟨by simp [ChangedOnly], by simp [lost], by simp, by simp,
        linkLeft_of (by simp [record])⟩
    · let u := indexLost m (indexDeviation m s.stk.position) (pulsed s)
      have hrunLeft : u.run = s.run := by simp [u]
      have hdlpLeft : u.dlp = s.dlp.post record := by simp [u, record]
      have hu : LoomEvent s u := (withStk_loomEvent s _).trans (indexLost_loomEvent m _ (pulsed s))
      have htake := takeCauses_every_hand (u := u) (by rw [hrunLeft, hquiet]) (.halt .indexMismatch)
      refine ⟨_, (hexec .every).trans (congrArg (fun v => Host.Outcome.next (kickTransmitter v)) htake),
        undisturbed_kick (hu.trans (takeCause_loomEvent _ _)).undisturbed, ?_, fun hrun => ?_, fun hoff hhalted => ?_⟩
      · simp [takeCause_stk, u, lost]
      · rw [takeCause, takeHalt_later _ _ (by rwa [hrunLeft])]
        exact ⟨by simp [hrunLeft], linkLeft_of (by simp [hrunLeft, hdlpLeft, Dlp.posts])⟩
      · obtain ⟨hr, -, hdlp⟩ := takeHalt_halts_leaves (u := u) (by rwa [hrunLeft]) (by rwa [hrunLeft]) .indexMismatch
        rw [takeCause]
        exact ⟨by simp [hr, hrunLeft], linkLeft_of (by simp [hdlp, hrunLeft, hdlpLeft, Dlp.posts])⟩

end Sys2Proof.Machine

namespace Sys2Proof.Machine

/-! ### Standstill (05 R100, R101) -/

/-- The state in which standstill is handed to RUN: the motion state set, T_rev unknown. -/
def stilled (s : State) : State :=
  { s with
    lineOut := []
    stk := { s.stk with motion := .standstill, standstillTimer := none, revTime := none, revTimer := none } }

@[simp] theorem stilled_frame (s : State) :
    (stilled s).pending = s.pending ∧ (stilled s).resetLine = s.resetLine ∧ (stilled s).lineOut = [] ∧
    (stilled s).dlp = s.dlp ∧ (stilled s).tbm = s.tbm ∧ (stilled s).psq = s.psq ∧ (stilled s).shb = s.shb ∧
    (stilled s).hci = s.hci ∧ (stilled s).asc = s.asc ∧ (stilled s).wfm = s.wfm ∧ (stilled s).drv = s.drv ∧
    (stilled s).run = s.run ∧
    (stilled s).stk =
      { s.stk with motion := .standstill, standstillTimer := none, revTime := none, revTimer := none } :=
  ⟨rfl, rfl, rfl, rfl, rfl, rfl, rfl, rfl, rfl, rfl, rfl, rfl, rfl⟩

/-- 05 R101: with the timer running standstill is declared. -/
theorem exec_standstill {s : State} {ms : Nat} (hready : s.Ready) (h : s.stk.standstillTimer = some ms) :
    exec .standstill s =
      .next (kickTransmitter
        (if s.run.state = .stopping then changeState .stopped (stilled s) else stilled s)) := by
  have hdeclare : declareStandstill { s with lineOut := [] } =
      if s.run.state = .stopping then changeState .stopped (stilled s) else stilled s := by
    simp only [declareStandstill, h]
    rfl
  exact (command_high declareStandstill s hready).trans (by rw [hdeclare])

theorem stilled_loomEvent (s : State) : LoomEvent s (stilled s) := withStk_loomEvent s _

/-- 09 R169: the change from STOPPING to STOPPED leaves the snapshot: WEAVING was left before. -/
theorem stilled_stops_asc {s : State} (h : s.run.state = .stopping) :
    (changeState .stopped (stilled s)).asc = s.asc := congrArg Asc.mk (by simp [h])

/-- Settles O31: standstill is declared on the tracker, and RUN goes from STOPPING to STOPPED. -/
theorem standstillIsDeclared : Obligations.StandstillIsDeclared := by
  intro s ms hready htimer
  refine ⟨_, exec_standstill hready htimer, ?_⟩
  by_cases h : s.run.state = .stopping
  · rw [if_pos h]
    refine ⟨undisturbed_kick ((stilled_loomEvent s).trans (changeState_loomEvent _ _)).undisturbed, by simp,
      fun hno => absurd h hno, fun _ => ⟨?_, by simp, linkLeft_of (by simp [h])⟩⟩
    simp [ChangedOnly, stilled_stops_asc h, h]
  · rw [if_neg h]
    exact ⟨undisturbed_kick (stilled_loomEvent s).undisturbed, by simp,
      fun _ => ⟨by simp [ChangedOnly], linkLeft_of rfl⟩, fun hstop => absurd hstop h⟩

end Sys2Proof.Machine

/-! ## The advance of a latency (06 R108) -/

namespace Sys2Proof.Machine

theorem advanceOf_unknown (l : Nat) : advanceOf none l = 0 := rfl

theorem advanceOf_slow {t : Nat} (h : 2000000 < t) (l : Nat) : advanceOf (some t) l = 0 := by
  simp [advanceOf, h]

/-- With T_rev in its limits the advance is the quotient rounded up, at most 900. -/
theorem advanceOf_known {t : Nat} (h : t ≤ 2000000) (l : Nat) :
    advanceOf (some t) l = min 900 (l * 3600 ⌈/⌉ max t 20000) := by
  simp only [advanceOf, Nat.not_lt.mpr h, if_false, Nat.ceilDiv_eq_add_pred_div]
  congr 2
  omega

theorem advanceOf_le (t : Option Nat) (l : Nat) : advanceOf t l ≤ 900 := by
  cases t with
  | none => simp [advanceOf_unknown]
  | some t =>
    by_cases h : t ≤ 2000000
    · rw [advanceOf_known h]
      exact Nat.min_le_left _ _
    · simp [advanceOf_slow (Nat.not_le.mp h)]

/-- The quotient rounded up is the least number whose product with the divisor is not below the dividend. -/
theorem ceilDiv_mul_bounds (n : Nat) {d : Nat} (h : 0 < d) : n ≤ (n ⌈/⌉ d) * d ∧ (n ⌈/⌉ d) * d < n + d := by
  constructor
  · rw [Nat.mul_comm]
    simpa using le_smul_ceilDiv (a := d) (b := n) h
  · rw [Nat.ceilDiv_eq_add_pred_div]
    have := Nat.div_mul_le_self (n + d - 1) d
    omega

/-- Settles O44: the quotient rounded up meets its two bounds, and 900 from the latency that reaches it. -/
theorem advanceOfALatency : Obligations.AdvanceOfALatency := by
  have hused (t : Nat) : 0 < max t 20000 := by omega
  refine ⟨advanceOf_unknown, fun t l h => advanceOf_slow h l, fun t l h => ⟨fun hcap => ?_, fun hbelow => ?_⟩,
    advanceOf_le, fun t => ?_, fun t l h hl => ?_⟩
  · have hquot : 900 ≤ l * 3600 ⌈/⌉ max t 20000 := by
      have := (ceilDiv_mul_bounds (l * 3600) (hused t)).1
      exact Nat.le_of_mul_le_mul_right (hcap.trans this) (hused t)
    rw [advanceOf_known h, Nat.min_eq_left hquot]
  · have hquot : l * 3600 ⌈/⌉ max t 20000 ≤ 900 := by
      rw [ceilDiv_le_iff_le_smul (hused t), smul_eq_mul]
      omega
    rw [advanceOf_known h, Nat.min_eq_right hquot]
    exact ceilDiv_mul_bounds _ (hused t)
  · cases t with
    | none => rfl
    | some t =>
      by_cases h : t ≤ 2000000
      · simp [advanceOf_known h]
      · exact advanceOf_slow (Nat.not_le.mp h) 0
  · have hquot : 0 < l * 3600 ⌈/⌉ max t 20000 := by
      have := (ceilDiv_mul_bounds (l * 3600) (hused t)).1
      refine Nat.pos_of_mul_pos_right (b := max t 20000) ?_
      omega
    rw [advanceOf_known h]
    omega

end Sys2Proof.Machine

/-! ## The actuators stay safe -/

namespace Sys2Proof.Machine

/-! ### What a channel may do -/

theorem sound_iff (c : DriverChannel) :
    c.sound = true ↔
      c.phase.driving = c.inUse.isSome ∧ (c.phase = .blocked ↔ c.block.isSome = true) ∧ c.faultCount ≤ 255 := by
  have hblock : decide (c.phase = .blocked) = c.block.isSome ↔ (c.phase = .blocked ↔ c.block.isSome = true) := by
    rw [Bool.eq_iff_iff, decide_eq_true_eq]
  simp only [DriverChannel.sound, Bool.and_eq_true, decide_eq_true_eq, hblock, and_assoc]

/-- A driving channel is neither BLOCKED nor TESTING (08 R140). -/
theorem not_blocked_of_driving {p : DrivePhase} (h : p.driving = true) : p ≠ .blocked ∧ p ≠ .testing := by
  constructor <;> (rintro rfl; cases h)

/-- From `c` to `c'`, in run state `st`, a channel stays safe: it begins to drive in WEAVING alone, it neither
enters nor leaves TESTING, and it stays sound. -/
structure ChannelSafe (st : RunState) (c c' : DriverChannel) : Prop where
  driving : c'.phase.driving = true → c.phase.driving = true ∨ st = .weaving
  testing : c'.phase = .testing ↔ c.phase = .testing
  sound : c.sound = true → c'.sound = true

namespace ChannelSafe

variable {st : RunState} {c c' : DriverChannel}

theorem refl (st : RunState) (c : DriverChannel) : ChannelSafe st c c := ⟨.inl, .rfl, id⟩

theorem trans {c'' : DriverChannel} (h1 : ChannelSafe st c c') (h2 : ChannelSafe st c' c'') : ChannelSafe st c c'' where
  driving h := (h2.driving h).elim h1.driving .inr
  testing := h2.testing.trans h1.testing
  sound h := h2.sound (h1.sound h)

/-- A driving channel goes on driving by its settings. -/
theorem of_driving (h : c.phase.driving = true) (hd : c'.phase.driving = true) (hu : c'.inUse = c.inUse)
    (hb : c'.block = c.block) (hf : c'.faultCount = c.faultCount) : ChannelSafe st c c' where
  driving _ := .inl h
  testing := iff_of_false (not_blocked_of_driving hd).2 (not_blocked_of_driving h).2
  sound hs := by
    rw [sound_iff] at hs ⊢
    simpa [hd, h, hu, hb, hf, not_blocked_of_driving h, not_blocked_of_driving hd] using hs

/-- A channel keeps its phase. -/
theorem of_phase (hp : c'.phase = c.phase) (hu : c'.inUse = c.inUse) (hb : c'.block = c.block)
    (hf : c.faultCount ≤ 255 → c'.faultCount ≤ 255) : ChannelSafe st c c' where
  driving h := .inl (hp ▸ h)
  testing := by rw [hp]
  sound hs := by
    rw [sound_iff] at hs ⊢
    obtain ⟨hdriving, hblocked, hcount⟩ := hs
    exact ⟨by rw [hp, hu, hdriving], by rw [hp, hb, hblocked], hf hcount⟩

end ChannelSafe

/-- A channel switched off is not driving (08 R152). -/
theorem switchedOff_not_driving (c : DriverChannel) : c.switchedOff.phase.driving = false := by
  unfold DriverChannel.switchedOff
  split
  · rfl
  · exact Bool.eq_false_iff.mpr ‹_›

theorem switchedOff_safe (st : RunState) (c : DriverChannel) : ChannelSafe st c c.switchedOff where
  driving h := by simp [switchedOff_not_driving] at h
  testing := by
    unfold DriverChannel.switchedOff
    split
    · exact iff_of_false (by simp) (not_blocked_of_driving ‹_›).2
    · rfl
  sound hs := by
    unfold DriverChannel.switchedOff
    split
    · have hblocked := (not_blocked_of_driving ‹_›).1
      rw [sound_iff] at hs ⊢
      simpa [DrivePhase.driving, hblocked] using hs.2
    · exact hs

/-- 08 R141: a switch-on, of an IDLE channel in WEAVING. -/
theorem switchOn_safe {c : DriverChannel} (u : InUse) {phase : DrivePhase} (hc : c.phase = .idle)
    (hp : phase.driving = true) : ChannelSafe .weaving c (c.switchOn u phase) where
  driving _ := .inr rfl
  testing := iff_of_false (not_blocked_of_driving hp).2 (by simp [hc])
  sound hs := by
    have hblocked := (not_blocked_of_driving hp).1
    rw [sound_iff] at hs ⊢
    refine ⟨hp, ?_, hs.2.2⟩
    simpa [DriverChannel.switchOn, hblocked, hc] using hs.2.1

/-- 08 R149: a block. -/
theorem blockedBy_safe (st : RunState) (c : DriverChannel) (kind : BlockKind) : ChannelSafe st c (c.blockedBy kind) := by
  have hblock (hb : c.phase ≠ .blocked) (ht : c.phase ≠ .testing) :
      ChannelSafe st c { c.switchedOff with phase := .blocked, block := some kind } := by
    refine ⟨by simp [DrivePhase.driving], by simp [ht], fun hs => ?_⟩
    obtain ⟨hdriving, -, hcount⟩ := (sound_iff _).mp ((switchedOff_safe st c).sound hs)
    rw [switchedOff_not_driving] at hdriving
    exact (sound_iff _).mpr ⟨hdriving, by simp, hcount⟩
  unfold DriverChannel.blockedBy
  split
  · rename_i hc
    split
    · exact .refl st c
    · refine ⟨.inl, .rfl, fun hs => ?_⟩
      rw [sound_iff] at hs ⊢
      exact ⟨hs.1, by simp [hc], hs.2.2⟩
  · exact .refl st c
  · rename_i hb ht
    exact hblock hb ht

/-- 08 R149 to R151: a release. -/
theorem released_safe (st : RunState) (c : DriverChannel) : ChannelSafe st c c.released := by
  unfold DriverChannel.released
  split
  · rename_i hc
    refine ⟨by simp [DrivePhase.driving], by simp [hc], fun hs => ?_⟩
    rw [sound_iff] at hs ⊢
    exact ⟨by rw [← hs.1, hc]; rfl, by simp, hs.2.2⟩
  · exact .refl st c

theorem releasedPerPick_safe (st : RunState) (c : DriverChannel) : ChannelSafe st c c.releasedPerPick := by
  unfold DriverChannel.releasedPerPick
  split
  · exact released_safe st c
  · exact .refl st c

/-- 08 R148: a fault recorded. -/
theorem recordFault_safe (st : RunState) (c : DriverChannel) (kind : DriverFaultKind) :
    ChannelSafe st c (c.recordFault kind) := by
  cases kind <;> exact .of_phase rfl rfl rfl satInc_le

/-! ### What the operations may do -/

/-- From `s` to `t` the run state and the test running stay, a part is armed in WEAVING alone, and no channel does
anything dangerous. -/
structure ActuatorsKept (s t : State) : Prop where
  state : t.run.state = s.run.state
  test : t.drv.test = s.drv.test
  armed : s.run.state ≠ .weaving → s.armedPart = none → t.armedPart = none
  channels : ∀ dc : DriverIdx, ChannelSafe s.run.state s.drv.channels[dc] t.drv.channels[dc]

namespace ActuatorsKept

variable {s t u : State}

theorem of_same (hr : t.run.state = s.run.state) (ha : t.asc = s.asc) (hd : t.drv = s.drv) : ActuatorsKept s t where
  state := hr
  test := by rw [hd]
  armed _ h := (armedPart_congr ha).trans h
  channels _ := by rw [hd]; exact .refl _ _

theorem refl (s : State) : ActuatorsKept s s := .of_same rfl rfl rfl

theorem trans (h1 : ActuatorsKept s t) (h2 : ActuatorsKept t u) : ActuatorsKept s u where
  state := h2.state.trans h1.state
  test := h2.test.trans h1.test
  armed hw h := h2.armed (by rwa [h1.state]) (h1.armed hw h)
  channels dc := (h1.channels dc).trans (by rw [← h1.state]; exact h2.channels dc)

theorem foldl {β : Type} {f : State → β → State} (h : ∀ s x, ActuatorsKept s (f s x)) (l : List β) (s : State) :
    ActuatorsKept s (l.foldl f s) := by
  induction l generalizing s with
  | nil => exact .refl s
  | cons x xs ih => exact (h s x).trans (ih _)

/-- One channel is set. -/
theorem setChannel {dc : DriverIdx} {c : DriverChannel} (h : ChannelSafe s.run.state s.drv.channels[dc] c) :
    ActuatorsKept s (setChannel dc c s) where
  state := rfl
  test := rfl
  armed _ ha := ha
  channels d := by
    by_cases hd : dc = d
    · subst hd
      simpa using h
    · have hne : dc.val ≠ d.val := fun hv => hd (Fin.ext hv)
      have hsame : (Machine.setChannel dc c s).drv.channels[d] = s.drv.channels[d] := by simp [hne]
      rw [hsame]
      exact .refl _ _

/-- Every channel is changed. -/
theorem modChannels {f : DriverIdx → DriverChannel → DriverChannel} (h : ∀ dc c, ChannelSafe s.run.state c (f dc c)) :
    ActuatorsKept s (modChannels f s) where
  state := by simp
  test := by simp [Machine.modChannels]
  armed _ ha := (armedPart_congr (by simp)).trans ha
  channels dc := by
    have hdc : (Machine.modChannels f s).drv.channels[dc] = f dc s.drv.channels[dc] := by simp [Machine.modChannels]
    rw [hdc]
    exact h dc _

theorem linked (h : LinkOnly s t) : ActuatorsKept s t := by
  obtain ⟨_, rfl⟩ := h
  exact .of_same rfl rfl rfl

end ActuatorsKept

theorem post_actuators (e : Event) (s : State) : ActuatorsKept s (post e s) := .linked (post_linkOnly e s)

theorem weftFault_actuators (d : WeftDetail) (c : Ordinal → StopCause) (s : State) :
    ActuatorsKept s (weftFault d c s) :=
  .of_same (by rw [(weftFault_handedOn d c s).state]) (by simp) (by simp)

theorem driverOff_actuators (dc : DriverIdx) (s : State) : ActuatorsKept s (driverOff dc s) :=
  .setChannel (switchedOff_safe _ _)

theorem driverOn_actuators (dc : DriverIdx) (s : State) : ActuatorsKept s (driverOn dc s) := by
  unfold driverOn
  dsimp only
  split
  · rename_i h
    obtain ⟨hw, hidle⟩ := h
    have hon (u : InUse) {phase : DrivePhase} (hp : phase.driving = true) :
        ActuatorsKept s (setChannel dc ((s.drv.channels[dc]).switchOn u phase) s) :=
      .setChannel (hw ▸ switchOn_safe u hidle hp)
    repeat' split
    · exact .refl s
    · exact .refl s
    · exact hon _ rfl
    · exact hon _ rfl
  · exact .refl s

theorem switchChannel_actuators (x : ArmedAction) (s : State) : ActuatorsKept s (switchChannel x s) := by
  unfold switchChannel
  split
  · exact driverOn_actuators _ s
  · exact driverOff_actuators _ s

/-- An armed part in place of the one in force. -/
theorem setArmed_actuators {a : Option ArmedPart} {s : State} (h : s.run.state ≠ .weaving → s.armedPart = none → a = none) :
    ActuatorsKept s (setArmed a s) where
  state := by simp
  test := by simp
  armed hw hn := by
    unfold setArmed
    split
    · exact hn
    · exact h hw hn
  channels _ := by simpa using .refl _ _

theorem beginWatch_actuators (line : Option FeederIdx) (s : State) : ActuatorsKept s (beginWatch line s) :=
  .of_same (by rw [(beginWatch_handedOn line s).state]) (by simp) (by simp)

theorem fireOne_actuators (s : State) (j : Nat) : ActuatorsKept s (fireOne s j) := by
  obtain h | ⟨a, x, ha, _, h⟩ := fireOne_cases s j
  · rw [h]
    exact .refl s
  · have hsend : ActuatorsKept s (sendAction a j x s) :=
      (setArmed_actuators (by simp [ha])).trans (switchChannel_actuators x _)
    rw [h]
    split
    · exact hsend.trans (beginWatch_actuators _ _)
    · exact hsend

theorem fireAction_actuators (crosses : Nat → Bool) (i : Nat) (s : State) : ActuatorsKept s (fireAction crosses i s) := by
  unfold fireAction
  split
  · exact .refl s
  · exact .foldl fireOne_actuators _ s

theorem handOpening_actuators (crosses : Nat → Bool) (s : State) : ActuatorsKept s (handOpening crosses s) := by
  unfold handOpening
  split
  · exact .refl s
  · rename_i a ha
    split
    · exact (setArmed_actuators (by simp [ha])).trans
        (.of_same (by rw [(openWindow_handedOn _).state]) (by simp) (by simp))
    · exact .refl s

theorem handClosing_actuators (crosses : Nat → Bool) (s : State) : ActuatorsKept s (handClosing crosses s) := by
  have hopen := handOpening_actuators crosses s
  unfold handClosing
  dsimp only
  split
  · exact hopen
  · rename_i a ha
    split
    · exact hopen.trans ((setArmed_actuators (by simp [ha])).trans
        (.of_same (by rw [(judgeWindow_handedOn _).state]) (by simp) (by simp)))
    · exact hopen

/-- A new snapshot has no armed part (06 R107). -/
theorem makeSnapshot_actuators (e : SnapshotEntry) (advance : Nat → Nat) (s : State) :
    ActuatorsKept s (makeSnapshot e advance s) where
  state := by simp
  test := by simp
  armed _ h := by
    unfold makeSnapshot
    split
    · exact h
    · rfl
  channels _ := by simpa using .refl _ _

/-- 06 R113: a pick is armed in WEAVING. -/
theorem armCurrent_actuators (advance : Nat → Nat) {s : State} (hw : s.run.state = .weaving) :
    ActuatorsKept s (armCurrent advance s) where
  state := (armCurrent_handedOn advance s).state
  test := by simp
  armed h := absurd hw h
  channels _ := by simpa using .refl _ _

theorem forwardBoundary_actuators (s : State) : ActuatorsKept s (forwardBoundary s) := by
  have hsame {u : State} (hr : u.run = s.run) (ha : u.asc = s.asc) (hd : u.drv = s.drv) :
      ActuatorsKept s (forwardSnapshot u) :=
    ActuatorsKept.trans (.of_same (by rw [hr]) ha hd) (makeSnapshot_actuators _ _ u)
  unfold forwardBoundary
  split
  · exact hsame rfl rfl rfl
  · split
    · have harm : ActuatorsKept (forwardSnapshot (promote s)) (armPromoted (forwardSnapshot (promote s))) := by
        unfold armPromoted
        split
        · rename_i h
          exact armCurrent_actuators _ h.1
        · exact .refl _
      exact ((hsame (by simp) (by simp) (by simp)).trans harm).trans (.of_same (by simp) (by simp) (by simp))
    · exact hsame rfl rfl rfl

theorem backwardBoundary_actuators (s : State) : ActuatorsKept s (backwardBoundary s) := by
  have hoff : ActuatorsKept s (disarmBackward s) := by
    unfold disarmBackward
    split
    · exact .refl s
    · rename_i a _
      have hreached : ActuatorsKept s (offReached a s) :=
        ActuatorsKept.foldl (fun u (x : ArmedAction) => driverOff_actuators x.channel u) a.actions s
      exact hreached.trans ((setArmed_actuators fun _ _ => rfl).trans (.of_same rfl rfl rfl))
  have hdisarmed : ActuatorsKept s (modCurrent PickRecord.disarmed (makeSnapshot .backward (fun _ => 0) (disarmBackward s))) :=
    (hoff.trans (makeSnapshot_actuators _ _ _)).trans (.of_same rfl rfl rfl)
  unfold backwardBoundary
  dsimp only
  split
  · exact hdisarmed.trans (.of_same (by simp) (by simp) (by simp))
  · exact hdisarmed.trans (.of_same (by simp) (by simp) (by simp))

theorem handle_actuators (c : StepInfo) (s : State) (h : Handling) : ActuatorsKept s (handle c s h) := by
  have hstate := (handle_handedOn c s h).state
  cases h with
  | release => exact .modChannels fun _ => releasedPerPick_safe _
  | boundary =>
    simp only [handle]
    split
    · exact forwardBoundary_actuators s
    · exact backwardBoundary_actuators s
  | fire i => exact fireAction_actuators _ i s
  | windowOpen => exact handOpening_actuators _ s
  | windowClose => exact handClosing_actuators _ s
  | _ => exact .of_same hstate (by simp [handle]) (by simp [handle])

/-! ### The faults and the events of the channels (08 R143 to R149) -/

theorem blockReport_actuators (cs : List DriverIdx) (s : State) : ActuatorsKept s (blockReport cs s) :=
  .of_same (blockReport_handedOn cs s).state (by simp) (by simp)

theorem blockingFault_actuators (dc : DriverIdx) (kind : DriverFaultKind) (d : DriverSettings) (b : BlockKind) (s : State) :
    ActuatorsKept s (blockingFault dc kind d b s) := by
  have hrecord : ActuatorsKept s (setChannel dc ((s.drv.channels[dc]).recordFault kind) s) :=
    .setChannel (recordFault_safe _ _ kind)
  refine (hrecord.trans (.modChannels fun i c => ?_)).trans (post_actuators _ _)
  split
  · exact blockedBy_safe _ c b
  · exact .refl _ c

theorem driverFault_actuators (dc : DriverIdx) (kind : DriverFaultKind) (s : State) :
    ActuatorsKept s (driverFault dc kind s) := by
  unfold driverFault
  dsimp only
  split
  · exact .refl s
  · split
    · exact (blockingFault_actuators _ _ _ _ s).trans (.of_same rfl rfl rfl)
    · exact (blockingFault_actuators _ _ _ _ s).trans (blockReport_actuators _ _)
    · split
      · exact .refl s
      · exact (ActuatorsKept.setChannel (recordFault_safe _ _ kind)).trans (post_actuators _ _)
    · exact .refl s

theorem peakLimitEnds_actuators (dc : DriverIdx) (s : State) : ActuatorsKept s (peakLimitEnds dc s) := by
  simp only [peakLimitEnds]
  split
  · refine ActuatorsKept.trans (ActuatorsKept.setChannel ?_) (driverFault_actuators _ _ _)
    exact .of_phase rfl rfl rfl id
  · exact .refl s

theorem deglitchEnds_actuators (dc : DriverIdx) (s : State) : ActuatorsKept s (deglitchEnds dc s) := by
  simp only [deglitchEnds]
  split
  · refine ActuatorsKept.trans (ActuatorsKept.setChannel ?_) (driverFault_actuators _ _ _)
    exact .of_phase rfl rfl rfl id
  · exact .refl s

/-- What an event makes of a driving channel: it drives on by its settings. -/
def DrivesOn (f : DriverChannel → DriverSettings → DriverChannel) : Prop :=
  ∀ c d, c.phase.driving = true →
    (f c d).phase.driving = true ∧ (f c d).inUse = c.inUse ∧ (f c d).block = c.block ∧ (f c d).faultCount = c.faultCount

theorem onDriving_actuators (dc : DriverIdx) {f : DriverChannel → DriverSettings → DriverChannel} (hf : DrivesOn f)
    (s : State) : ActuatorsKept s (onDriving dc f s) := by
  simp only [onDriving]
  split
  · exact .refl s
  · split
    · rename_i u _ hd
      obtain ⟨hphase, huse, hblock, hcount⟩ := hf _ u.settings hd
      exact .setChannel (.of_driving hd hphase huse hblock hcount)
    · exact .refl s

theorem peakReached_drivesOn : DrivesOn DriverChannel.peakReached := by
  intro c d h
  simp only [DriverChannel.peakReached]
  repeat' split
  · exact ⟨rfl, rfl, rfl, rfl⟩
  · exact ⟨rfl, rfl, rfl, rfl⟩
  · exact ⟨h, rfl, rfl, rfl⟩

theorem holdReached_drivesOn : DrivesOn DriverChannel.holdReached := by
  intro c d h
  unfold DriverChannel.holdReached
  split
  · exact ⟨rfl, rfl, rfl, rfl⟩
  · exact ⟨h, rfl, rfl, rfl⟩

theorem loadReached_drivesOn : DrivesOn DriverChannel.loadReached := by
  intro c d h
  unfold DriverChannel.loadReached
  split <;> exact ⟨h, rfl, rfl, rfl⟩

theorem compareHold_drivesOn (current : Nat) : DrivesOn fun c d => c.compareHold d current := by
  intro c d h
  simp only [DriverChannel.compareHold]
  split
  · exact ⟨rfl, rfl, rfl, rfl⟩
  · exact ⟨h, rfl, rfl, rfl⟩

theorem startDeglitch_drivesOn : DrivesOn DriverChannel.startDeglitch := by
  intro c d h
  unfold DriverChannel.startDeglitch
  split <;> exact ⟨h, rfl, rfl, rfl⟩

theorem offTimeEnds_drivesOn (current : Nat) : DrivesOn (DriverChannel.offTimeEnds current) := by
  intro c d h
  simp only [DriverChannel.offTimeEnds]
  split
  · exact compareHold_drivesOn current _ d rfl
  · exact ⟨h, rfl, rfl, rfl⟩

theorem blankingEnds_drivesOn (current : Nat) : DrivesOn (DriverChannel.blankingEnds current) := by
  intro c d h
  have hcompare := compareHold_drivesOn current { c with blankTimer := none } d h
  simp only [DriverChannel.blankingEnds]
  split
  · split
    · obtain ⟨hphase, huse, hblock, hcount⟩ := startDeglitch_drivesOn _ d hcompare.1
      obtain ⟨-, huse', hblock', hcount'⟩ := hcompare
      exact ⟨hphase, huse.trans huse', hblock.trans hblock', hcount.trans hcount'⟩
    · exact hcompare
  · exact ⟨h, rfl, rfl, rfl⟩

/-! ### The safe state -/

/-- What O54 asks of a state (06 R106, 08 R140, R152, R154). -/
structure State.ActuatorsSafe (s : State) : Prop where
  armed : s.run.state ≠ .weaving → s.armedPart = none
  driven : s.run.state ≠ .weaving → ∀ dc : DriverIdx, (s.drv.channels[dc]).phase.driving = false
  testing : ∀ dc : DriverIdx, (s.drv.channels[dc]).phase = .testing ↔ s.drv.test.map OffTest.channel = some dc
  still : s.drv.test = none ∨ (s.run.state ≠ .weaving ∧ s.run.state ≠ .stopping)
  sound : ∀ dc : DriverIdx, (s.drv.channels[dc]).sound = true

theorem mem_driverList (dc : DriverIdx) : dc ∈ driverList := by simp [driverList]

theorem channels_all (v : Vector DriverChannel 20) (p : DriverChannel → Bool) :
    v.toList.all p = true ↔ ∀ dc : DriverIdx, p v[dc] = true := by
  rw [Vector.all_toList, Vector.all_eq_true, Fin.forall_iff]
  rfl

theorem actuatorsSafe_iff (s : State) :
    (s.armedInWeaving = true ∧ s.drivenInWeaving = true ∧ s.testSound = true ∧
      (s.drv.channels.toList.all DriverChannel.sound) = true) ↔ s.ActuatorsSafe := by
  have harmed : s.armedInWeaving = true ↔ (s.run.state ≠ .weaving → s.armedPart = none) := by
    simp [State.armedInWeaving, or_iff_not_imp_right]
  have hdriven : s.drivenInWeaving = true ↔
      (s.run.state ≠ .weaving → ∀ dc : DriverIdx, (s.drv.channels[dc]).phase.driving = false) := by
    rw [State.drivenInWeaving, Bool.or_eq_true, channels_all, or_iff_not_imp_left]
    simp
  have htest : s.testSound = true ↔
      (∀ dc : DriverIdx, (s.drv.channels[dc]).phase = .testing ↔ s.drv.test.map OffTest.channel = some dc) ∧
        (s.drv.test = none ∨ (s.run.state ≠ .weaving ∧ s.run.state ≠ .stopping)) := by
    simp [State.testSound, mem_driverList]
  rw [harmed, hdriven, htest, channels_all]
  exact ⟨fun ⟨h1, h2, ⟨h3, h4⟩, h5⟩ => ⟨h1, h2, h3, h4, h5⟩, fun ⟨h1, h2, h3, h4, h5⟩ => ⟨h1, h2, ⟨h3, h4⟩, h5⟩⟩

theorem actuatorsSafe_loomOnly : LoomOnly State.ActuatorsSafe := by
  intro s t _ _ _ _ _ hasc _ hdrv hrun h
  obtain ⟨harmed, hdriven, htesting, hstill, hsound⟩ := h
  rw [← hdrv, ← hrun] at *
  exact ⟨fun hw => (armedPart_congr hasc).trans (harmed hw), hdriven, htesting, hstill, hsound⟩

namespace State.ActuatorsSafe

variable {s t : State}

theorem kept (h : s.ActuatorsSafe) (hk : ActuatorsKept s t) : t.ActuatorsSafe where
  armed hw := hk.armed (hk.state ▸ hw) (h.armed (hk.state ▸ hw))
  driven hw dc := by
    rw [hk.state] at hw
    refine Bool.eq_false_iff.mpr fun hd => ((hk.channels dc).driving hd).elim (fun hc => ?_) hw
    exact Bool.false_ne_true ((h.driven hw dc).symm.trans hc)
  testing dc := by rw [(hk.channels dc).testing, hk.test, h.testing]
  still := by rw [hk.test, hk.state]; exact h.still
  sound dc := (hk.channels dc).sound (h.sound dc)

theorem takeCauses (h : s.ActuatorsSafe) (hc : ∀ s c, State.ActuatorsSafe s → (takeCause s c).ActuatorsSafe)
    (taken : CausesTaken) : (takeCauses taken s).ActuatorsSafe := actuatorsSafe_loomOnly.takeCauses hc taken h

end State.ActuatorsSafe

/-- 09 R159: a change of run state, into WEAVING or STOPPING with no test running. -/
theorem changeState_actuatorsSafe {st : RunState} {s : State} (h : s.ActuatorsSafe)
    (ht : s.drv.test = none ∨ (st ≠ .weaving ∧ st ≠ .stopping)) : (changeState st s).ActuatorsSafe := by
  by_cases hst : st = .weaving
  · subst hst
    refine ⟨by simp, by simp, ?_, ?_, ?_⟩
    · simpa using h.testing
    · simpa using ht
    · simpa using h.sound
  · have hchannel (dc : DriverIdx) : (changeState st s).drv.channels[dc] = (s.drv.channels[dc]).switchedOff := by
      simp [hst]
    have htest : (changeState st s).drv.test = s.drv.test := by simp [hst]
    refine ⟨fun _ => ?_, fun _ dc => ?_, fun dc => ?_, ?_, fun dc => ?_⟩
    · by_cases hw : s.run.state = .weaving
      · have hsn : (changeState st s).asc.snapshot = s.asc.snapshot.map fun x => { x with armed := none } := by
          simp [hw, hst]
        simp only [State.armedPart, hsn]
        cases s.asc.snapshot <;> rfl
      · have hsn : (changeState st s).asc.snapshot = s.asc.snapshot := by simp [hw]
        simpa only [State.armedPart, hsn] using h.armed hw
    · rw [hchannel, switchedOff_not_driving]
    · rw [hchannel, htest, (switchedOff_safe st _).testing, h.testing]
    · rw [htest]
      simpa using ht
    · rw [hchannel]
      exact (switchedOff_safe st _).sound (h.sound dc)

theorem withRun_actuatorsSafe {s : State} (h : s.ActuatorsSafe) {r : Run} (hr : r.state = s.run.state) :
    ({ s with run := r } : State).ActuatorsSafe := h.kept (.of_same hr rfl rfl)

theorem takeStop_actuatorsSafe (c : StopCause) {s : State} (h : s.ActuatorsSafe) : (takeStop c s).ActuatorsSafe := by
  unfold takeStop
  split
  · rename_i hw
    have htest : s.drv.test = none := h.still.resolve_right fun hno => hno.1 hw
    have hstopping := changeState_actuatorsSafe (st := .stopping)
      (withRun_actuatorsSafe h (r := { s.run with firstStop := some c }) rfl) (.inl htest)
    dsimp only
    split
    · exact changeState_actuatorsSafe hstopping (.inr ⟨by decide, by decide⟩)
    · exact hstopping
  · exact h.kept (.of_same (by simp) (by simp) (by simp))

theorem takeHalt_actuatorsSafe (c : HaltCause) {s : State} (h : s.ActuatorsSafe) : (takeHalt c s).ActuatorsSafe := by
  have hhalts : (changeState .halted { s with run := { s.run with haltCause := some c } }).ActuatorsSafe :=
    changeState_actuatorsSafe (withRun_actuatorsSafe h rfl) (.inr ⟨by decide, by decide⟩)
  have hlater : (laterCause (.halt c) s).ActuatorsSafe := h.kept (.of_same (by simp) (by simp) (by simp))
  unfold takeHalt
  split
  · exact hhalts
  · exact hhalts
  · exact hhalts
  · exact hlater
  · exact hlater

theorem takeCause_actuatorsSafe (s : State) (c : Cause) (h : s.ActuatorsSafe) : (takeCause s c).ActuatorsSafe := by
  cases c with
  | stop c => exact takeStop_actuatorsSafe c h
  | halt c => exact takeHalt_actuatorsSafe c h

theorem takeCauses_actuatorsSafe (taken : CausesTaken) {s : State} (h : s.ActuatorsSafe) :
    (takeCauses taken s).ActuatorsSafe := actuatorsSafe_loomOnly.takeCauses takeCause_actuatorsSafe taken h

end Sys2Proof.Machine

namespace Sys2Proof.Machine

/-! ### The commands of run control (09) -/

theorem answerCommand_actuators (code : Nat) (r : Result) (data : List Byte) (s : State) :
    ActuatorsKept s (answerCommand code r data s) := .linked (answerCommand_linkOnly code r data s)

theorem takeArm_actuatorsSafe (p : List Byte) {s : State} (h : s.ActuatorsSafe) : (takeArm p s).ActuatorsSafe := by
  unfold takeArm
  repeat' split
  · exact h.kept (answerCommand_actuators _ _ _ s)
  · exact (changeState_actuatorsSafe h (.inr ⟨by decide, by decide⟩)).kept (answerCommand_actuators _ _ _ _)
  · exact h.kept (answerCommand_actuators _ _ _ s)

theorem takeDisarm_actuatorsSafe (p : List Byte) {s : State} (h : s.ActuatorsSafe) :
    (takeDisarm p s).ActuatorsSafe := by
  unfold takeDisarm
  split
  · exact (changeState_actuatorsSafe h (.inr ⟨by decide, by decide⟩)).kept (answerCommand_actuators _ _ _ _)
  · exact h.kept (answerCommand_actuators _ _ _ s)

/-- 06 R113: the START snapshot, made in WEAVING. -/
theorem startSnapshot_actuators {s : State} (hw : s.run.state = .weaving) : ActuatorsKept s (startSnapshot s) where
  state := (startSnapshot_handedOn s).state
  test := by simp
  armed h := absurd hw h
  channels _ := by simpa using .refl _ _

theorem startWeaving_actuatorsSafe {s : State} (h : s.ActuatorsSafe) (ht : s.drv.test = none) :
    (startWeaving s).ActuatorsSafe :=
  (changeState_actuatorsSafe (s := clearCauses s) (withRun_actuatorsSafe h rfl) (.inl ht)).kept
    (startSnapshot_actuators (by simp))

theorem takeStart_actuatorsSafe (taken : CausesTaken) (p : List Byte) {s : State} (h : s.ActuatorsSafe) :
    (takeStart taken p s).ActuatorsSafe := by
  unfold takeStart
  repeat' split
  · exact h.kept (answerCommand_actuators _ _ _ s)
  · exact h.kept (answerCommand_actuators _ _ _ s)
  · exact h.kept (answerCommand_actuators _ _ _ s)
  · exact h.kept (answerCommand_actuators _ _ _ s)
  · rename_i _ _ _ htest
    have hweaving : (startWeaving { s with run := { s.run with handed := [] } }).ActuatorsSafe :=
      startWeaving_actuatorsSafe (withRun_actuatorsSafe h rfl) (by simpa using htest)
    have hown : (takingOwn startWeaving s).ActuatorsSafe :=
      withRun_actuatorsSafe (takeCauses_actuatorsSafe .every hweaving) rfl
    exact (takeCauses_actuatorsSafe taken hown).kept (answerCommand_actuators _ _ _ _)

theorem takeStopCommand_actuatorsSafe (taken : CausesTaken) (p : List Byte) {s : State} (h : s.ActuatorsSafe) :
    (takeStopCommand taken p s).ActuatorsSafe := by
  unfold takeStopCommand
  split
  · exact (takeCauses_actuatorsSafe taken (takeStop_actuatorsSafe _ h)).kept (answerCommand_actuators _ _ _ _)
  · exact h.kept (answerCommand_actuators _ _ _ s)

theorem takeClear_actuatorsSafe (p : List Byte) {s : State} (h : s.ActuatorsSafe) : (takeClear p s).ActuatorsSafe := by
  unfold takeClear
  repeat' split
  · exact h.kept (answerCommand_actuators _ _ _ s)
  · exact h.kept (answerCommand_actuators _ _ _ s)
  · exact h.kept (answerCommand_actuators _ _ _ s)
  · have hreleased : (releaseAll s).ActuatorsSafe := h.kept (.modChannels fun _ => released_safe _)
    exact (changeState_actuatorsSafe hreleased (.inr ⟨by decide, by decide⟩)).kept (answerCommand_actuators _ _ _ _)

theorem takeSoftReset_actuatorsSafe (p : List Byte) (s : State) : (takeSoftReset p s).ActuatorsSafe := by
  have hreset : State.reset.ActuatorsSafe := (actuatorsSafe_iff _).mp (by decide)
  have hblocks : (softResetBlocks s).ActuatorsSafe := hreset.kept (.of_same rfl rfl rfl)
  exact (hblocks.kept (answerCommand_actuators 8 .ok [] _)).kept (post_actuators _ _)

/-! ### The off-state test (08 R154, R155) -/

theorem setChannel_channel (dc : DriverIdx) (c : DriverChannel) (s : State) (d : DriverIdx) :
    (setChannel dc c s).drv.channels[d] = if dc = d then c else s.drv.channels[d] := by
  split
  · rename_i hd
    subst hd
    simp
  · rename_i hd
    have hne : dc.val ≠ d.val := fun hv => hd (Fin.ext hv)
    simp [hne]

/-- 08 R154: the test starts on an IDLE channel, with none running. -/
theorem startTest_actuatorsSafe {dc : DriverIdx} {s : State} (h : s.ActuatorsSafe)
    (hidle : (s.drv.channels[dc]).phase = .idle) (hnone : s.drv.test = none)
    (hst : s.run.state ≠ .weaving ∧ s.run.state ≠ .stopping) : (startTest dc s).ActuatorsSafe := by
  have hchannel (d : DriverIdx) : (startTest dc s).drv.channels[d] =
      if dc = d then { s.drv.channels[dc] with phase := .testing } else s.drv.channels[d] :=
    setChannel_channel dc _ s d
  refine ⟨h.armed, fun hw d => ?_, fun d => ?_, .inr hst, fun d => ?_⟩
  · rw [hchannel]
    split
    · rfl
    · exact h.driven hw d
  · have htest : (startTest dc s).drv.test.map OffTest.channel = some dc := rfl
    rw [hchannel, htest]
    split
    · simp_all
    · rename_i hd
      rw [h.testing d, hnone]
      simp [hd]
  · rw [hchannel]
    split
    · have hs := h.sound dc
      rw [sound_iff] at hs ⊢
      obtain ⟨hdriving, hblocked, hcount⟩ := hs
      rw [hidle] at hdriving hblocked
      exact ⟨hdriving, by simpa using hblocked, hcount⟩
    · exact h.sound d

theorem allowsTest_iff (st : RunState) : st.allowsTest = true ↔ st ≠ .weaving ∧ st ≠ .stopping := by
  cases st <;> simp [RunState.allowsTest]

theorem takeOffstateTest_actuatorsSafe (p : List Byte) {s : State} (h : s.ActuatorsSafe) :
    (takeOffstateTest p s).ActuatorsSafe := by
  simp only [takeOffstateTest]
  repeat' split
  · exact h.kept (answerCommand_actuators _ _ _ s)
  · exact h.kept (answerCommand_actuators _ _ _ s)
  · exact h.kept (answerCommand_actuators _ _ _ s)
  · exact h.kept (answerCommand_actuators _ _ _ s)
  · rename_i hallowed _ htest hidle
    refine (startTest_actuatorsSafe h (not_not.mp hidle) (by simpa using htest) ?_).kept (answerCommand_actuators _ _ _ _)
    exact (allowsTest_iff _).mp (by simpa using hallowed)

/-- 08 R155: the test ends, and its channel is IDLE. -/
theorem endTest_actuatorsSafe (current : Nat) {s : State} (h : s.ActuatorsSafe) : (endTest current s).ActuatorsSafe := by
  unfold endTest
  split
  · exact h
  · rename_i x hx
    refine State.ActuatorsSafe.kept ?_ (post_actuators _ _)
    have htesting : (s.drv.channels[x.channel]).phase = .testing := (h.testing x.channel).mpr (by simp [hx])
    have hother (d : DriverIdx) (hd : x.channel ≠ d) : (s.drv.channels[d]).phase ≠ .testing := fun ht => by
      have := (h.testing d).mp ht
      simp [hx, hd] at this
    refine ⟨h.armed, fun hw d => ?_, fun d => ?_, .inl rfl, fun d => ?_⟩
    · rw [setChannel_channel]
      split
      · rfl
      · exact h.driven hw d
    · rw [setChannel_channel]
      split
      · simp
      · simpa using hother d ‹_›
    · rw [setChannel_channel]
      split
      · have hs := h.sound x.channel
        rw [sound_iff] at hs ⊢
        obtain ⟨hdriving, hblocked, hcount⟩ := hs
        rw [htesting] at hdriving hblocked
        exact ⟨hdriving, by simpa using hblocked, hcount⟩
      · exact h.sound d

/-! ### The commands of the other blocks -/

theorem takePick_actuators (p : List Byte) (s : State) : ActuatorsKept s (takePick p s) := by
  have haccept (r : PickRecord) : ActuatorsKept s (acceptPick r s) := by
    obtain ⟨_, _, _, _, _, hasc, _, hdrv, hrun⟩ := acceptPick_frame r s
    exact .of_same (by rw [hrun]) hasc hdrv
  unfold takePick
  repeat' split
  · exact post_actuators _ s
  · exact post_actuators _ s
  · exact post_actuators _ s
  · exact post_actuators _ s
  · exact haccept _
  · exact post_actuators _ s

theorem takeFlush_actuators (p : List Byte) (s : State) : ActuatorsKept s (takeFlush p s) := by
  unfold takeFlush
  split
  · have hflush : ActuatorsKept s (flushRun (BitVec.ofNat 16 (wordAt p 1)) s) := .of_same (by simp) (by simp) (by simp)
    exact hflush.trans (answerCommand_actuators _ _ _ _)
  · exact answerCommand_actuators _ _ _ s

theorem takeHome_actuators (p : List Byte) (s : State) : ActuatorsKept s (takeHome p s) := by
  unfold takeHome
  repeat' split
  · exact answerCommand_actuators _ _ _ s
  · exact ActuatorsKept.trans (.of_same (by simp) (by simp) (by simp)) (answerCommand_actuators _ _ _ _)
  · exact answerCommand_actuators _ _ _ s

theorem answerTable_actuators (p : List Byte) (r : Result) (data : List Byte) (s : State) :
    ActuatorsKept s (answerTable p r data s) := .linked (answerTable_linkOnly p r data s)

theorem checkedWrite_actuators (p : List Byte) (ok : Bool) (checks : List FieldCheck) {write : State → State} {s : State}
    (hw : ActuatorsKept s (write s)) : ActuatorsKept s (checkedWrite p ok checks write s) := by
  obtain ⟨r, x, he⟩ | ⟨_, x, he⟩ := checkedWrite_cases p ok checks write s
  · rw [he]
    exact answerTable_actuators _ _ _ s
  · rw [he]
    exact hw.trans (answerTable_actuators _ _ _ _)

theorem patternTable_actuators (p : List Byte) (ok : Bool) (checks : List FieldCheck) {write : State → State} {s : State}
    (hw : ActuatorsKept s (write s)) : ActuatorsKept s (patternTable p ok checks write s) := by
  obtain ⟨r, x, he⟩ | ⟨_, _, x, he⟩ := patternTable_cases p ok checks write s
  · rw [he]
    exact answerTable_actuators _ _ _ s
  · rw [he]
    exact (hw.trans (.of_same (by simp) (by simp) (by simp))).trans (answerTable_actuators _ _ _ _)

theorem writeMachine_actuators (m : MachineRecord) (s : State) : ActuatorsKept s (writeMachine m s) := by
  obtain ⟨_, _, _, _, _, _, _, hasc, _, hdrv, hrun⟩ := writeMachine_frame m s
  exact .of_same (by rw [hrun]) hasc hdrv

theorem takeTableMachine_actuators (p : List Byte) (s : State) : ActuatorsKept s (takeTableMachine p s) :=
  patternTable_actuators p _ _ (writeMachine_actuators _ s)

theorem takeTableSections_actuators (p : List Byte) (s : State) : ActuatorsKept s (takeTableSections p s) :=
  patternTable_actuators p _ _ (.of_same (t := writeSection _ _ s) rfl rfl rfl)

theorem takeTableEffects_actuators (p : List Byte) (s : State) : ActuatorsKept s (takeTableEffects p s) :=
  patternTable_actuators p _ _ (.of_same (t := writeEffect _ _ s) rfl rfl rfl)

theorem takeTableWeaves_actuators (p : List Byte) (s : State) : ActuatorsKept s (takeTableWeaves p s) :=
  patternTable_actuators p _ _ (.of_same (t := writeWeave _ _ s) rfl rfl rfl)

theorem takeTableProfiles_actuators (p : List Byte) (s : State) : ActuatorsKept s (takeTableProfiles p s) :=
  checkedWrite_actuators p _ _ (.of_same (t := writeProfile _ _ s) rfl rfl rfl)

theorem takeTableWefts_actuators (p : List Byte) (s : State) : ActuatorsKept s (takeTableWefts p s) :=
  checkedWrite_actuators p _ _ (.of_same (t := writeWeft _ _ s) rfl rfl rfl)

theorem takeTableDrivers_actuators (p : List Byte) (s : State) : ActuatorsKept s (takeTableDrivers p s) :=
  checkedWrite_actuators p _ _ (.of_same (t := writeDriver _ _ s) rfl rfl rfl)

theorem completeExpansion_actuators (s : State) : ActuatorsKept s (completeExpansion s) := by
  unfold completeExpansion
  repeat' split
  · exact .of_same (by simp) (by simp) (by simp)
  · exact .of_same (by simp) (by simp) (by simp)
  · exact .refl s

theorem sendCheckCall_actuators (k : ChainIdx) (s : State) : ActuatorsKept s (sendCheckCall k s) := by
  simp only [sendCheckCall]
  split
  · rw [emits_eq]
    exact .of_same rfl rfl rfl
  · exact .refl s
  · exact .refl s
  · exact .refl s

theorem collectAnswer_actuators (k : ChainIdx) (x : AnswerChar) (s : State) : ActuatorsKept s (collectAnswer k x s) := by
  simp only [collectAnswer]
  split <;> exact .of_same rfl rfl rfl

theorem closeChecking_actuators (k : ChainIdx) (s : State) : ActuatorsKept s (closeChecking k s) := by
  have hfault (u : State) : ActuatorsKept u (applyChainFault k u) := by
    unfold applyChainFault
    repeat' split
    all_goals exact .of_same rfl rfl rfl
  have hlatch (u : State) : ActuatorsKept u (evalTarget (latchIfDue u)) := .of_same (by simp) (by simp) (by simp)
  simp only [closeChecking]
  split
  · have hjudged (c : Chain) : ActuatorsKept s (setChain k c s) := .of_same rfl rfl rfl
    exact ((((hjudged _).trans (.linked (postChainError_linkOnly _ _ _ _ _))).trans
      (.foldl (fun u x => .linked (postAlarm_linkOnly k u x)) _ _)).trans (hfault _)).trans (hlatch _)
  · exact .refl s
  · exact .refl s
  · exact .refl s

theorem acquireSensor_actuators (x : Sensor) (l : Level) (s : State) : ActuatorsKept s (acquireSensor x l s) := by
  refine .of_same (acquireSensor_state x l s) ?_ ?_ <;> (unfold acquireSensor; (repeat' split) <;> simp)

theorem arvRises_actuators (s : State) : ActuatorsKept s (arvRises s) := by
  refine .of_same (arvRises_state s) ?_ ?_ <;> (unfold arvRises takeRise; (repeat' split) <;> simp)

theorem feederBreaks_actuators (f : FeederIdx) (s : State) : ActuatorsKept s (feederBreaks f s) := by
  refine .of_same (feederBreaks_state f s) ?_ ?_ <;> (unfold feederBreaks; split <;> simp)

theorem illegalChange_actuators (s : State) : ActuatorsKept s (illegalChange s) := by
  unfold illegalChange
  split
  · exact .of_same (by simp) (by simp) (by simp)
  · exact .refl s

theorem indexRise_actuators (s : State) : ActuatorsKept s (indexRise s) := by
  unfold indexRise
  split
  · rename_i m _ _
    have hk (u : State) : ActuatorsKept u (takeIndex m u) := by
      unfold takeIndex homeAt indexPasses indexFails
      dsimp only
      repeat' split
      all_goals exact .of_same (by simp) (by simp) (by simp)
    refine ActuatorsKept.trans ?_ (hk _)
    exact .of_same rfl rfl rfl
  · exact .refl s

theorem declareStandstill_actuatorsSafe {s : State} (h : s.ActuatorsSafe) : (declareStandstill s).ActuatorsSafe := by
  unfold declareStandstill
  dsimp only
  repeat' split
  · exact changeState_actuatorsSafe (h.kept (.of_same rfl rfl rfl)) (.inr ⟨by decide, by decide⟩)
  · exact h.kept (.of_same rfl rfl rfl)
  · exact h

theorem takeStep_actuatorsSafe (m : MachineRecord) (dir : Direction) (order : List Nat) (taken : CausesTaken) {s : State}
    (h : s.ActuatorsSafe) : (takeStep m dir order taken s).ActuatorsSafe :=
  runOrder_preserves State.ActuatorsSafe _ (fun s x hs => hs.kept (handle_actuators _ s x))
    (fun _ place hs => takeCauses_actuatorsSafe (.only [place]) hs) (fun _ hs => takeCauses_actuatorsSafe .every hs) taken
    order _ _ (h.kept (.of_same rfl rfl rfl))

theorem lineChange_actuatorsSafe (line : EncLine) (elapsed : Nat) (order : List Nat) (taken : CausesTaken) {s : State}
    (h : s.ActuatorsSafe) : (lineChange line elapsed order taken s).ActuatorsSafe := by
  have hchanged (l : Level) : (lineChanged line elapsed l s).ActuatorsSafe := h.kept (.of_same rfl rfl rfl)
  obtain he | ⟨m, l, _, he | ⟨dir, he⟩⟩ := lineChange_cases line elapsed order taken s
  · rwa [he]
  · rw [he]
    exact hchanged l
  · rw [he]
    exact takeStep_actuatorsSafe m dir order taken (hchanged l)

/-! ### Every command -/

theorem takeFrame_actuators (row : FrameRow) {eff : List Byte → State → State} (he : ∀ p u, ActuatorsKept u (eff p u))
    {s : State} (h : s.ActuatorsSafe) : (takeFrame row eff s).ActuatorsSafe :=
  actuatorsSafe_loomOnly.takeFrame (fun p u hu => hu.kept (he p u)) row h

theorem commandEffect_actuatorsSafe (c : Instr) (s : State) (h : s.ActuatorsSafe) : (commandEffect c s).ActuatorsSafe := by
  have hframe (row : FrameRow) {eff : List Byte → State → State}
      (he : ∀ p u, State.ActuatorsSafe u → (eff p u).ActuatorsSafe) : (takeFrame row eff s).ActuatorsSafe :=
    actuatorsSafe_loomOnly.takeFrame he row h
  cases c with
  | hardReset => exact h
  | resetRelease => exact h
  | pickFrame => exact takeFrame_actuators .pick takePick_actuators h
  | tableMachine => exact takeFrame_actuators (.table .machine) takeTableMachine_actuators h
  | tableSections => exact takeFrame_actuators (.table .sections) takeTableSections_actuators h
  | tableEffects => exact takeFrame_actuators (.table .effects) takeTableEffects_actuators h
  | tableWeaves => exact takeFrame_actuators (.table .weaves) takeTableWeaves_actuators h
  | tableProfiles => exact takeFrame_actuators (.table .profiles) takeTableProfiles_actuators h
  | tableWefts => exact takeFrame_actuators (.table .wefts) takeTableWefts_actuators h
  | tableDrivers => exact takeFrame_actuators (.table .drivers) takeTableDrivers_actuators h
  | arm => exact hframe .arm fun p _ => takeArm_actuatorsSafe p
  | disarm => exact hframe .disarm fun p _ => takeDisarm_actuatorsSafe p
  | start taken => exact hframe .start fun p _ => takeStart_actuatorsSafe taken p
  | stop taken => exact hframe .stop fun p _ => takeStopCommand_actuatorsSafe taken p
  | clear => exact hframe .clear fun p _ => takeClear_actuatorsSafe p
  | flush => exact takeFrame_actuators .flush takeFlush_actuators h
  | home => exact takeFrame_actuators .home takeHome_actuators h
  | softReset => exact hframe .softReset fun p u _ => takeSoftReset_actuatorsSafe p u
  | offstateTest => exact hframe .offstateTest fun p _ => takeOffstateTest_actuatorsSafe p
  | clearModuleFlags =>
    exact takeFrame_actuators .clearModuleFlags
      (fun _ u => ActuatorsKept.trans (t := clearSticky u) (.of_same rfl rfl rfl) (answerCommand_actuators 11 .ok [] _)) h
  | encoderLevelAcquired input l =>
    refine h.kept ?_
    simp only [commandEffect, acquireLevel]
    split <;> exact .of_same rfl rfl rfl
  | encoderStep line elapsed order taken =>
    exact takeCauses_actuatorsSafe taken (lineChange_actuatorsSafe line elapsed order taken h)
  | illegalTransition taken => exact takeCauses_actuatorsSafe taken (h.kept (illegalChange_actuators s))
  | indexPulse taken => exact takeCauses_actuatorsSafe taken (h.kept (indexRise_actuators s))
  | standstill => exact declareStandstill_actuatorsSafe h
  | sensorLevelAcquired x l taken => exact takeCauses_actuatorsSafe taken (h.kept (acquireSensor_actuators x l s))
  | arvRise => exact h.kept (arvRises_actuators s)
  | arvFall =>
    refine h.kept ?_
    simp only [commandEffect, arvFalls]
    split <;> exact .of_same rfl rfl rfl
  | feederBreak f taken => exact takeCauses_actuatorsSafe taken (h.kept (feederBreaks_actuators f s))
  | feederClear f =>
    refine h.kept ?_
    simp only [commandEffect, feederClears]
    split <;> exact .of_same rfl rfl rfl
  | peakLevelReached dc => exact h.kept (onDriving_actuators dc peakReached_drivesOn s)
  | holdLevelReached dc => exact h.kept (onDriving_actuators dc holdReached_drivesOn s)
  | directLoadReached dc => exact h.kept (onDriving_actuators dc loadReached_drivesOn s)
  | chopOffTimeEnd dc current => exact h.kept (onDriving_actuators dc (offTimeEnds_drivesOn current) s)
  | blankingEnd dc current => exact h.kept (onDriving_actuators dc (blankingEnds_drivesOn current) s)
  | overcurrentRise dc => exact h.kept (onDriving_actuators dc startDeglitch_drivesOn s)
  | overcurrentFall dc =>
    exact h.kept (onDriving_actuators dc (f := fun c _ => { c with deglitchTimer := none })
      (fun _ _ hd => ⟨hd, rfl, rfl, rfl⟩) s)
  | peakTimeLimitEnd dc taken => exact takeCauses_actuatorsSafe taken (h.kept (peakLimitEnds_actuators dc s))
  | deglitchEnd dc taken => exact takeCauses_actuatorsSafe taken (h.kept (deglitchEnds_actuators dc s))
  | testEnd current => exact endTest_actuatorsSafe current h
  | expansionComplete => exact h.kept (completeExpansion_actuators s)
  | segmentsSent k => exact h.kept (sendCheckCall_actuators k s)
  | moduleAnswer k position b l => exact h.kept (collectAnswer_actuators k _ s)
  | endOfChecking k taken => exact takeCauses_actuatorsSafe taken (h.kept (closeChecking_actuators k s))
  | enczFall =>
    refine h.kept ?_
    simp only [commandEffect, indexFall]
    split <;> exact .of_same rfl rfl rfl
  | _ => exact h.kept (.linked (commandEffect_linkOnly _ rfl s))

/-- Settles O54: the reset state, every command's effect and RUN's taking of a cause leave the actuators safe. -/
theorem actuatorsStaySafe : Obligations.ActuatorsStaySafe := fun s t h hs =>
  (actuatorsSafe_iff t).mpr
    (actuatorsSafe_loomOnly.step ((actuatorsSafe_iff _).mp (by decide)) commandEffect_actuatorsSafe
      takeCause_actuatorsSafe ((actuatorsSafe_iff s).mp h) hs)

end Sys2Proof.Machine

/-! ## START and STOP (09 R164 to R169) -/

namespace Sys2Proof.Machine

/-! ### What a taken command leaves -/

theorem posts_answer (d : Dlp) (es : List Event) (a : Answer) :
    ({ d.posts es with answer := some a } : Dlp) = ({ d with answer := some a } : Dlp).posts es := by
  induction es generalizing d with
  | nil => rfl
  | cons e es ih => exact (ih (d.post e)).trans (by rw [post_answer]; rfl)

/-- The link as a command of run control leaves it that has posted `es` and is answered. -/
theorem linkLeft_answered {rest : List RxFrame} {s u : State} {es : List Event} (code : Nat)
    (h : u.dlp = ({ s.dlp with held := rest } : Dlp).posts es) :
    LinkLeft ((s.dlp.taken rest (commandAnswer code .ok [])).posts es)
      (kickTransmitter (answerCommand code .ok [] u)) := by
  refine linkLeft_of ?_
  rw [answerCommand, setAnswer_dlp, h]
  exact posts_answer _ es _

/-- Where no cause that waited before is taken, and none but those waits, RUN takes none. -/
theorem takeCauses_noneTaken_of_handed {taken : CausesTaken} {s u : State} (h : NoneTaken taken s)
    (hu : u.run.handed = s.run.handed) : takeCauses taken u = u := by
  obtain rfl | hquiet := h
  · rfl
  · exact takeCauses_of_none taken u (hu.trans hquiet)

/-- 09 R167, R169, 06 R119: what a stop cause taken in WEAVING leaves of the other blocks, moving or at standstill. -/
theorem takeStop_weaving_leaves {u : State} (hw : u.run.state = .weaving) (c : StopCause) :
    (takeStop c u).psq = { u.psq with current := u.psq.current.map PickRecord.interrupt } ∧
      (takeStop c u).asc.snapshot = u.asc.snapshot.map (fun x => { x with armed := none }) ∧
      (takeStop c u).wfm = { u.wfm with window := none, capture := none, watch := none } ∧
      (∀ dc : DriverIdx, (takeStop c u).drv.channels[dc] = (u.drv.channels[dc]).switchedOff) ∧
      (takeStop c u).drv.test = u.drv.test := by
  cases hm : u.stk.motion with
  | moving =>
    rw [takeStop_moving c u hw hm]
    simp [hw]
  | standstill =>
    rw [takeStop_still c u hw hm]
    simp [hw]

/-! ### STOP (09 R166) -/

/-- Settles O19: the stop cause STOP_COMMAND is taken in WEAVING, moving or at standstill; elsewhere STOP is answered. -/
theorem stopEndsTheRun : Obligations.StopEndsTheRun := by
  intro s p rest taken h
  refine ⟨fun hw hnone => ?_, fun hno => answered_command h (eff := takeStopCommand taken) rfl
    (by simp [takeStopCommand, hno])⟩
  have htake : takeStopCommand taken p (headTaken rest s) =
      answerCommand 4 .ok [] (takeStop .stopCommand (headTaken rest s)) := by
    have hcauses : takeCauses taken (takeStop .stopCommand (headTaken rest s)) = takeStop .stopCommand (headTaken rest s) :=
      takeCauses_noneTaken_of_handed hnone (takeCause_handed (headTaken rest s) (.stop .stopCommand))
    simp [takeStopCommand, hw, hcauses]
  obtain ⟨hpsq, hsnapshot, hwfm, hchannels, htest⟩ := takeStop_weaving_leaves (u := headTaken rest s) hw .stopCommand
  have hstk : (takeStop .stopCommand (headTaken rest s)).stk = s.stk := takeCause_stk (headTaken rest s) (.stop .stopCommand)
  refine ⟨_, (taking_headTaken h (takeStopCommand taken)).trans (by rw [htake]), by simp, by simp, by simp [hstk],
    by simp, by simp [hpsq], by simp [hsnapshot], by simp [hwfm], fun dc => ?_, by simp [htest], fun hm => ?_, fun hm => ?_⟩
  · simpa using hchannels dc
  · obtain ⟨hrun, hdlp⟩ := takeStop_moving_leaves (u := headTaken rest s) hw hm .stopCommand
    exact ⟨by simp [hrun], linkLeft_answered (es := [_]) 4 hdlp⟩
  · obtain ⟨hrun, hdlp⟩ := takeStop_still_leaves (u := headTaken rest s) hw hm .stopCommand
    exact ⟨by simp [hrun], linkLeft_answered 4 hdlp⟩

end Sys2Proof.Machine

namespace Sys2Proof.Machine

/-! ### START (09 R164, R165) -/

/-- The run state with the causes NONE and the permit asserted (09 R165), with `handed` waiting. -/
def Run.started (handed : List Cause) : Run :=
  { state := .weaving, permit := true, firstStop := none, haltCause := none, lastLater := none, handed := handed }

/-- The START snapshot: no advance, and no part armed yet (06 R107). -/
def startEntry (m : MachineRecord) : Snapshot :=
  { entry := .start, hookAdvance := 0, latchAngle := m.latchAngle, armed := none }

/-- The state in which the part has entered WEAVING, the frame taken and the causes that waited set aside. -/
def startEntered (rest : List RxFrame) (s : State) : State :=
  changeState .weaving
    (clearCauses { headTaken rest s with run := { s.run with handed := [] } })

/-- The state in which CURRENT may be armed: WEAVING, with the START snapshot. -/
def startReady (rest : List RxFrame) (s : State) : State := makeSnapshot .start (fun _ => 0) (startEntered rest s)

/-- What entering WEAVING from STOPPED leaves. -/
theorem startReady_leaves (rest : List RxFrame) {s : State} {m : MachineRecord} (hm : s.tbm.machine = some m)
    (hs : s.run.state = .stopped) :
    (startReady rest s).pending = s.pending ∧ (startReady rest s).resetLine = s.resetLine ∧
      (startReady rest s).tbm = s.tbm ∧ (startReady rest s).psq = s.psq ∧
      (startReady rest s).stk = { s.stk with reverseCount := 0 } ∧ (startReady rest s).wfm = s.wfm ∧
      (startReady rest s).drv = s.drv ∧ (startReady rest s).run = .started [] ∧
      (startReady rest s).dlp =
        ({ s.dlp with held := rest } : Dlp).posts [.runState .weaving .stopped none none none] ∧
      (startReady rest s).HasSnapshot (startEntry m) none := by
  refine ⟨by simp [startReady, startEntered], by simp [startReady, startEntered], by simp [startReady, startEntered],
    by simp [startReady, startEntered], by simp [startReady, startEntered], by simp [startReady, startEntered],
    by simp [startReady, startEntered], by simp [startReady, startEntered, Run.started],
    by simp [startReady, startEntered, hs, Dlp.posts], ?_⟩
  have hm' : (startEntered rest s).tbm.machine = some m := by simp [startEntered, hm]
  simp [startReady, makeSnapshot, hm', State.HasSnapshot, startEntry]

/-- The causes that waited before START, set aside while RUN takes START's own (09 R165). -/
def withHanded (l : List Cause) (u : State) : State := { u with run := { u.run with handed := l } }

theorem takingOwn_handed (f : State → State) (s : State) : (takingOwn f s).run.handed = s.run.handed := rfl

/-- 09 R164, R165: START taken, no cause that waited being taken. -/
theorem exec_start {s : State} {p : List Byte} {rest : List RxFrame} {taken : CausesTaken} {m : MachineRecord} {a : Nat}
    (h : Taking .start p rest s) (hnone : NoneTaken taken s) (hs : s.run.state = .stopped)
    (hh : s.stk.homing = .homed) (hstill : s.stk.motion = .standstill) (htest : s.drv.test = none)
    (hm : s.tbm.machine = some m) (ha : s.angle = some a) :
    exec (.start taken) s =
      .next (kickTransmitter (answerCommand 3 .ok []
        (withHanded s.run.handed
          (drain (if s.currentPending = true ∧ a < m.armLimit then armCurrent (fun _ => 0) (startReady rest s)
            else startReady rest s))))) := by
  have hsnapshot : startSnapshot (startEntered rest s) =
      if s.currentPending = true ∧ a < m.armLimit then armCurrent (fun _ => 0) (startReady rest s)
      else startReady rest s := by
    have hangle : (startEntered rest s).angle = some a := by
      rw [← ha]
      simp [State.angle, State.countAngle, startEntered]
    have hpending : (startEntered rest s).currentPending = s.currentPending := by
      simp [State.currentPending, startEntered]
    have hlimit : (startEntered rest s).armLimit = m.armLimit := by
      simp [State.armLimit, startEntered, hm]
    simp only [startSnapshot, hangle, hpending, hlimit]
    rfl
  have hown : takingOwn startWeaving (headTaken rest s) =
      withHanded s.run.handed (drain (startSnapshot (startEntered rest s))) := rfl
  have htake : takeStart taken p (headTaken rest s) =
      answerCommand 3 .ok [] (takingOwn startWeaving (headTaken rest s)) := by
    have hcauses : takeCauses taken (takingOwn startWeaving (headTaken rest s)) = takingOwn startWeaving (headTaken rest s) :=
      takeCauses_noneTaken_of_handed hnone (takingOwn_handed startWeaving (headTaken rest s))
    simp [takeStart, hs, hh, hstill, htest, hcauses]
  exact (taking_headTaken h (takeStart taken)).trans (by rw [htake, hown, hsnapshot])

/-- RUN's taking of a cause is no matter of the off-state test. -/
theorem takeCause_test (s : State) (c : Cause) : (takeCause s c).drv.test = s.drv.test := by
  cases c with
  | stop c =>
    simp only [takeCause, takeStop]
    repeat' split
    all_goals simp
  | halt c =>
    simp only [takeCause, takeHalt]
    split <;> simp

/-- The state that START leaves whose arming leaves `u`: answered, the causes that waited before waiting on. -/
def startAnswered (s u : State) : State :=
  kickTransmitter (answerCommand 3 .ok [] (withHanded s.run.handed u))

@[simp] theorem startAnswered_frame (s u : State) :
    (startAnswered s u).pending = u.pending ∧ (startAnswered s u).resetLine = u.resetLine ∧
    (startAnswered s u).tbm = u.tbm ∧ (startAnswered s u).psq = u.psq ∧ (startAnswered s u).stk = u.stk ∧
    (startAnswered s u).asc = u.asc ∧ (startAnswered s u).wfm = u.wfm ∧ (startAnswered s u).drv = u.drv ∧
    (startAnswered s u).run = { u.run with handed := s.run.handed } := by
  simp [startAnswered, withHanded]

theorem Dlp.posts_nil (d : Dlp) : d.posts [] = d := rfl

theorem Dlp.posts_cons (e : Event) (es : List Event) (d : Dlp) : d.posts (e :: es) = (d.post e).posts es := rfl

theorem startAnswered_link {rest : List RxFrame} {s u : State} {es : List Event}
    (h : u.dlp = ({ s.dlp with held := rest } : Dlp).posts es) :
    LinkLeft ((s.dlp.taken rest (commandAnswer 3 .ok [])).posts es) (startAnswered s u) :=
  linkLeft_answered (u := withHanded s.run.handed u) 3 h

/-- 06 R112, R169: the channel or the profile of the pick cannot be used: START's own stop cause, taken at standstill,
leaves the part STOPPED. -/
theorem drain_channelFault {v : State} {r : PickRecord} (reason : ChannelReason) (hc : v.psq.current = some r)
    (hrun : v.run = .started []) (hstill : v.stk.motion = .standstill) :
    let cause : StopCause := .weftChannel r.ordinal
    let u := drain (channelFault reason v)
    u.run = { Run.started [] with state := .stopped, permit := false, firstStop := some cause } ∧
      u.psq = { v.psq with current := some { r with state := .faulted, cause := some .channel } } ∧
      u.asc.snapshot = v.asc.snapshot.map (fun x => { x with armed := none }) ∧
      u.wfm.weftFaults = satInc 4294967295 v.wfm.weftFaults ∧
      u.dlp =
        v.dlp.posts
          [ .weftFault r.ordinal r.row r.weft v.countAngle r.arrival (.channel reason),
            .runState .stopping .weaving (some cause) none none,
            .runState .stopped .stopping (some cause) none none ] := by
  intro cause u
  let faulted : State := withHanded [] (channelFault reason v)
  have hfaulted : faulted.run = .started [] ∧ faulted.stk = v.stk ∧ faulted.asc = v.asc ∧
      faulted.psq = { v.psq with current := some { r with state := .faulted, cause := some .channel } } ∧
      faulted.wfm = { v.wfm with weftFaults := satInc 4294967295 v.wfm.weftFaults } ∧
      faulted.dlp = v.dlp.post (.weftFault r.ordinal r.row r.weft v.countAngle r.arrival (.channel reason)) := by
    simp [faulted, withHanded, channelFault, weftFault, hc, hrun, Run.started, WeftDetail.cause, max32]
  obtain ⟨hfrun, hfstk, hfasc, hfpsq, hfwfm, hfdlp⟩ := hfaulted
  have hu : u = takeStop cause faulted := by
    have hhanded : (channelFault reason v).run.handed = [.stop cause] := by
      simp [channelFault, weftFault, hc, hrun, Run.started, cause]
    exact drain_of_one _ _ hhanded
  have hw : faulted.run.state = .weaving := by rw [hfrun]; rfl
  obtain ⟨hpsq, hasc, hwfm, -⟩ := takeStop_weaving_leaves hw cause
  obtain ⟨hr, hdlp⟩ := takeStop_still_leaves hw (by rw [hfstk, hstill]) cause
  rw [hu]
  refine ⟨by rw [hr, hfrun], ?_, by rw [hasc, hfasc], by rw [hwfm, hfwfm], by rw [hdlp, hfdlp, hfrun]; rfl⟩
  rw [hpsq, hfpsq]
  simp [PickRecord.interrupt]

/-- Settles O18: START enters WEAVING with its snapshot, and CURRENT is left, settled, armed, or faulted with the part
stopping again. -/
theorem startWeaves : Obligations.StartWeaves := by
  intro s p rest m a taken h hnone hs hh hstill htest hm ha arms snapshot weaving started
  obtain ⟨hpending, hreset, htbm, hpsq, hstk, hwfm, hdrv, hrun, hdlp, hsn⟩ := startReady_leaves rest hm hs
  have hexec := exec_start h hnone hs hh hstill htest hm ha
  have hsnapshot : (startReady rest s).asc.snapshot = some snapshot := hsn
  let u := if arms then armCurrent (fun _ => 0) (startReady rest s) else startReady rest s
  have hframe : u.pending = s.pending ∧ u.resetLine = s.resetLine ∧ u.tbm = s.tbm ∧
      u.stk = { s.stk with reverseCount := 0 } ∧ u.drv = s.drv := by
    unfold u
    split <;> simp [hpending, hreset, htbm, hstk, hdrv]
  obtain ⟨hupending, hureset, hutbm, hustk, hudrv⟩ := hframe
  have htestLeft : (drain u).drv.test = none := by
    unfold drain
    rw [foldl_keeps (fun x : State => x.drv.test) _ takeCause_test, ← htest, ← hudrv]
  refine ⟨startAnswered s (drain u), hexec, by simp [hureset], by simp [hutbm], by simpa using htestLeft,
    by simp [drain_stk, hustk], by simp [hupending], fun hno => ?unarmed,
    fun r hr harms h0 => ?inserted, fun r w prof hr harms h0 hw he hprof => ?armed,
    fun r reason hr harms h0 hreason => ?faulted⟩
  case unarmed =>
    have hu : drain u = startReady rest s := by
      rw [show u = startReady rest s from if_neg hno]
      exact drain_of_none _ (by rw [hrun]; rfl)
    rw [hu]
    exact ⟨by simp [hrun, Run.started, started], by simp [hpsq], by simpa using hsnapshot, by simp [hwfm], by simp [hdrv],
      startAnswered_link (es := [_]) hdlp⟩
  case inserted =>
    have hcur : (startReady rest s).psq.current = some r := hpsq ▸ hr
    have hu : drain u = modCurrent (fun x => { x with state := .inserted }) (startReady rest s) := by
      rw [show u = armCurrent (fun _ => 0) (startReady rest s) from if_pos harms, armCurrent_weftless _ hcur h0]
      exact drain_of_none _ (by simp [hrun, Run.started])
    rw [hu]
    exact ⟨by simp [hrun, Run.started, started], by simp [hpsq, hr], by simpa using hsnapshot, by simp [hwfm], by simp [hdrv],
      startAnswered_link (es := [_]) hdlp⟩
  case armed =>
    have hcur : (startReady rest s).psq.current = some r := hpsq ▸ hr
    have hhigh : (startReady rest s).highestAngle = m.highestAngle := by simp [State.highestAngle, htbm, hm]
    let part := buildArmed s.tbm (fun _ => 0) m.highestAngle r.ordinal w prof
    have hu : drain u = armWith (fun _ => 0) w prof r (startReady rest s) := by
      rw [show u = armCurrent (fun _ => 0) (startReady rest s) from if_pos harms,
        armCurrent_arms _ hcur h0 (htbm.symm ▸ hw) he (htbm.symm ▸ hprof)]
      exact drain_of_none _ (by simp [armWith, hrun, Run.started])
    have hpart : armWith (fun _ => 0) w prof r (startReady rest s) =
        modCurrent (fun x => { x with state := .armed, clipped := part.clipped })
          (setArmed (some part) (startReady rest s)) := by
      simp only [armWith, hhigh, htbm, part]
    obtain ⟨hopen, hclose, hfresh⟩ := buildArmed_fresh s.tbm (fun _ => 0) m.highestAngle r.ordinal w prof
    have harmed : (setArmed (some part) (startReady rest s)).asc.snapshot = some { snapshot with armed := some part } :=
      hsn.setArmed (some part)
    rw [hu, hpart]
    refine ⟨by simp [hrun, Run.started, started], by simp [hwfm], by simp [hdrv],
      startAnswered_link (es := [_]) (by simpa using hdlp), part, buildArmed_armedFrom _ _ _ _ _ _, hopen, hclose, hfresh,
      by simpa using harmed, by simp [hpsq, hr]⟩
  case faulted =>
    have hcur : (startReady rest s).psq.current = some r := hpsq ▸ hr
    have hangle : (startReady rest s).countAngle = a := by
      have hcount : s.countAngle = a := by simpa [State.angle, hh, hm] using ha
      rw [← hcount]
      simp [State.countAngle, htbm, hstk]
    have hu : u = channelFault reason (startReady rest s) := by
      rw [show u = armCurrent (fun _ => 0) (startReady rest s) from if_pos harms]
      exact armCurrent_faults _ hcur h0 (htbm.symm ▸ hreason)
    obtain ⟨hfrun, hfpsq, hfasc, hfwfm, hfdlp⟩ := drain_channelFault reason hcur hrun (by rw [hstk, hstill])
    rw [hangle, hdlp, Dlp.posts_cons _ [], Dlp.posts_nil, ← Dlp.posts_cons] at hfdlp
    rw [hsnapshot] at hfasc
    have hlink := startAnswered_link hfdlp
    rw [Dlp.posts_cons] at hlink
    rw [hu]
    exact ⟨by simp [hfrun, Run.started, started], by simp [hfpsq, hpsq], by simpa using hfasc, by simp [hfwfm, hwfm],
      hlink⟩

end Sys2Proof.Machine

/-! ## A step inside the revolution, with an armed part -/

namespace Sys2Proof.Machine

/-! ### The step up to its first firing -/

/-- What a forward step in WEAVING, off the boundary and the latch angle, leaves of `s` as its actions are handed. -/
structure AtFiring (m : MachineRecord) (s u : State) : Prop where
  handed : HandedOn s u
  run : u.run = s.run
  psq : u.psq = s.psq
  asc : u.asc = s.asc
  wfm : u.wfm = s.wfm
  drv : u.drv = s.drv
  revTime : u.stk.revTime = s.stk.revTime
  motion : u.stk.motion = .moving
  angle : u.countAngle = angleOf m.counts (s.stk.position + 1)

theorem atFiring_counted {m : MachineRecord} {s : State} {k : Stk} (hm : s.tbm.machine = some m)
    (hin : s.stk.position + 1 < m.counts) (hposition : k.position = s.stk.position)
    (hwrap : (stepInfo m.counts k.position .forward).wrap = false) (hrev : k.revTime = s.stk.revTime) :
    AtFiring m s (stepCounted m .forward k s) where
  handed := .of_same rfl rfl rfl rfl rfl rfl rfl
  run := rfl
  psq := rfl
  asc := rfl
  wfm := rfl
  drv := rfl
  revTime := by simp [stepCounted, Stk.step, Stk.timeStep, hwrap, hrev]
  motion := rfl
  angle := by simp [State.countAngle, stepCounted, Stk.step, hm, nextPosition, hposition, hin]

/-- A change of direction evaluates the preparation target alone (05 R90). -/
theorem AtFiring.turned {m : MachineRecord} {s u : State} (h : AtFiring m s u) (dir : Direction) (k : Stk)
    (c : StepInfo) : AtFiring m s ((turning dir k).foldl (handle c) u) := by
  unfold turning
  split
  · have hturned : [Handling.direction].foldl (handle c) u = evalTarget u := rfl
    rw [hturned]
    exact
      { handed := h.handed.trans (evalTarget_handedOn u)
        run := by simp [h.run]
        psq := by simp [h.psq]
        asc := by simp [h.asc]
        wfm := by simp [h.wfm]
        drv := by simp [h.drv]
        revTime := by simp [h.revTime]
        motion := by simp [h.motion]
        angle := by simpa [State.countAngle] using h.angle }
  · exact h

/-- The causes the tracker finds as a step is counted (05 R94, R102). -/
def Handling.ofTracker : Handling → Bool
  | .indexMissing => true
  | .reverse => true
  | _ => false

/-- What a step hands on of an armed part before the window closing. -/
def beforeClosing : List Handling := fireList ++ [.windowOpen]

/-- 06 R117: off the effective latch angle a step requests no latch. -/
theorem requestLatch_uncrossed {crosses : Nat → Bool} {u : State} {sn : Snapshot} (hsn : u.asc.snapshot = some sn)
    (hcross : crosses sn.latchAngle = false) (dir : Direction) : requestLatch crosses dir u = u := by
  simp [requestLatch, hsn, hcross]

/-- 05 R97: off the pick boundary a forward step crosses the angles above that of its first count, up to that of its
second. -/
theorem stepInfo_inside {n p : Nat} (hin : p + 1 < n) :
    (stepInfo n p .forward).wrap = false ∧ (stepInfo n p .forward).crosses =
      fun angle => decide (angleOf n p < angle ∧ angle ≤ angleOf n (p + 1)) := by
  have hwrap : (stepInfo n p .forward).wrap = false := by simp [stepInfo, nextPosition, hin]
  refine ⟨hwrap, ?_⟩
  funext angle
  simp [StepInfo.crosses, stepInfo, nextPosition, hin]

/-- 05 R88: the tracker that meets the step which is counted has the line's new level and the time elapsed. -/
theorem exec_defaultStep_lineMoved {m : MachineRecord} {line : EncLine} {dir : Direction} {s : State}
    (h : StepReady m line dir s) (elapsed : Nat) (taken : CausesTaken) :
    ∃ l, exec (.encoderStep line elapsed [] taken) s =
      .next (kickTransmitter (takeCauses taken
        (handleRest (stepInfo m.counts s.stk.position dir) taken
          (stepHandlings m s.run.state dir (s.stk.lineMoved line elapsed l))
          (stepCounted m dir (s.stk.lineMoved line elapsed l) s)))) := by
  obtain ⟨hready, hm, _, _, hdir⟩ := h
  obtain ⟨a, ha, hdir⟩ := Option.bind_eq_some_iff.mp hdir
  obtain ⟨b, hb, hdir⟩ := Option.map_eq_some_iff.mp hdir
  obtain ⟨l, hl⟩ : ∃ l, s.stk.lineLevel line = some l := by
    cases line
    · exact ⟨a, ha⟩
    · exact ⟨b, hb⟩
  have hposition : (s.stk.lineMoved line elapsed l).position = s.stk.position := by simp
  refine ⟨l, (causing_high taken _ s hready).trans ?_⟩
  simp only [lineChange, hm, hl, ha, hb, hdir, takeStep, runOrder]
  rw [← hposition]
  rfl

/-- 05 R97, 06 R114 to R116: what such a step hands on, in the default order. -/
theorem exec_armedStep {m : MachineRecord} {line : EncLine} {s : State} {sn : Snapshot}
    (h : StepReady m line .forward s) (hin : s.stk.position + 1 < m.counts) (hw : s.run.state = .weaving)
    (hsn : s.asc.snapshot = some sn)
    (hcross : (stepInfo m.counts s.stk.position .forward).crosses sn.latchAngle = false) (elapsed : Nat)
    {taken : CausesTaken} (hnone : NoneTaken taken s) :
    ∃ u tail, AtFiring m s u ∧ (∀ x ∈ tail, x.ofTracker = true) ∧
      exec (.encoderStep line elapsed [] taken) s =
        .next (kickTransmitter (takeCauses taken
          (handleRest (stepInfo m.counts s.stk.position .forward) taken
            (beforeClosing ++ .windowClose :: tail) u))) := by
  obtain ⟨l, hexec⟩ := exec_defaultStep_lineMoved h elapsed taken
  obtain ⟨_, hm, hhomed, _⟩ := h
  have hwrap := (stepInfo_inside hin).1
  generalize hk : s.stk.lineMoved line elapsed l = k at hexec
  obtain ⟨hposition, hhoming, hrev, _⟩ := Stk.lineMoved_frame line elapsed l s.stk
  rw [hk] at hposition hhoming hrev
  have hcounted : AtFiring m s (stepCounted m .forward k s) :=
    atFiring_counted hm hin hposition (by rwa [hposition]) hrev
  generalize stepInfo m.counts s.stk.position .forward = c at hexec hcross ⊢
  have hu := hcounted.turned .forward k c
  refine ⟨_, (afterBoundary m s.run.state .forward k).drop 12, hu, ?tracker, ?_⟩
  case tracker =>
    intro x hx
    have hlast : (afterBoundary m s.run.state .forward k).drop 12 =
        (if missesIndex m.counts k .forward then [.indexMissing] else []) ++
          (if reversesInRun s.run.state m.reverseTolerance k.reverseCount .forward then [.reverse] else []) := rfl
    rw [hlast, List.mem_append] at hx
    rcases hx with hx | hx <;> split at hx <;> simp_all [Handling.ofTracker]
  have hturning : ∀ x ∈ turning .forward k, x = .direction ∨ x = .release := by
    unfold turning
    split <;> simp
  have hafter : afterBoundary m s.run.state .forward k =
      .keep :: .latch :: (beforeClosing ++
        .windowClose :: (afterBoundary m s.run.state .forward k).drop 12) := rfl
  have hnoneCounted : NoneTaken taken (stepCounted m .forward k s) := hnone
  rw [hexec, stepHandlings_inside _ (hhoming.trans hhomed) (by rwa [hposition]),
    handleRest_before hnoneCounted c hturning]
  generalize (turning .forward k).foldl (handle c) (stepCounted m .forward k s) = u at hu ⊢
  have hnoneU : NoneTaken taken u := by rwa [NoneTaken, hu.run]
  have hkeep : handle c u .keep = u := keepShed_running c (by simp [hu.run, hw])
  have hlatch : handle c u .latch = u := requestLatch_uncrossed (by rwa [hu.asc]) hcross _
  rw [hafter, handleRest_cons hnoneU, hkeep, handleRest_cons hnoneU, hlatch]
  rfl

end Sys2Proof.Machine

namespace Sys2Proof.Machine

/-! ### The actions that fire -/

theorem insertBy_perm {α : Type} (le : α → α → Bool) (x : α) (l : List α) : (insertBy le x l).Perm (x :: l) := by
  induction l with
  | nil => exact .refl _
  | cons y ys ih =>
    unfold insertBy
    split
    · exact (ih.cons y).trans (.swap x y ys)
    · exact .refl _

theorem sortBy_perm {α : Type} (le : α → α → Bool) (l : List α) : (sortBy le l).Perm l := by
  have h (acc : List α) : (l.foldl (fun acc x => insertBy le x acc) acc).Perm (l ++ acc) := by
    induction l generalizing acc with
    | nil => exact .refl _
    | cons y ys ih =>
      refine (ih (insertBy le y acc)).trans ?_
      exact ((insertBy_perm le y acc).append_left ys).trans List.perm_middle
  simpa [sortBy] using h []

/-- No action fires twice as one is handed. -/
theorem firings_nodup (a : ArmedPart) (crosses : Nat → Bool) (i : Nat) : (a.firings crosses i).Nodup := by
  unfold ArmedPart.firings
  split
  · exact List.nodup_nil
  · split
    · exact List.nodup_nil
    · exact (sortBy_perm _ _).nodup_iff.mpr (List.nodup_range.filter _)

/-- The action at index `j` of the list has fired. -/
def ArmedPart.firedAt (a : ArmedPart) (j : Nat) : Bool := (a.actions[j]?).any ArmedAction.fired

/-- What fires has not fired before. -/
theorem firings_unfired {a : ArmedPart} {crosses : Nat → Bool} {i j : Nat} (h : j ∈ a.firings crosses i) :
    a.firedAt j = false := by
  unfold ArmedPart.firings at h
  split at h
  · simp at h
  · split at h
    · simp at h
    · rw [mem_sortBy, List.mem_filter] at h
      obtain ⟨_, h⟩ := h
      unfold ArmedPart.handedBy at h
      unfold ArmedPart.firedAt
      cases hy : a.actions[j]? <;> simp_all

theorem marked_firedAt (a : ArmedPart) : a.marked a.firedAt = a := by
  refine congrArg (fun l => { a with actions := l }) (List.ext_getElem? fun i => ?_)
  cases hx : a.actions[i]? with
  | none => simp [hx]
  | some x => simp [hx, ArmedPart.firedAt]

/-- The step hands action `j`: it has not fired, and its effective angle is crossed. -/
def ArmedPart.due (a : ArmedPart) (crosses : Nat → Bool) (j : Nat) : Bool := !a.firedAt j && a.crossedAt crosses j

/-- The actions fired by a step: those that are due, each once. -/
structure ArmedPart.Fires (a : ArmedPart) (crosses : Nat → Bool) (l : List Nat) : Prop where
  nodup : l.Nodup
  mem_iff : ∀ j, j ∈ l ↔ a.due crosses j = true

/-- 06 R114: the first `n` places of the action list, handed in order, fire actions that are due, each once, and every
one of those places that is due. -/
theorem fires_firstPlaces {s : State} {sn : Snapshot} {a : ArmedPart} (h : s.HasSnapshot sn (some a)) (c : StepInfo)
    (n : Nat) :
    ∃ l : List Nat, ((List.range n).map Handling.fire).foldl (handle c) s = l.foldl fireOne s ∧ l.Nodup ∧
      (∀ j ∈ l, a.due c.crosses j = true) ∧ ∀ i < n, a.due c.crosses i = true → i ∈ l := by
  induction n with
  | zero => exact ⟨[], rfl, List.nodup_nil, by simp, by simp⟩
  | succ n ih =>
    obtain ⟨l, he, hnodup, hdue, hall⟩ := ih
    let F := fun i => a.firedAt i || decide (i ∈ l)
    have hsn : (l.foldl fireOne s).HasSnapshot sn (some (a.marked F)) := by
      have hfold := fireOnes_snapshot h l
      rwa [← marked_firedAt a, marked_foldl] at hfold
    obtain ⟨hcrossed, hself⟩ := marked_firings a F c.crosses n
    have hunfired : ∀ j ∈ (a.marked F).firings c.crosses n, a.firedAt j = false ∧ j ∉ l := by
      intro j hj
      have hF := firings_unfired hj
      have hc := hcrossed j hj
      unfold ArmedPart.firedAt at hF
      unfold ArmedPart.crossedAt at hc
      rw [marked_getElem?] at hF
      cases hx : a.actions[j]? <;> simp_all [F]
    refine ⟨l ++ (a.marked F).firings c.crosses n, ?_, ?_, fun j hj => ?_, fun i hi hdueI => ?_⟩
    · rw [List.range_succ, List.map_append, List.foldl_append, he, List.foldl_append]
      simp [handle, fireAction, hsn.armedPart]
    · refine List.nodup_append'.mpr ⟨hnodup, firings_nodup _ _ _, fun j hl hj => (hunfired j hj).2 hl⟩
    · rcases List.mem_append.mp hj with hl | hj
      · exact hdue j hl
      · simp [ArmedPart.due, (hunfired j hj).1, hcrossed j hj]
    · rcases Nat.lt_succ_iff_lt_or_eq.mp hi with hlt | rfl
      · exact List.mem_append_left _ (hall i hlt hdueI)
      · obtain ⟨hf, hc⟩ : a.firedAt i = false ∧ a.crossedAt c.crosses i = true := by simpa [ArmedPart.due] using hdueI
        by_cases hl : i ∈ l
        · exact List.mem_append_left _ hl
        · exact List.mem_append_right _ (hself hc (by simp [F, hf, hl]))

/-- 06 R114: a step fires the actions that are due, each once. -/
theorem fireList_fires {s : State} {sn : Snapshot} {a : ArmedPart} (h : s.HasSnapshot sn (some a))
    (hlen : a.actions.length ≤ 8) (c : StepInfo) :
    ∃ l : List Nat, fireList.foldl (handle c) s = l.foldl fireOne s ∧ a.Fires c.crosses l := by
  obtain ⟨l, he, hnodup, hdue, hall⟩ := fires_firstPlaces h c 8
  refine ⟨l, he, hnodup, fun j => ⟨hdue j, fun hj => hall j ?_ hj⟩⟩
  obtain ⟨_, hc⟩ : _ ∧ a.crossedAt c.crosses j = true := by simpa [ArmedPart.due] using hj
  unfold ArmedPart.crossedAt at hc
  cases hx : a.actions[j]? with
  | none => simp [hx] at hc
  | some x => exact Nat.lt_of_lt_of_le (List.getElem?_eq_some_iff.mp hx).1 hlen

theorem opened_eq (crosses : Nat → Bool) (a : ArmedPart) :
    a.opened crosses = { a with openHanded := a.openHanded || crosses a.windowOpen } := by
  unfold ArmedPart.opened
  split
  · simp_all
  · have hsame : (a.openHanded || crosses a.windowOpen) = a.openHanded := by cases h : a.openHanded <;> simp_all
    rw [hsame]

theorem closed_eq (crosses : Nat → Bool) (a : ArmedPart) :
    a.closed crosses = { a with closeHanded := a.closeHanded || crosses a.windowClose } := by
  unfold ArmedPart.closed
  split
  · simp_all
  · have hsame : (a.closeHanded || crosses a.windowClose) = a.closeHanded := by cases h : a.closeHanded <;> simp_all
    rw [hsame]

/-- The armed part at the end of a step off the boundary: every angle the step crosses has been handed. -/
def ArmedPart.worked (a : ArmedPart) (crosses : Nat → Bool) : ArmedPart :=
  { a with
    actions := a.actions.map fun x => { x with fired := x.fired || crosses x.effective }
    openHanded := a.openHanded || crosses a.windowOpen
    closeHanded := a.closeHanded || crosses a.windowClose }

theorem worked_eq {a : ArmedPart} {crosses : Nat → Bool} {l : List Nat} (hl : a.Fires crosses l) :
    ((l.foldl ArmedPart.fireAt a).opened crosses).closed crosses = a.worked crosses := by
  have hfired : l.foldl ArmedPart.fireAt a =
      { a with actions := a.actions.map fun x => { x with fired := x.fired || crosses x.effective } } := by
    have hfold := marked_foldl a a.firedAt l
    rw [marked_firedAt] at hfold
    rw [hfold]
    refine congrArg (fun l => { a with actions := l }) (List.ext_getElem? fun i => ?_)
    cases hx : a.actions[i]? with
    | none => simp [hx]
    | some x =>
      have hmem := hl.mem_iff i
      cases hf : x.fired <;> simp_all [ArmedPart.due, ArmedPart.firedAt, ArmedPart.crossedAt]
  rw [hfired, opened_eq, closed_eq]
  rfl

end Sys2Proof.Machine

namespace Sys2Proof.Machine

/-! ### What the ONs and OFFs leave of the monitor -/

/-- The state with another snapshot and other channels. -/
def State.withActions (s : State) (asc : Asc) (channels : Vector DriverChannel 20) : State :=
  { s with asc := asc, drv := { s.drv with channels := channels } }

/-- From `s` to `t` nothing changes but the snapshot and the channels. -/
def ActionsOnly (s t : State) : Prop := ∃ asc channels, t = s.withActions asc channels

namespace ActionsOnly

theorem refl (s : State) : ActionsOnly s s := ⟨s.asc, s.drv.channels, rfl⟩

theorem trans {s t u : State} (h1 : ActionsOnly s t) (h2 : ActionsOnly t u) : ActionsOnly s u := by
  obtain ⟨_, _, rfl⟩ := h1
  obtain ⟨asc, channels, rfl⟩ := h2
  exact ⟨asc, channels, rfl⟩

/-- What does not read the snapshot or the channels does the same in both states. -/
theorem congr {s t : State} {f : State → State}
    (hf : ∀ s asc channels, f (s.withActions asc channels) = (f s).withActions asc channels) (h : ActionsOnly s t) :
    ActionsOnly (f s) (f t) := by
  obtain ⟨asc, channels, rfl⟩ := h
  exact ⟨asc, channels, hf s asc channels⟩

theorem setArmed (a : Option ArmedPart) (s : State) : ActionsOnly s (setArmed a s) := by
  unfold Machine.setArmed
  split
  · exact refl s
  · exact ⟨_, s.drv.channels, rfl⟩

theorem setChannel (dc : DriverIdx) (c : DriverChannel) (s : State) : ActionsOnly s (setChannel dc c s) :=
  ⟨s.asc, _, rfl⟩

theorem driverOn (dc : DriverIdx) (s : State) : ActionsOnly s (driverOn dc s) := by
  unfold Machine.driverOn
  dsimp only
  split
  · split
    · exact refl s
    · split
      · exact refl s
      · exact setChannel _ _ s
      · exact setChannel _ _ s
  · exact refl s

theorem sendAction (a : ArmedPart) (j : Nat) (x : ArmedAction) (s : State) : ActionsOnly s (sendAction a j x s) := by
  refine trans (setArmed (some (a.fire j x)) s) ?_
  unfold Machine.sendAction switchChannel
  split
  · exact driverOn _ _
  · exact setChannel _ _ _

end ActionsOnly

theorem weftFault_withActions (d : WeftDetail) (c : Ordinal → StopCause) (s : State) (asc : Asc)
    (channels : Vector DriverChannel 20) :
    weftFault d c (s.withActions asc channels) = (weftFault d c s).withActions asc channels := by
  have hcur : (s.withActions asc channels).psq.current = s.psq.current := rfl
  unfold weftFault
  rw [hcur]
  split
  · rfl
  · simp only [post_eq]
    rfl

theorem watchedBreak_withActions (f : FeederIdx) (s : State) (asc : Asc) (channels : Vector DriverChannel 20) :
    watchedBreak f (s.withActions asc channels) = (watchedBreak f s).withActions asc channels := by
  by_cases harmed : s.currentArmed = true
  · have harmed' : (s.withActions asc channels).currentArmed = true := harmed
    simp only [watchedBreak, harmed, harmed', if_true]
    exact weftFault_withActions _ _ { s with wfm := { s.wfm with watch := none } } asc channels
  · have harmed' : ¬(s.withActions asc channels).currentArmed = true := harmed
    simp only [watchedBreak, harmed, harmed']
    rfl

theorem beginWatch_withActions (line : Option FeederIdx) (s : State) (asc : Asc)
    (channels : Vector DriverChannel 20) :
    beginWatch line (s.withActions asc channels) = (beginWatch line s).withActions asc channels := by
  cases line with
  | none => rfl
  | some f =>
    have hfeeders : (s.withActions asc channels).wfm.feeders = s.wfm.feeders := rfl
    simp only [beginWatch, hfeeders]
    split
    · exact watchedBreak_withActions f { s with wfm := { s.wfm with watch := some f } } asc channels
    · rfl

theorem openWindow_withActions (s : State) (asc : Asc) (channels : Vector DriverChannel 20) :
    openWindow (s.withActions asc channels) = (openWindow s).withActions asc channels := by
  have hcur : (s.withActions asc channels).psq.current = s.psq.current := rfl
  unfold openWindow
  rw [hcur]
  split <;> rfl

theorem judgeWindow_withActions (s : State) (asc : Asc) (channels : Vector DriverChannel 20) :
    judgeWindow (s.withActions asc channels) = (judgeWindow s).withActions asc channels := by
  have hcapture : (s.withActions asc channels).wfm.capture = s.wfm.capture := rfl
  have harmed : ((s.withActions asc channels).wfm.window.isSome ∧ (s.withActions asc channels).currentArmed) =
    (s.wfm.window.isSome ∧ s.currentArmed) := rfl
  unfold judgeWindow
  simp only [harmed, hcapture, weftFault_withActions]
  split
  · split <;> rfl
  · rfl

end Sys2Proof.Machine

namespace Sys2Proof.Machine

/-! ### The feeder watch (07 R132) -/

/-- A SELECTOR ON (07 R132). -/
def ArmedAction.Selects (x : ArmedAction) : Prop := x.viaSelector = true ∧ x.switching = .on

/-- 07 R132: with the actions of `F` fired and those of `l` to fire, one of these begins the feeder watch. -/
def ArmedPart.Begins (a : ArmedPart) (F : Nat → Bool) (l : List Nat) : Prop :=
  a.closeHanded = false ∧ (∀ i x, a.actions[i]? = some x → x.Selects → F i = false) ∧
    ∃ i ∈ l, ∃ x, a.actions[i]? = some x ∧ x.Selects

theorem marked_beginsWatch (a : ArmedPart) (F : Nat → Bool) (b : Bool) (x : ArmedAction) :
    (a.marked F).beginsWatch { x with fired := b } = true ↔
      x.Selects ∧ a.closeHanded = false ∧ ∀ i y, a.actions[i]? = some y → y.Selects → F i = false := by
  have hany : (a.marked F).actions.any (fun y => y.fired && y.viaSelector && y.switching = .on) = false ↔
      ∀ i y, a.actions[i]? = some y → y.Selects → F i = false := by
    rw [List.any_eq_false]
    constructor
    · intro h i y hy hsel
      obtain ⟨hvia, hon⟩ := hsel
      have hmem : { y with fired := F i } ∈ (a.marked F).actions :=
        List.mem_of_getElem? (i := i) (by rw [marked_getElem?, hy]; rfl)
      have := h _ hmem
      simpa [hvia, hon] using this
    · intro h y hy
      obtain ⟨i, hi⟩ := List.mem_iff_getElem?.mp hy
      rw [marked_getElem?] at hi
      obtain ⟨z, hz, rfl⟩ := Option.map_eq_some_iff.mp hi
      intro hfired
      simp only [Bool.and_eq_true, decide_eq_true_eq] at hfired
      obtain ⟨⟨hF, hvia⟩, hon⟩ := hfired
      simp [h i z hz ⟨hvia, hon⟩] at hF
  have hclose : (a.marked F).closeHanded = a.closeHanded := rfl
  rw [← hany]
  unfold ArmedPart.beginsWatch ArmedAction.Selects
  rw [hclose]
  simp only [Bool.and_eq_true, Bool.not_eq_true', decide_eq_true_eq]
  tauto

/-- An action that does not itself begin the watch leaves it to those after it. -/
theorem begins_cons {a : ArmedPart} {F : Nat → Bool} {j : Nat}
    (hno : ∀ x, a.actions[j]? = some x →
      ¬(x.Selects ∧ a.closeHanded = false ∧ ∀ i y, a.actions[i]? = some y → y.Selects → F i = false))
    (js : List Nat) : a.Begins F (j :: js) ↔ a.Begins (fun i => F i || decide (i = j)) js := by
  constructor
  · rintro ⟨hclose, hF, i, hi, x, hx, hsel⟩
    have hne : ∀ i y, a.actions[i]? = some y → y.Selects → i ≠ j := by
      rintro i y hy hsel rfl
      exact hno y hy ⟨hsel, hclose, hF⟩
    refine ⟨hclose, fun i y hy hsel => ?_, i, ?_, x, hx, hsel⟩
    · simp [hF i y hy hsel, hne i y hy hsel]
    · exact (List.mem_cons.mp hi).resolve_left (hne i x hx hsel)
  · rintro ⟨hclose, hF, i, hi, x, hx, hsel⟩
    refine ⟨hclose, fun i y hy hsel => ?_, i, List.mem_cons_of_mem j hi, x, hx, hsel⟩
    exact (Bool.or_eq_false_iff.mp (hF i y hy hsel)).1

/-- 06 R114, 07 R132: firing leaves the monitor, but that the first SELECTOR ON begins the feeder watch. -/
theorem fireOnes_monitor {s : State} {sn : Snapshot} {a : ArmedPart} {F : Nat → Bool}
    (h : s.HasSnapshot sn (some (a.marked F))) (l : List Nat) :
    (a.Begins F l → ActionsOnly (beginWatch a.weft.feeder s) (l.foldl fireOne s)) ∧
      (¬a.Begins F l → ActionsOnly s (l.foldl fireOne s)) := by
  have hwatch {s t : State} : ActionsOnly s t → ActionsOnly (beginWatch a.weft.feeder s) (beginWatch a.weft.feeder t) :=
    .congr (beginWatch_withActions a.weft.feeder)
  induction l generalizing s F with
  | nil => exact ⟨fun ⟨_, _, _, hi, _⟩ => by simp at hi, fun _ => .refl s⟩
  | cons j js ih =>
    rw [List.foldl_cons]
    have hnext := fireOne_snapshot h j
    rw [marked_fireAt] at hnext
    obtain ⟨ihBegins, ihNot⟩ := ih hnext
    have hfire : ∀ x, a.actions[j]? = some x → fireOne s j =
        if (a.marked F).beginsWatch { x with fired := F j } then
          beginWatch a.weft.feeder (sendAction (a.marked F) j { x with fired := F j } s)
        else sendAction (a.marked F) j { x with fired := F j } s := fun x hx =>
      fireOne_sends h.armedPart (by rw [marked_getElem?, hx]; rfl)
    by_cases hbegins : ∃ x, a.actions[j]? = some x ∧
        x.Selects ∧ a.closeHanded = false ∧ ∀ i y, a.actions[i]? = some y → y.Selects → F i = false
    · obtain ⟨x, hx, hhead⟩ := hbegins
      have hone : ActionsOnly (beginWatch a.weft.feeder s) (fireOne s j) := by
        rw [hfire x hx, if_pos ((marked_beginsWatch a F (F j) x).mpr hhead)]
        exact hwatch (.sendAction _ j _ s)
      obtain ⟨hsel, hclose, hF⟩ := hhead
      have hafter : ¬a.Begins (fun i => F i || decide (i = j)) js := fun ⟨_, hF', _⟩ => by
        simpa using hF' j x hx hsel
      exact ⟨fun _ => hone.trans (ihNot hafter), fun hno => absurd ⟨hclose, hF, j, by simp, x, hx, hsel⟩ hno⟩
    · have hhead := not_exists.mp hbegins
      have hone : ActionsOnly s (fireOne s j) := by
        cases hx : a.actions[j]? with
        | none => simpa [fireOne, h.armedPart, marked_getElem?, hx] using ActionsOnly.refl s
        | some x =>
          rw [hfire x hx, if_neg fun hb => hhead x ⟨hx, (marked_beginsWatch a F (F j) x).mp hb⟩]
          exact .sendAction _ j _ s
      rw [begins_cons fun x hx hb => hhead x ⟨hx, hb⟩]
      exact ⟨fun hb => (hwatch hone).trans (ihBegins hb), fun hb => hone.trans (ihNot hb)⟩

/-- 07 R132: the step fires the first SELECTOR ON of the part, its window not closed before. -/
def ArmedPart.Starts (a : ArmedPart) (crosses : Nat → Bool) : Prop :=
  a.closeHanded = false ∧ (∀ x ∈ a.actions, x.Selects → x.fired = false) ∧
    ∃ x ∈ a.actions, x.Selects ∧ x.fired = false ∧ crosses x.effective = true

theorem due_iff (a : ArmedPart) (crosses : Nat → Bool) (j : Nat) :
    a.due crosses j = true ↔ ∃ x, a.actions[j]? = some x ∧ x.fired = false ∧ crosses x.effective = true := by
  unfold ArmedPart.due ArmedPart.firedAt ArmedPart.crossedAt
  cases a.actions[j]? <;> simp

theorem begins_iff_starts {a : ArmedPart} {crosses : Nat → Bool} {l : List Nat} (hl : a.Fires crosses l) :
    a.Begins a.firedAt l ↔ a.Starts crosses := by
  refine and_congr_right fun _ => and_congr ?_ ?_
  · constructor
    · intro h x hx hsel
      obtain ⟨i, hi⟩ := List.mem_iff_getElem?.mp hx
      simpa [ArmedPart.firedAt, hi] using h i x hi hsel
    · intro h i x hx hsel
      simp [ArmedPart.firedAt, hx, h x (List.mem_of_getElem? hx) hsel]
  · constructor
    · rintro ⟨i, hi, x, hx, hsel⟩
      obtain ⟨y, hy, hfires⟩ := (due_iff a crosses i).mp ((hl.mem_iff i).mp hi)
      obtain rfl : x = y := Option.some.inj (hx.symm.trans hy)
      exact ⟨x, List.mem_of_getElem? hx, hsel, hfires⟩
    · rintro ⟨x, hx, hsel, hfires⟩
      obtain ⟨i, hi⟩ := List.mem_iff_getElem?.mp hx
      exact ⟨i, (hl.mem_iff i).mpr ((due_iff a crosses i).mpr ⟨x, hi, hfires⟩), x, hi, hsel⟩

end Sys2Proof.Machine

namespace Sys2Proof.Machine

/-! ### The window angles (06 R116) -/

/-- The step crosses the window open angle for the first time. -/
def ArmedPart.opens (a : ArmedPart) (crosses : Nat → Bool) : Bool := !a.openHanded && crosses a.windowOpen

/-- The step crosses the window close angle for the first time. -/
def ArmedPart.closes (a : ArmedPart) (crosses : Nat → Bool) : Bool := !a.closeHanded && crosses a.windowClose

theorem opens_iff (a : ArmedPart) (crosses : Nat → Bool) :
    a.opens crosses = true ↔ a.openHanded = false ∧ crosses a.windowOpen = true := by
  simp [ArmedPart.opens]

theorem closes_iff (a : ArmedPart) (crosses : Nat → Bool) :
    a.closes crosses = true ↔ a.closeHanded = false ∧ crosses a.windowClose = true := by
  simp [ArmedPart.closes]

theorem opened_opens (a : ArmedPart) (crosses : Nat → Bool) : (a.opened crosses).opens crosses = false := by
  rw [opened_eq, ArmedPart.opens]
  cases crosses a.windowOpen <;> simp

/-- What the opening makes of the monitor. -/
def ArmedPart.windowed (a : ArmedPart) (crosses : Nat → Bool) (s : State) : State :=
  if a.opens crosses then openWindow s else s

/-- What the opening and after it the closing make of the monitor. -/
def ArmedPart.judged (a : ArmedPart) (crosses : Nat → Bool) (s : State) : State :=
  if a.closes crosses then judgeWindow (a.windowed crosses s) else a.windowed crosses s

theorem handOpening_monitor {s : State} {a : ArmedPart} (ha : s.armedPart = some a) (crosses : Nat → Bool) :
    ActionsOnly (a.windowed crosses s) (handOpening crosses s) := by
  have hopening : handOpening crosses s =
      if a.opens crosses then openWindow (setArmed (some { a with openHanded := true }) s) else s := by
    simp only [handOpening, ha]
    rfl
  rw [hopening, ArmedPart.windowed]
  split
  · exact (ActionsOnly.setArmed _ s).congr openWindow_withActions
  · exact .refl s

/-- The opening handed, the closing hands no other. -/
theorem handClosing_monitor {s : State} {a : ArmedPart} (ha : s.armedPart = some a) {crosses : Nat → Bool}
    (ho : a.opens crosses = false) :
    ActionsOnly (if a.closes crosses then judgeWindow s else s) (handClosing crosses s) := by
  have hopening : handOpening crosses s = s := by
    unfold ArmedPart.opens at ho
    simp [handOpening, ha, ho]
  have hclosing : handClosing crosses s =
      if a.closes crosses then judgeWindow (setArmed (some { a with closeHanded := true }) s) else s := by
    simp only [handClosing, hopening, ha]
    rfl
  rw [hclosing]
  split
  · exact (ActionsOnly.setArmed _ s).congr judgeWindow_withActions
  · exact .refl s

theorem opened_closes (a : ArmedPart) (crosses : Nat → Bool) : (a.opened crosses).closes crosses = a.closes crosses := by
  rw [opened_eq]
  rfl

/-- What firing leaves of the two window angles. -/
theorem fireAt_windows (a : ArmedPart) (crosses : Nat → Bool) (l : List Nat) :
    (l.foldl ArmedPart.fireAt a).opens crosses = a.opens crosses ∧
      (l.foldl ArmedPart.fireAt a).closes crosses = a.closes crosses := by
  have h := marked_foldl a a.firedAt l
  rw [marked_firedAt] at h
  rw [h]
  exact ⟨rfl, rfl⟩

/-- 06 R114 to R116: what the handings of a step off the boundary make of the monitor, `w` being what the firing does. -/
theorem handings_monitor {s w : State} {sn : Snapshot} {a : ArmedPart} {c : StepInfo} {l : List Nat}
    (h : s.HasSnapshot sn (some a)) (hl : a.Fires c.crosses l) (hfired : fireList.foldl (handle c) s = l.foldl fireOne s)
    (hw : ActionsOnly w (l.foldl fireOne s)) :
    ActionsOnly (a.windowed c.crosses w) (beforeClosing.foldl (handle c) s) ∧
      ActionsOnly (a.judged c.crosses w) (handle c (beforeClosing.foldl (handle c) s) .windowClose) ∧
      (handle c (beforeClosing.foldl (handle c) s) .windowClose).HasSnapshot sn
        (some (a.worked c.crosses)) := by
  have hv := fireOnes_snapshot h l
  obtain ⟨hopens, hcloses⟩ := fireAt_windows a c.crosses l
  rw [beforeClosing, List.foldl_append, hfired]
  simp only [List.foldl_cons, List.foldl_nil, handle]
  rw [← worked_eq hl]
  generalize l.foldl ArmedPart.fireAt a = b at hv hopens hcloses ⊢
  generalize l.foldl fireOne s = v at hv hw ⊢
  have hopening := handOpening_monitor hv.armedPart c.crosses
  have hopened := handOpening_snapshot hv c.crosses
  have hwindowed : ActionsOnly (a.windowed c.crosses w) (handOpening c.crosses v) := by
    refine .trans ?_ hopening
    unfold ArmedPart.windowed
    rw [hopens]
    split
    · exact hw.congr openWindow_withActions
    · exact hw
  have hclosing := handClosing_monitor hopened.armedPart (opened_opens b c.crosses)
  rw [opened_closes, hcloses] at hclosing
  refine ⟨hwindowed, .trans ?_ hclosing, ?_⟩
  · unfold ArmedPart.judged
    split
    · exact hwindowed.congr judgeWindow_withActions
    · exact hwindowed
  · have hclosed := handClosing_snapshot hopened c.crosses
    have hsame : (b.opened c.crosses).opened c.crosses = b.opened c.crosses := by
      have hopens := opened_opens b c.crosses
      unfold ArmedPart.opens at hopens
      generalize b.opened c.crosses = d at hopens
      simp [ArmedPart.opened, hopens]
    rwa [hsame] at hclosed

end Sys2Proof.Machine

namespace Sys2Proof.Machine

/-! ### The channels the actions reach (08 R141, R142) -/

/-- 08 R141: the channel after an ON in WEAVING, with the settings the switch-on fixes. -/
def DriverChannel.takesOn (settings : Option InUse) (c : DriverChannel) : DriverChannel :=
  if c.phase = .idle then
    match settings with
    | none => c
    | some u =>
      match u.settings.mode with
      | .off => c
      | .peakHold => c.switchOn u .peak
      | .direct => c.switchOn u .directOn
  else c

/-- The channel after the action's ON or OFF. -/
def DriverChannel.takes (x : ArmedAction) (settings : Option InUse) (c : DriverChannel) : DriverChannel :=
  match x.switching with
  | .on => c.takesOn settings
  | .off => c.switchedOff

theorem setChannel_self (dc : DriverIdx) (s : State) : setChannel dc s.drv.channels[dc] s = s := by
  unfold setChannel
  have h : s.drv.channels.set dc.val s.drv.channels[dc] = s.drv.channels := Vector.set_getElem_self _
  rw [h]

theorem driverOn_weaving {s : State} (hw : s.run.state = .weaving) (dc : DriverIdx) :
    driverOn dc s = setChannel dc ((s.drv.channels[dc]).takesOn (s.switchOnSettings dc)) s := by
  unfold driverOn DriverChannel.takesOn
  by_cases hidle : (s.drv.channels[dc]).phase = .idle
  · simp only [hw, hidle, and_self, if_true]
    cases s.switchOnSettings dc with
    | none => exact (setChannel_self dc s).symm
    | some u =>
      dsimp only
      cases u.settings.mode with
      | off => exact (setChannel_self dc s).symm
      | peakHold => rfl
      | direct => rfl
  · simp only [hidle, and_false, if_false]
    exact (setChannel_self dc s).symm

theorem switchChannel_weaving {s : State} (hw : s.run.state = .weaving) (x : ArmedAction) :
    switchChannel x s =
      setChannel x.channel ((s.drv.channels[x.channel]).takes x (s.switchOnSettings x.channel)) s := by
  unfold switchChannel DriverChannel.takes
  cases x.switching with
  | on => exact driverOn_weaving hw _
  | off => rfl

/-- 08 R140: the settings a switch-on fixes, from the copies of a part and the tables in force. -/
def ArmedPart.settingsOf (a : ArmedPart) (t : Tbm) (dc : DriverIdx) : Option InUse :=
  match a.copies.find? fun c => c.channel = dc with
  | some c => c.settings.map fun d => { settings := d, fromSnapshot := true }
  | none => t.drivers[dc].map fun d => { settings := d, fromSnapshot := false }

theorem switchOnSettings_armed {s : State} {a : ArmedPart} (ha : s.armedPart = some a) (dc : DriverIdx) :
    s.switchOnSettings dc = a.settingsOf s.tbm dc := by
  cases hcopy : a.copies.find? fun c => c.channel = dc with
  | none => simp [State.switchOnSettings, ArmedPart.settingsOf, ha, hcopy]
  | some c => simp [State.switchOnSettings, ArmedPart.settingsOf, ha, hcopy]

/-- 06 R114: what firing action `j` leaves of the channels. -/
theorem fireOne_channel {s : State} {sn : Snapshot} {a : ArmedPart} (h : s.HasSnapshot sn (some a))
    (hw : s.run.state = .weaving) {j : Nat} {x : ArmedAction} (hx : a.actions[j]? = some x) (d : DriverIdx) :
    (fireOne s j).drv.channels[d] =
      if x.channel = d then (s.drv.channels[x.channel]).takes x (a.settingsOf s.tbm x.channel)
      else s.drv.channels[d] := by
  have hdrv : (fireOne s j).drv = (sendAction a j x s).drv := by
    rw [fireOne_sends h.armedPart hx]
    split <;> simp
  have hmarked := h.setArmed (some (a.fire j x))
  rw [hdrv, sendAction, switchChannel_weaving (by simpa using hw), setChannel_channel,
    switchOnSettings_armed hmarked.armedPart]
  simp [ArmedPart.settingsOf, ArmedPart.fire]

/-- What stays as the actions of a part are fired one by one. -/
structure Firing (a : ArmedPart) (sn : Snapshot) (F : Nat → Bool) (s : State) : Prop where
  snapshot : s.HasSnapshot sn (some (a.marked F))
  weaving : s.run.state = .weaving

section
variable {a : ArmedPart} {sn : Snapshot} {F : Nat → Bool} {s : State}

theorem Firing.fireOnes (h : Firing a sn F s) (l : List Nat) :
    Firing a sn (fun i => F i || decide (i ∈ l)) (l.foldl fireOne s) := by
  refine ⟨?_, ?_⟩
  · rw [← marked_foldl]
    exact fireOnes_snapshot h.snapshot l
  · rw [(HandedOn.foldl fireOne_handedOn l s).run]
    exact h.weaving

theorem Firing.fireOne_channel (h : Firing a sn F s) {j : Nat} {x : ArmedAction} (hx : a.actions[j]? = some x)
    (d : DriverIdx) :
    (fireOne s j).drv.channels[d] =
      if x.channel = d then (s.drv.channels[x.channel]).takes x (a.settingsOf s.tbm x.channel)
      else s.drv.channels[d] :=
  Machine.fireOne_channel h.snapshot h.weaving (x := { x with fired := F j }) (by rw [marked_getElem?, hx]; rfl) d

/-- 06 R114: a channel no fired action reaches does not change. -/
theorem Firing.unreached (h : Firing a sn F s) (l : List Nat) {d : DriverIdx}
    (hl : ∀ j ∈ l, ∀ x, a.actions[j]? = some x → x.channel ≠ d) :
    (l.foldl fireOne s).drv.channels[d] = s.drv.channels[d] := by
  induction l generalizing s F with
  | nil => rfl
  | cons j js ih =>
    have hhead : (fireOne s j).drv.channels[d] = s.drv.channels[d] := by
      cases hx : a.actions[j]? with
      | none => simp [fireOne, h.snapshot.armedPart, marked_getElem?, hx]
      | some x => rw [h.fireOne_channel hx, if_neg (hl j (by simp) x hx)]
    exact (ih (h.fireOnes [j]) fun i hi => hl i (by simp [hi])).trans hhead

/-- 06 R114: a channel that one fired action reaches takes its ON or OFF. -/
theorem Firing.reached (h : Firing a sn F s) {l : List Nat} (hl : l.Nodup) {i : Nat} {x : ArmedAction} (hi : i ∈ l)
    (hx : a.actions[i]? = some x)
    (hother : ∀ j ∈ l, j ≠ i → ∀ y, a.actions[j]? = some y → y.channel ≠ x.channel) :
    (l.foldl fireOne s).drv.channels[x.channel] =
      (s.drv.channels[x.channel]).takes x (a.settingsOf s.tbm x.channel) := by
  obtain ⟨before, after, rfl⟩ := List.append_of_mem hi
  have hne : ∀ j ∈ before ++ after, j ≠ i := by
    rintro j hj rfl
    exact (List.nodup_cons.mp (List.nodup_middle.mp hl)).1 hj
  have hbefore := h.unreached before (d := x.channel) fun j hj =>
    hother j (by simp [hj]) (hne j (by simp [hj]))
  have htbm : (before.foldl fireOne s).tbm = s.tbm := (HandedOn.foldl fireOne_handedOn before s).tbm
  have hmid := (h.fireOnes before).fireOne_channel hx x.channel
  have hafter := ((h.fireOnes before).fireOnes [i]).unreached after (d := x.channel) fun j hj =>
    hother j (by simp [hj]) (hne j (by simp [hj]))
  rw [List.foldl_append, List.foldl_cons]
  exact hafter.trans (by rw [List.foldl_cons, List.foldl_nil, hmid, if_pos rfl, hbefore, htbm])

end

end Sys2Proof.Machine

namespace Sys2Proof.Machine

/-! ### What the watch and the window make of CURRENT (07 R127, R129, R132, R133) -/

/-- 07 R129, R134: a weft fault of the record in CURRENT. -/
theorem weftFault_settles {s : State} {r : PickRecord} (d : WeftDetail) (c : Ordinal → StopCause)
    (hc : s.psq.current = some r) :
    (weftFault d c s).psq.current = some { r with state := .faulted, cause := some d.cause } ∧
      (weftFault d c s).wfm = { s.wfm with weftFaults := satInc 4294967295 s.wfm.weftFaults } ∧
      (weftFault d c s).run = { s.run with handed := s.run.handed ++ [.stop (c r.ordinal)] } ∧
      Posted (.weftFault r.ordinal r.row r.weft s.countAngle r.arrival d) (weftFault d c s) := by
  unfold weftFault
  rw [hc]
  dsimp only
  refine ⟨by simp [hc], by simp [max32], by simp, ?_⟩
  exact (hand_handedOn _ _).posted _ (post_posted _ _)

theorem currentArmed_iff {s : State} {r : PickRecord} (hc : s.psq.current = some r) :
    s.currentArmed = true ↔ r.state = .armed := by
  simp [State.currentArmed, hc]

/-- The state with another watch. -/
def State.withWatch (s : State) (line : Option FeederIdx) : State := { s with wfm := { s.wfm with watch := line } }

theorem beginWatch_clear {s : State} {f : FeederIdx} (hf : s.wfm.feeders[f] ≠ some .high) :
    beginWatch (some f) s = s.withWatch (some f) := by
  unfold beginWatch
  exact if_neg hf

theorem beginWatch_broken {s : State} {f : FeederIdx} (hf : s.wfm.feeders[f] = some .high) :
    beginWatch (some f) s =
      if s.currentArmed then weftFault (.feeder f) .feederBreak (s.withWatch none) else s.withWatch none := by
  unfold beginWatch
  exact if_pos hf

theorem weftFault_window (d : WeftDetail) (c : Ordinal → StopCause) (s : State) :
    (weftFault d c s).wfm.window = s.wfm.window ∧ (weftFault d c s).wfm.capture = s.wfm.capture ∧
      (weftFault d c s).wfm.watch = s.wfm.watch := by
  unfold weftFault
  split <;> simp

/-- 07 R132, R133: the watch stands on the line, or has ended with the line at BREAK; the window is left. -/
theorem beginWatch_wfm (f : FeederIdx) (s : State) :
    (beginWatch (some f) s).wfm.window = s.wfm.window ∧ (beginWatch (some f) s).wfm.capture = s.wfm.capture ∧
      (beginWatch (some f) s).wfm.watch = if s.wfm.feeders[f] = some .high then none else some f := by
  split
  · rename_i hhigh
    rw [beginWatch_broken hhigh]
    split
    · exact weftFault_window _ _ (s.withWatch none)
    · exact ⟨rfl, rfl, rfl⟩
  · rename_i hclear
    rw [beginWatch_clear hclear]
    exact ⟨rfl, rfl, rfl⟩

/-- The step's first SELECTOR ON meets a feeder line at BREAK. -/
def ArmedPart.Broken (a : ArmedPart) (crosses : Nat → Bool) (s : State) : Prop :=
  a.Starts crosses ∧ ∃ f, a.weft.feeder = some f ∧ s.wfm.feeders[f] = some .high

/-- What the firing of a step makes of the monitor. -/
structure WatchBegun (a : ArmedPart) (crosses : Nat → Bool) (s w : State) : Prop where
  begins : a.Starts crosses → w = beginWatch a.weft.feeder s
  rests : ¬a.Starts crosses → w = s

namespace WatchBegun

variable {a : ArmedPart} {crosses : Nat → Bool} {s w : State}

theorem watch_rests (h : WatchBegun a crosses s w) (hno : ¬a.Starts crosses ∨ a.weft.feeder = none) : w = s := by
  by_cases hs : a.Starts crosses
  · rw [h.begins hs, hno.resolve_left (not_not.mpr hs)]
    rfl
  · exact h.rests hs

/-- 07 R132: with the line not at BREAK the watch begins and nothing else changes. -/
theorem unbroken (h : WatchBegun a crosses s w) (hb : ¬a.Broken crosses s) : ∃ line, w = s.withWatch line := by
  have hsame : s = s.withWatch s.wfm.watch := rfl
  by_cases hs : a.Starts crosses
  · cases hf : a.weft.feeder with
    | none => exact ⟨_, (h.watch_rests (.inr hf)).trans hsame⟩
    | some f =>
      refine ⟨some f, ?_⟩
      rw [h.begins hs, hf]
      exact beginWatch_clear fun hhigh => hb ⟨hs, f, hf, hhigh⟩
  · exact ⟨_, (h.rests hs).trans hsame⟩

/-- A pick that is not ARMED is not faulted. -/
theorem unarmed (h : WatchBegun a crosses s w) (ha : s.currentArmed = false) : ∃ line, w = s.withWatch line := by
  by_cases hb : a.Broken crosses s
  · obtain ⟨hs, f, hf, hhigh⟩ := hb
    refine ⟨none, ?_⟩
    rw [h.begins hs, hf, beginWatch_broken hhigh, ha]
    rfl
  · exact h.unbroken hb

/-- 07 R133: an ARMED pick with its line at BREAK is faulted. -/
theorem faults (h : WatchBegun a crosses s w) (hs : a.Starts crosses) {f : FeederIdx} (hf : a.weft.feeder = some f)
    (hhigh : s.wfm.feeders[f] = some .high) {r : PickRecord} (hc : s.psq.current = some r) (ha : r.state = .armed) :
    w = weftFault (.feeder f) .feederBreak (s.withWatch none) := by
  rw [h.begins hs, hf, beginWatch_broken hhigh, if_pos ((currentArmed_iff hc).mpr ha)]

/-- The watch does not concern the arrival window. -/
theorem window (h : WatchBegun a crosses s w) : w.wfm.window = s.wfm.window ∧ w.wfm.capture = s.wfm.capture := by
  by_cases hs : a.Starts crosses
  · rw [h.begins hs]
    cases a.weft.feeder with
    | none => exact ⟨rfl, rfl⟩
    | some f =>
      obtain ⟨hwindow, hcapture, _⟩ := beginWatch_wfm f s
      exact ⟨hwindow, hcapture⟩
  · rw [h.rests hs]
    exact ⟨rfl, rfl⟩

theorem watch (h : WatchBegun a crosses s w) (hs : a.Starts crosses) {f : FeederIdx} (hf : a.weft.feeder = some f) :
    w.wfm.watch = if s.wfm.feeders[f] = some .high then none else some f := by
  obtain ⟨_, _, hwatch⟩ := beginWatch_wfm f s
  rw [h.begins hs, hf, hwatch]

/-- The watch does not concern which pick is in CURRENT. -/
theorem ordinal (h : WatchBegun a crosses s w) {r : PickRecord} (hc : s.psq.current = some r) :
    ∃ x, w.psq.current = some x ∧ x.ordinal = r.ordinal := by
  by_cases hs : a.Starts crosses
  · obtain ⟨f, hf, hpsq⟩ := beginWatch_outcome a.weft.feeder s
    exact ⟨f r, by rw [h.begins hs, hpsq, hc]; rfl, hf r⟩
  · exact ⟨r, by rw [h.rests hs, hc], rfl⟩

end WatchBegun

/-! ### The closing of the window -/

theorem judgeWindow_wfm (s : State) :
    (judgeWindow s).wfm.window = none ∧ (judgeWindow s).wfm.capture = none ∧ (judgeWindow s).wfm.watch = none := by
  unfold judgeWindow
  split
  · split <;> exact ⟨rfl, rfl, rfl⟩
  · exact ⟨rfl, rfl, rfl⟩

theorem judgeWindow_unarmed {s : State} (h : s.currentArmed = false) : judgeWindow s = closeWindow s := by
  simp [judgeWindow, h]

theorem judgeWindow_captured {s : State} {x : Nat} (hw : s.wfm.window ≠ none) (ha : s.currentArmed = true)
    (hc : s.wfm.capture = some x) : judgeWindow s = closeWindow (insertCurrent s) := by
  simp [judgeWindow, ha, hc, Option.isSome_iff_ne_none, hw]

theorem judgeWindow_missed {s : State} (hw : s.wfm.window ≠ none) (ha : s.currentArmed = true)
    (hc : s.wfm.capture = none) : judgeWindow s = closeWindow (weftFault .missing .weftMissing s) := by
  simp [judgeWindow, ha, hc, Option.isSome_iff_ne_none, hw]

/-! ### What the whole step makes of the monitor -/

section
variable {a : ArmedPart} {crosses : Nat → Bool} {s w : State}

/-- 07 R127: the opening opens the window for CURRENT, and nothing else. -/
theorem windowed_frame (a : ArmedPart) (crosses : Nat → Bool) (w : State) :
    (a.windowed crosses w).psq = w.psq ∧ (a.windowed crosses w).run = w.run ∧
      (a.windowed crosses w).dlp = w.dlp ∧ (a.windowed crosses w).stk = w.stk ∧ (a.windowed crosses w).tbm = w.tbm ∧
      (a.windowed crosses w).wfm.watch = w.wfm.watch ∧
      (a.windowed crosses w).wfm.weftFaults = w.wfm.weftFaults := by
  unfold ArmedPart.windowed openWindow
  split
  · split <;> exact ⟨rfl, rfl, rfl, rfl, rfl, rfl, rfl⟩
  · exact ⟨rfl, rfl, rfl, rfl, rfl, rfl, rfl⟩

theorem windowed_opens {r : PickRecord} (ho : a.opens crosses = true) (hc : w.psq.current = some r) :
    (a.windowed crosses w).wfm.window = some r.ordinal ∧ (a.windowed crosses w).wfm.capture = none := by
  simp [ArmedPart.windowed, ho, openWindow, hc]

theorem windowed_unopened (ho : a.opens crosses = false) : a.windowed crosses w = w := by
  simp [ArmedPart.windowed, ho]

theorem judged_closes (h : a.closes crosses = true) :
    a.judged crosses w = judgeWindow (a.windowed crosses w) := if_pos h

theorem judged_unclosed (h : a.closes crosses = false) :
    a.judged crosses w = a.windowed crosses w := if_neg (by simp [h])

/-- 07 R129: no ARMED pick is judged where none is ARMED, or the window is not closed. -/
theorem judged_unjudged (h : a.closes crosses = false ∨ w.currentArmed = false) :
    (a.judged crosses w).psq = w.psq ∧ (a.judged crosses w).run = w.run ∧ (a.judged crosses w).dlp = w.dlp ∧
      (a.judged crosses w).wfm.weftFaults = w.wfm.weftFaults := by
  obtain ⟨hpsq, hrun, hdlp, _, _, _, hfaults⟩ := windowed_frame a crosses w
  cases hcl : a.closes crosses with
  | false =>
    rw [judged_unclosed hcl]
    exact ⟨hpsq, hrun, hdlp, hfaults⟩
  | true =>
    have harmed : (a.windowed crosses w).currentArmed = false := by
      have hw := h.resolve_left (by simp [hcl])
      rwa [State.currentArmed, hpsq]
    rw [judged_closes hcl, judgeWindow_unarmed harmed]
    exact ⟨hpsq, hrun, hdlp, hfaults⟩

theorem judged_closed_wfm (h : a.closes crosses = true) :
    (a.judged crosses w).wfm.window = none ∧ (a.judged crosses w).wfm.capture = none ∧
      (a.judged crosses w).wfm.watch = none := by
  rw [judged_closes h]
  exact judgeWindow_wfm _

/-- The step closes the window on the record in CURRENT, ARMED and with no arrival captured (07 R129). -/
structure ArmedPart.Misses (a : ArmedPart) (crosses : Nat → Bool) (s : State) (r : PickRecord) : Prop where
  closes : a.closes crosses = true
  unbroken : ¬a.Broken crosses s
  current : s.psq.current = some r
  armed : r.state = .armed
  unarrived : a.opens crosses = true ∨ (a.openHanded = true ∧ s.wfm.window ≠ none ∧ s.wfm.capture = none)

namespace WatchBegun

variable {r : PickRecord}

/-- 07 R129: with no fault and no closing, or a pick that is not ARMED, the record in CURRENT stays. -/
theorem keeps_current (h : WatchBegun a crosses s w) (hc : s.psq.current = some r)
    (hno : (a.closes crosses = false ∧ ¬a.Broken crosses s) ∨ r.state ≠ .armed) :
    (a.judged crosses w).psq.current = some r ∧ (a.judged crosses w).wfm.weftFaults = s.wfm.weftFaults := by
  have hunarmed (hr : r.state ≠ .armed) : s.currentArmed = false := by
    simpa [hr] using currentArmed_iff hc
  have hwatch : ∃ line, w = s.withWatch line := by
    rcases hno with ⟨_, hb⟩ | hr
    · exact h.unbroken hb
    · exact h.unarmed (hunarmed hr)
  obtain ⟨line, rfl⟩ := hwatch
  have hunjudged : a.closes crosses = false ∨ (s.withWatch line).currentArmed = false := by
    rcases hno with ⟨hcl, _⟩ | hr
    · exact .inl hcl
    · exact .inr (hunarmed hr)
  obtain ⟨hpsq, _, _, hfaults⟩ := judged_unjudged hunjudged
  exact ⟨by rw [hpsq]; exact hc, hfaults⟩

/-- 07 R129: a closing with a capture inserts the pick. -/
theorem inserts (h : WatchBegun a crosses s w) (hc : s.psq.current = some r) (hcl : a.closes crosses = true)
    (hb : ¬a.Broken crosses s) (ho : a.opens crosses = false) (ha : r.state = .armed) (hwindow : s.wfm.window ≠ none)
    {x : Nat} (hcapture : s.wfm.capture = some x) :
    (a.judged crosses w).psq.current = some { r with state := .inserted, revTime := s.stk.revTime } ∧
      (a.judged crosses w).wfm.weftFaults = s.wfm.weftFaults := by
  obtain ⟨line, rfl⟩ := h.unbroken hb
  have hcur : (s.withWatch line).psq.current = some r := hc
  rw [judged_closes hcl, windowed_unopened ho,
    judgeWindow_captured (s := s.withWatch line) hwindow ((currentArmed_iff hcur).mpr ha) hcapture]
  have hinserted : (closeWindow (insertCurrent (s.withWatch line))).psq.current =
      (s.withWatch line).psq.current.map fun x => { x with state := .inserted, revTime := s.stk.revTime } := rfl
  exact ⟨by rw [hinserted, hcur]; rfl, rfl⟩

/-- 07 R129: a closing with no capture faults the pick. -/
theorem misses (h : WatchBegun a crosses s w) (hm : a.Misses crosses s r) :
    (a.judged crosses w).psq.current = some { r with state := .faulted, cause := some .missing } ∧
      (a.judged crosses w).wfm.weftFaults = satInc 4294967295 s.wfm.weftFaults ∧
      (a.windowed crosses w).run = s.run ∧
      (a.judged crosses w).run = { s.run with handed := s.run.handed ++ [.stop (.weftMissing r.ordinal)] } ∧
      Posted (.weftFault r.ordinal r.row r.weft s.countAngle r.arrival .missing) (a.judged crosses w) := by
  obtain ⟨line, rfl⟩ := h.unbroken hm.unbroken
  obtain ⟨hpsq, hrun, _, hstk, htbm, _, hfaults⟩ := windowed_frame a crosses (s.withWatch line)
  have hopen : (a.windowed crosses (s.withWatch line)).wfm.window ≠ none ∧
      (a.windowed crosses (s.withWatch line)).wfm.capture = none := by
    rcases hm.unarrived with ho | ⟨hopened, hwindow, hcapture⟩
    · obtain ⟨hwindow, hcapture⟩ := windowed_opens (w := s.withWatch line) ho hm.current
      exact ⟨by simp [hwindow], hcapture⟩
    · rw [windowed_unopened (by simp [ArmedPart.opens, hopened])]
      exact ⟨hwindow, hcapture⟩
  rw [judged_closes hm.closes]
  generalize a.windowed crosses (s.withWatch line) = v at *
  have hcur : v.psq.current = some r := hpsq ▸ hm.current
  have hangle : v.countAngle = s.countAngle := by
    unfold State.countAngle
    rw [hstk, htbm]
    rfl
  rw [judgeWindow_missed hopen.1 ((currentArmed_iff hcur).mpr hm.armed) hopen.2]
  obtain ⟨hcurrent, hwfm, hrunV, hposted⟩ := weftFault_settles .missing .weftMissing hcur
  rw [hrun] at hrunV
  rw [hangle] at hposted
  exact ⟨hcurrent, by rw [closeWindow_wfm, hwfm, hfaults]; rfl, hrun, hrunV, hposted⟩

/-- 07 R133: the fault of a line at BREAK stands to the step's end. -/
theorem breaks (h : WatchBegun a crosses s w) (hs : a.Starts crosses) {f : FeederIdx} (hf : a.weft.feeder = some f)
    (hhigh : s.wfm.feeders[f] = some .high) (hc : s.psq.current = some r) (ha : r.state = .armed) :
    (a.judged crosses w).psq.current = some { r with state := .faulted, cause := some .feeder } ∧
      (a.judged crosses w).wfm.weftFaults = satInc 4294967295 s.wfm.weftFaults ∧
      .stop (.feederBreak r.ordinal) ∈ (a.judged crosses w).run.handed ∧
      Posted (.weftFault r.ordinal r.row r.weft s.countAngle r.arrival (.feeder f)) (a.judged crosses w) := by
  have hcur : (s.withWatch none).psq.current = some r := hc
  obtain ⟨hcurrent, hwfm, hrun, hposted⟩ := weftFault_settles (.feeder f) .feederBreak hcur
  rw [← h.faults hs hf hhigh hc ha] at hcurrent hwfm hrun hposted
  obtain ⟨hpsq, hrunJ, hdlp, hfaults⟩ := judged_unjudged (a := a) (crosses := crosses) (w := w)
    (.inr (by simp [State.currentArmed, hcurrent]))
  refine ⟨by rw [hpsq]; exact hcurrent, by rw [hfaults, hwfm]; rfl, by rw [hrunJ, hrun]; simp, ?_⟩
  rw [Posted, hdlp]
  exact hposted

/-- 07 R127, R132, R133: with no closing, the window and the watch. -/
theorem unclosed (h : WatchBegun a crosses s w) (hcl : a.closes crosses = false) :
    (∀ r, a.opens crosses = true → s.psq.current = some r →
        (a.judged crosses w).wfm.window = some r.ordinal ∧ (a.judged crosses w).wfm.capture = none) ∧
      (a.opens crosses = false →
        (a.judged crosses w).wfm.window = s.wfm.window ∧ (a.judged crosses w).wfm.capture = s.wfm.capture) ∧
      (¬a.Starts crosses ∨ a.weft.feeder = none → (a.judged crosses w).wfm.watch = s.wfm.watch) ∧
      ∀ f, a.Starts crosses → a.weft.feeder = some f →
        (a.judged crosses w).wfm.watch = if s.wfm.feeders[f] = some .high then none else some f := by
  obtain ⟨_, _, _, _, _, hwatch, _⟩ := windowed_frame a crosses w
  rw [judged_unclosed hcl, hwatch]
  refine ⟨fun r ho hc => ?_, fun ho => ?_, fun hno => ?_, fun f hs hf => h.watch hs hf⟩
  · obtain ⟨x, hx, hordinal⟩ := h.ordinal hc
    rw [← hordinal]
    exact windowed_opens ho hx
  · rw [windowed_unopened ho]
    exact h.window
  · rw [h.watch_rests hno]

end WatchBegun

end

end Sys2Proof.Machine

namespace Sys2Proof.Machine

/-! ### What follows the closing, and RUN's taking of its cause -/

/-- What the tracker finds leaves the pick run, the snapshot, the monitor and the channels. -/
theorem handle_ofTracker (c : StepInfo) (s : State) {x : Handling} (hx : x.ofTracker = true) :
    (handle c s x).psq = s.psq ∧ (handle c s x).asc = s.asc ∧ (handle c s x).wfm = s.wfm ∧
      (handle c s x).drv = s.drv ∧
      ∃ y : StopCause, (handle c s x).run = { s.run with handed := s.run.handed ++ [.stop y] } := by
  cases x with
  | indexMissing => simp [handle, raiseIndexMissing]
  | reverse => simp [handle]
  | _ => simp [Handling.ofTracker] at hx

theorem handles_ofTracker (c : StepInfo) {tail : List Handling} (ht : ∀ x ∈ tail, x.ofTracker = true) (s : State) :
    (tail.foldl (handle c) s).psq = s.psq ∧ (tail.foldl (handle c) s).asc = s.asc ∧
      (tail.foldl (handle c) s).wfm = s.wfm ∧ (tail.foldl (handle c) s).drv = s.drv := by
  refine List.foldlRecOn tail (handle c)
    (motive := fun t => t.psq = s.psq ∧ t.asc = s.asc ∧ t.wfm = s.wfm ∧ t.drv = s.drv) ⟨rfl, rfl, rfl, rfl⟩ ?_
  rintro t ⟨hpsq, hasc, hwfm, hdrv⟩ x hx
  obtain ⟨h1, h2, h3, h4, _⟩ := handle_ofTracker c t (ht x hx)
  exact ⟨h1.trans hpsq, h2.trans hasc, h3.trans hwfm, h4.trans hdrv⟩

/-- Handlings that hand no cause are taken before anything else. -/
theorem handleRest_quiet (c : StepInfo) (pre rest : List Handling) {s : State}
    (h : (pre.foldl (handle c) s).run.handed = []) :
    handleRest c .every (pre ++ rest) s = handleRest c .every rest (pre.foldl (handle c) s) := by
  induction pre generalizing s with
  | nil => rfl
  | cons x xs ih =>
    have hs : s.run.handed = [] := List.eq_nil_iff_forall_not_mem.mpr fun y hy => by
      have hgrows := (HandedOn.foldl (handle_handedOn c) (x :: xs) s).grows y hy
      rw [h] at hgrows
      simp at hgrows
    rw [List.cons_append, handleRest_cons (.inr hs)]
    exact ih h

/-- The loom is STOPPING for a cause, its record in CURRENT settled and the window closed; no cause waits. -/
structure StoppedFor (c : StopCause) (cur : Option PickRecord) (t : State) : Prop where
  state : t.run.state = .stopping
  permit : t.run.permit = false
  first : t.run.firstStop = some c
  waiting : t.run.handed = []
  current : t.psq.current = cur
  window : t.wfm.window = none

/-- 09 R167: the one cause waiting in WEAVING, taken as the loom moves. -/
theorem drain_stoppedFor {s : State} {c : StopCause} {r : PickRecord} (hw : s.run.state = .weaving)
    (hm : s.stk.motion = .moving) (hh : s.run.handed = [.stop c]) (hc : s.psq.current = some r)
    (hr : r.state ≠ .armed) : StoppedFor c (some r) (drain s) := by
  let u : State := { s with run := { s.run with handed := [] } }
  have hdrain : drain s = takeStop c u := drain_of_one s _ hh
  obtain ⟨hrun, _⟩ := takeStop_moving_leaves (u := u) hw hm c
  obtain ⟨hpsq, _, hwfm, _⟩ := takeStop_weaving_leaves (u := u) hw c
  have hcur : u.psq.current = some r := hc
  rw [hdrain]
  exact ⟨by rw [hrun], by rw [hrun], by rw [hrun], by rw [hrun], by rw [hpsq]; simp [hcur, PickRecord.interrupt, hr],
    by rw [hwfm]⟩

/-- 09 R168: what the tracker finds in STOPPING is a later cause. -/
theorem StoppedFor.handleAndDrain {c : StopCause} {cur : Option PickRecord} {t : State} (h : StoppedFor c cur t)
    (i : StepInfo) {x : Handling} (hx : x.ofTracker = true) : StoppedFor c cur (handleAndDrain i t x) := by
  obtain ⟨hpsq, _, hwfm, _, y, hrun⟩ := handle_ofTracker i t hx
  rw [h.waiting, List.nil_append] at hrun
  let u : State := { handle i t x with run := { (handle i t x).run with handed := [] } }
  have hdrain : Machine.handleAndDrain i t x = takeStop y u :=
    drain_of_one (handle i t x) (.stop y) (by rw [hrun])
  have hu : u.run = { t.run with handed := [] } := by simp [u, hrun]
  rw [hdrain, takeStop_later y u (by simp [hu, h.state])]
  exact
    { state := by simp [hu, h.state]
      permit := by simp [hu, h.permit]
      first := by simp [hu, h.first]
      waiting := by simp [hu]
      current := by simp [u, hpsq, h.current]
      window := by simp [u, hwfm, h.window] }

/-- The step's rest and the command's end leave the loom so. -/
theorem StoppedFor.rest {c : StopCause} {cur : Option PickRecord} {t : State} (h : StoppedFor c cur t) (i : StepInfo)
    {tail : List Handling} (ht : ∀ x ∈ tail, x.ofTracker = true) :
    StoppedFor c cur (kickTransmitter (takeCauses .every (tail.foldl (Machine.handleAndDrain i) t))) := by
  have hfold : StoppedFor c cur (tail.foldl (Machine.handleAndDrain i) t) :=
    List.foldlRecOn tail _ h fun _ hv x hx => hv.handleAndDrain i (ht x hx)
  rw [takeCauses_of_none _ _ hfold.waiting]
  obtain ⟨h1, h2, h3, h4, h5, h6⟩ := hfold
  exact ⟨by simpa using h1, by simpa using h2, by simpa using h3, by simpa using h4, by simpa using h5, by simpa using h6⟩

end Sys2Proof.Machine

namespace Sys2Proof.Machine

/-! ### The armed part through a step -/

theorem ActionsOnly.frame {s t : State} (h : ActionsOnly s t) :
    t.psq = s.psq ∧ t.wfm = s.wfm ∧ t.run = s.run ∧ t.dlp = s.dlp ∧ t.stk = s.stk ∧ t.drv.test = s.drv.test := by
  obtain ⟨asc, channels, rfl⟩ := h
  exact ⟨rfl, rfl, rfl, rfl, rfl, rfl⟩

section
variable {a : ArmedPart} {crosses : Nat → Bool} {s w : State}

theorem WatchBegun.outcome (h : WatchBegun a crosses s w) : s.psq.OutcomeOnly (a.judged crosses w).psq := by
  have hwatch : s.psq.OutcomeOnly w.psq := by
    by_cases hs : a.Starts crosses
    · rw [h.begins hs]
      exact beginWatch_outcome _ s
    · rw [h.rests hs]
      exact .refl _
  refine hwatch.trans ?_
  rw [← (windowed_frame a crosses w).1]
  unfold ArmedPart.judged
  split
  · exact judgeWindow_outcome _
  · exact .refl _

theorem WatchBegun.frame (h : WatchBegun a crosses s w) :
    (a.judged crosses w).stk = s.stk ∧ (a.judged crosses w).drv = s.drv := by
  have hwatch : w.stk = s.stk ∧ w.drv = s.drv := by
    by_cases hs : a.Starts crosses
    · rw [h.begins hs]
      simp
    · rw [h.rests hs]
      exact ⟨rfl, rfl⟩
  obtain ⟨hstk, hdrv⟩ := hwatch
  unfold ArmedPart.judged ArmedPart.windowed
  rw [← hstk, ← hdrv]
  split <;> split <;> simp

end

/-- The step fires the action: it has not fired, and its effective angle is crossed (06 R114). -/
def ArmedAction.Fires (x : ArmedAction) (crosses : Nat → Bool) : Prop := x.fired = false ∧ crosses x.effective = true

/-- What the handings of an armed part leave of `s`, the window closing being the last of them. -/
structure WorkedThrough (m : MachineRecord) (sn : Snapshot) (a : ArmedPart) (crosses : Nat → Bool) (s v : State) :
    Prop where
  handed : HandedOn s v
  snapshot : v.HasSnapshot sn (some (a.worked crosses))
  monitor : ∃ u w, AtFiring m s u ∧ WatchBegun a crosses u w ∧ ActionsOnly (a.judged crosses w) v
  unreached : ∀ dc : DriverIdx, (∀ x ∈ a.actions, x.channel = dc → ¬x.Fires crosses) →
    v.drv.channels[dc] = s.drv.channels[dc]
  reached : ∀ (before after : List ArmedAction) (x : ArmedAction), a.actions = before ++ x :: after →
    x.Fires crosses → (∀ y ∈ before ++ after, y.channel = x.channel → ¬y.Fires crosses) →
      v.drv.channels[x.channel] = (s.drv.channels[x.channel]).takes x (a.settingsOf s.tbm x.channel)

theorem ArmedPart.Fires.mem {a : ArmedPart} {crosses : Nat → Bool} {l : List Nat} (hl : a.Fires crosses l) (j : Nat) :
    j ∈ l ↔ ∃ x, a.actions[j]? = some x ∧ x.Fires crosses :=
  (hl.mem_iff j).trans (due_iff a crosses j)

theorem mem_of_getElem?_ne {α : Type} {before after : List α} {x y : α} {j : Nat}
    (hy : (before ++ x :: after)[j]? = some y) (hj : j ≠ before.length) : y ∈ before ++ after := by
  rcases Nat.lt_or_gt_of_ne hj with hlt | hgt
  · rw [List.getElem?_append_left hlt] at hy
    exact List.mem_append_left _ (List.mem_of_getElem? hy)
  · obtain ⟨k, rfl⟩ := Nat.exists_eq_add_of_lt hgt
    rw [List.getElem?_append_right (by omega), show before.length + k + 1 - before.length = k + 1 by omega,
      List.getElem?_cons_succ] at hy
    exact List.mem_append_right _ (List.mem_of_getElem? hy)

/-- 06 R114 to R116: the handings of a step off the boundary and the latch angle. -/
theorem AtFiring.workedThrough {m : MachineRecord} {s u : State} {sn : Snapshot} {a : ArmedPart}
    (hu : AtFiring m s u) (hw : s.run.state = .weaving) (hsn : s.asc.snapshot = some sn) (ha : sn.armed = some a)
    (hlen : a.actions.length ≤ 8) (c : StepInfo) :
    WorkedThrough m sn a c.crosses s (handle c (beforeClosing.foldl (handle c) u) .windowClose) ∧
      ∃ w, WatchBegun a c.crosses u w ∧ ActionsOnly (a.windowed c.crosses w) (beforeClosing.foldl (handle c) u) := by
  have hsnapshot : u.HasSnapshot sn (some a) := by
    rw [State.HasSnapshot, hu.asc, hsn, ← ha]
  obtain ⟨l, hfired, hl⟩ := fireList_fires hsnapshot hlen c
  have hfiring : Firing a sn a.firedAt u := ⟨by rwa [marked_firedAt], by rw [hu.run, hw]⟩
  obtain ⟨w, hwatch, hmonitor⟩ : ∃ w, WatchBegun a c.crosses u w ∧ ActionsOnly w (l.foldl fireOne u) := by
    obtain ⟨hbegins, hrests⟩ := fireOnes_monitor hfiring.snapshot l
    rw [begins_iff_starts hl] at hbegins hrests
    by_cases hs : a.Starts c.crosses
    · exact ⟨_, ⟨fun _ => rfl, fun hno => absurd hs hno⟩, hbegins hs⟩
    · exact ⟨_, ⟨fun h => absurd h hs, fun _ => rfl⟩, hrests hs⟩
  obtain ⟨hwindowed, hjudged, hworked⟩ := handings_monitor hsnapshot hl hfired hmonitor
  have hchannels : (handle c (beforeClosing.foldl (handle c) u) .windowClose).drv = (l.foldl fireOne u).drv := by
    rw [beforeClosing, List.foldl_append, hfired]
    simp [handle]
  refine ⟨⟨?_, hworked, ⟨u, w, hu, hwatch, hjudged⟩, fun dc hdc => ?_, fun before after x hx hfires hother => ?_⟩,
    w, hwatch, hwindowed⟩
  · exact (hu.handed.trans (.foldl (handle_handedOn c) _ u)).trans (handle_handedOn c _ _)
  · rw [hchannels, hfiring.unreached l fun j hj x hx hdcx => ?_, hu.drv]
    obtain ⟨y, hy, hfires⟩ := (hl.mem j).mp hj
    obtain rfl : x = y := Option.some.inj (hx.symm.trans hy)
    exact hdc x (List.mem_of_getElem? hx) hdcx hfires
  · have hxi : a.actions[before.length]? = some x := by simp [hx]
    rw [hchannels, hfiring.reached hl.nodup ((hl.mem _).mpr ⟨x, hxi, hfires⟩) hxi fun j hj hji y hy hsame => ?_,
      hu.drv, hu.handed.tbm]
    obtain ⟨z, hz, hfiresY⟩ := (hl.mem j).mp hj
    obtain rfl : y = z := Option.some.inj (hy.symm.trans hz)
    exact hother y (mem_of_getElem?_ne (hx ▸ hy) hji) hsame hfiresY

end Sys2Proof.Machine

namespace Sys2Proof.Machine

/-! ### The step as the statement has it -/

theorem AtFiring.broken_iff {m : MachineRecord} {s u : State} (hu : AtFiring m s u) (a : ArmedPart)
    (crosses : Nat → Bool) : a.Broken crosses u ↔ a.Broken crosses s := by
  unfold ArmedPart.Broken
  rw [hu.wfm]

theorem AtFiring.misses {m : MachineRecord} {s u : State} (hu : AtFiring m s u) {a : ArmedPart}
    {crosses : Nat → Bool} {r : PickRecord} (h : a.Misses crosses s r) : a.Misses crosses u r where
  closes := h.closes
  unbroken := mt (hu.broken_iff a crosses).mp h.unbroken
  current := by rw [hu.psq]; exact h.current
  armed := h.armed
  unarrived := by rw [hu.wfm]; exact h.unarrived

/-- Where RUN takes no cause, the command leaves what the handings and then the tracker leave. -/
theorem exec_armedStep_waits {m : MachineRecord} {line : EncLine} {s : State} {sn : Snapshot} {a : ArmedPart}
    {crosses : Nat → Bool} (h : StepReady m line .forward s) (hin : s.stk.position + 1 < m.counts)
    (hw : s.run.state = .weaving) (hsn : s.asc.snapshot = some sn) (ha : sn.armed = some a)
    (hlen : a.actions.length ≤ 8) (hc : (stepInfo m.counts s.stk.position .forward).crosses = crosses)
    (hcross : crosses sn.latchAngle = false) (elapsed : Nat) :
    ∃ v t, exec (.encoderStep line elapsed [] (.only [])) s = .next (kickTransmitter t) ∧
      WorkedThrough m sn a crosses s v ∧ HandedOn v t ∧ t.psq = v.psq ∧ t.asc = v.asc ∧ t.wfm = v.wfm ∧
      t.drv = v.drv := by
  subst hc
  obtain ⟨u, tail, hu, htail, hexec⟩ := exec_armedStep h hin hw hsn hcross elapsed (taken := .only []) (.inl rfl)
  generalize stepInfo m.counts s.stk.position .forward = c at *
  obtain ⟨hworked, -⟩ := hu.workedThrough hw hsn ha hlen c
  have hrest : handleRest c (.only []) (beforeClosing ++ .windowClose :: tail) u =
      tail.foldl (handle c) (handle c (beforeClosing.foldl (handle c) u) .windowClose) := by
    simp only [handleRest, List.foldl_append, List.foldl_cons]
  rw [takeCauses_none, hrest] at hexec
  exact ⟨_, _, hexec, hworked, .foldl (handle_handedOn c) tail _, handles_ofTracker c htail _⟩

/-- A pick that misses its window stops the loom where RUN takes every cause as it is handed (09 R167). -/
theorem exec_armedStep_stops {m : MachineRecord} {line : EncLine} {s : State} {sn : Snapshot} {a : ArmedPart}
    {crosses : Nat → Bool} {r : PickRecord} (h : StepReady m line .forward s) (hin : s.stk.position + 1 < m.counts)
    (hw : s.run.state = .weaving) (hsn : s.asc.snapshot = some sn) (ha : sn.armed = some a)
    (hlen : a.actions.length ≤ 8) (hc : (stepInfo m.counts s.stk.position .forward).crosses = crosses)
    (hcross : crosses sn.latchAngle = false) (elapsed : Nat) (hmiss : a.Misses crosses s r)
    (hquiet : s.run.handed = []) :
    ∃ t, exec (.encoderStep line elapsed [] .every) s = .next t ∧
      StoppedFor (.weftMissing r.ordinal) (some { r with state := .faulted, cause := some .missing }) t := by
  subst hc
  obtain ⟨u, tail, hu, htail, hexec⟩ := exec_armedStep h hin hw hsn hcross elapsed (taken := .every) (.inr hquiet)
  generalize stepInfo m.counts s.stk.position .forward = c at *
  obtain ⟨hworked, w, hwatch, hwindowed⟩ := hu.workedThrough hw hsn ha hlen c
  obtain ⟨u', w', hu', hwatch', hjudged⟩ := hworked.monitor
  obtain ⟨hpsq, _, hrun, _, hstk, _⟩ := hjudged.frame
  obtain ⟨hcurrent, _, _, hhanded, _⟩ := hwatch'.misses (hu'.misses hmiss)
  have hbefore : (beforeClosing.foldl (handle c) u).run.handed = [] := by
    obtain ⟨_, _, hrunW, _⟩ := hwatch.misses (hu.misses hmiss)
    obtain ⟨_, _, hrunV, _⟩ := hwindowed.frame
    rw [hrunV, hrunW, hu.run, hquiet]
  rw [hu'.run] at hhanded
  have hstopped : StoppedFor (.weftMissing r.ordinal) (some { r with state := .faulted, cause := some .missing })
      (drain (handle c (beforeClosing.foldl (handle c) u) .windowClose)) :=
    drain_stoppedFor (by rw [hrun, hhanded]; exact hw) (by rw [hstk, hwatch'.frame.1, hu'.motion])
      (by rw [hrun, hhanded]; simp [hquiet]) (by rw [hpsq, hcurrent]) (by simp)
  have hrest : handleRest c .every (beforeClosing ++ .windowClose :: tail) u =
      tail.foldl (handleAndDrain c) (drain (handle c (beforeClosing.foldl (handle c) u) .windowClose)) := by
    rw [handleRest_quiet c _ _ hbefore, handleRest, drain_of_none _ hbefore]
    rfl
  rw [hrest] at hexec
  exact ⟨_, hexec, hstopped.rest c htail⟩

/-- A channel with its settings copied at arming switches on with the copy (08 R140). -/
theorem settingsOf_copied {a : ArmedPart} {dc : DriverIdx} {d : DriverSettings} (t : Tbm)
    (h : (a.copies.find? fun y => y.channel = dc).bind SettingsCopy.settings = some d) :
    a.settingsOf t dc = some { settings := d, fromSnapshot := true } := by
  obtain ⟨x, hx, hd⟩ := Option.bind_eq_some_iff.mp h
  unfold ArmedPart.settingsOf
  rw [hx]
  simp [hd]

/-- A copy with no settings acts as mode OFF (06 R110). -/
theorem settingsOf_empty {a : ArmedPart} {dc : DriverIdx} (t : Tbm) (hcopy : ∃ y ∈ a.copies, y.channel = dc)
    (h : (a.copies.find? fun y => y.channel = dc).bind SettingsCopy.settings = none) : a.settingsOf t dc = none := by
  obtain ⟨y, hy, hdc⟩ := hcopy
  obtain ⟨x, hx⟩ := Option.isSome_iff_exists.mp
    (List.find?_isSome (p := fun y : SettingsCopy => y.channel = dc) |>.mpr ⟨y, hy, decide_eq_true hdc⟩)
  rw [hx] at h
  unfold ArmedPart.settingsOf
  rw [hx]
  simp only [Option.bind_some] at h
  simp [h]

theorem takes_off {x : ArmedAction} (hx : x.switching = .off) (st : Option InUse) (c : DriverChannel) :
    c.takes x st = c.switchedOff := by
  simp [DriverChannel.takes, hx]

theorem takes_on {x : ArmedAction} (hx : x.switching = .on) (st : Option InUse) (c : DriverChannel) :
    c.takes x st = c.takesOn st := by
  simp [DriverChannel.takes, hx]

/-- 08 R141: an IDLE channel goes on by the mode of its settings. -/
theorem takesOn_idle {c : DriverChannel} (hc : c.phase = .idle) (d : DriverSettings) :
    (d.mode = .peakHold →
        c.takesOn (some { settings := d, fromSnapshot := true }) =
          c.switchOn { settings := d, fromSnapshot := true } .peak) ∧
      (d.mode = .direct →
        c.takesOn (some { settings := d, fromSnapshot := true }) =
          c.switchOn { settings := d, fromSnapshot := true } .directOn) ∧
      (d.mode = .off → c.takesOn (some { settings := d, fromSnapshot := true }) = c) := by
  refine ⟨fun hm => ?_, fun hm => ?_, fun hm => ?_⟩ <;> simp [DriverChannel.takesOn, hc, hm]

theorem takesOn_unset (c : DriverChannel) : c.takesOn none = c := by simp [DriverChannel.takesOn]

/-- Settles O37: the fired actions are told by their list, the monitor by what the first SELECTOR ON, the opening and the
closing make of it; what the step hands on besides concerns neither. -/
theorem armedPartIsWorkedThrough : Obligations.ArmedPartIsWorkedThrough := by
  intro s m line elapsed sn part crossed fires selects starts broken opens closes angle missed h hin hw hsn ha hlen
    hcross
  have hc : (stepInfo m.counts s.stk.position .forward).crosses = crossed := (stepInfo_inside hin).2
  have hopens : part.opens crossed = true ↔ opens := opens_iff part crossed
  have hcloses : part.closes crossed = true ↔ closes := closes_iff part crossed
  have hmisses (r : PickRecord) (hm : missed r) : part.Misses crossed s r := by
    obtain ⟨hcl, hb, hcur, harmed, hun⟩ := hm
    exact ⟨hcloses.mpr hcl, hb, hcur, harmed, hun.imp_left hopens.mpr⟩
  refine ⟨?waits, fun r hmiss hquiet => ?stops⟩
  case stops =>
    obtain ⟨t, hexec, ht⟩ := exec_armedStep_stops h hin hw hsn ha hlen hc hcross elapsed (hmisses r hmiss) hquiet
    exact ⟨t, hexec, ht.current, ht.window, ht.state, ht.permit, ht.first⟩
  case waits =>
    obtain ⟨v, t, hexec, hv, hvt, hpsqT, hascT, hwfmT, hdrvT⟩ :=
      exec_armedStep_waits h hin hw hsn ha hlen hc hcross elapsed
    obtain ⟨u, w, hu, hwatch, hjudged⟩ := hv.monitor
    obtain ⟨hpsq, hwfm, hrun, hdlp, hstk, htest⟩ := hjudged.frame
    have hst := hv.handed.trans hvt
    have hposted {e : Event} (he : Posted e (part.judged crossed w)) (hb : s.dlp.transmitter ≠ none) :
        Posted e (kickTransmitter t) :=
      hv.handed.posted_kick hvt.toLoomEvent hb (by rwa [Posted, hdlp])
    have hhanded {x : Cause} (hx : x ∈ (part.judged crossed w).run.handed) : x ∈ (kickTransmitter t).run.handed := by
      have hrunK : (kickTransmitter t).run = t.run := by simp
      rw [hrunK]
      exact hvt.grows x (hrun ▸ hx)
    have hpsqK : (kickTransmitter t).psq = (part.judged crossed w).psq := by simp [hpsqT, hpsq]
    have hwfmK : (kickTransmitter t).wfm = (part.judged crossed w).wfm := by simp [hwfmT, hwfm]
    have hdrvK : (kickTransmitter t).drv = v.drv := by simp [hdrvT]
    have hcurU {r : PickRecord} (hr : s.psq.current = some r) : u.psq.current = some r := hu.psq ▸ hr
    have hbroken : part.Broken crossed u ↔ broken := hu.broken_iff part crossed
    have hnoClose : ¬closes → part.closes crossed = false := fun h => by simpa using mt hcloses.mp h
    have hnoOpen : ¬opens → part.opens crossed = false := fun h => by simpa using mt hopens.mp h
    refine ⟨_, hexec, undisturbed_kick hst.undisturbed, ?run, ?outcome, ?snapshot, ?test, ?unreached, ?reached,
      ?unclosed, ?breaks, ?closed, fun r hr => ⟨?keeps, ?inserts, ?misses⟩⟩
    case run => simpa using hst.run
    case outcome =>
      obtain ⟨f, _, hf⟩ := hwatch.outcome
      rw [hpsqK, hf, hu.psq]
    case snapshot =>
      have hascK : (kickTransmitter t).asc = v.asc := by simp [hascT]
      rw [hascK]
      exact hv.snapshot
    case test => rw [hdrvK, htest, hwatch.frame.2, hu.drv]
    case unreached =>
      rw [hdrvK]
      exact hv.unreached
    case reached =>
      intro before after x hx hfires hother c d on
      have hreached := hv.reached before after x hx hfires hother
      rw [hdrvK, hreached]
      refine ⟨fun hoff => takes_off hoff _ _, fun d' hon hidle hd => ?_, fun hon hbusy => ?_, fun hon hcopy hd => ?_⟩
      · rw [takes_on hon, settingsOf_copied s.tbm hd]
        exact takesOn_idle hidle d'
      · rw [takes_on hon]
        exact if_neg hbusy
      · rw [takes_on hon, settingsOf_empty s.tbm hcopy hd]
        exact takesOn_unset _
    case unclosed =>
      intro hcl
      obtain ⟨hopened, hunopened, hrests, hbegun⟩ := hwatch.unclosed (hnoClose hcl)
      rw [hu.wfm] at hunopened hrests
      rw [hwfmK]
      refine ⟨fun r ho hr => hopened r (hopens.mpr ho) (hcurU hr), fun ho => hunopened (hnoOpen ho), hrests,
        fun f hs hf => ?_⟩
      have hwatched := hbegun f hs hf
      rw [hu.wfm] at hwatched
      exact ⟨fun hclear => hwatched.trans (if_neg hclear), fun hhigh => hwatched.trans (if_pos hhigh)⟩
    case breaks =>
      intro f r hs hf hhigh hr harmed
      obtain ⟨hcurrent, hfaults, hcause, hevent⟩ :=
        hwatch.breaks hs hf (by rwa [hu.wfm]) (hcurU hr) harmed
      rw [hu.wfm] at hfaults
      rw [hu.angle] at hevent
      rw [hpsqK, hwfmK]
      exact ⟨hcurrent, hfaults, hhanded hcause, hposted hevent⟩
    case closed =>
      intro hcl
      rw [hwfmK]
      exact judged_closed_wfm (hcloses.mpr hcl)
    case keeps =>
      intro hno
      obtain ⟨hcurrent, hfaults⟩ := hwatch.keeps_current (hcurU hr)
        (hno.imp_left fun ⟨hcl, hb⟩ => ⟨hnoClose hcl, mt hbroken.mp hb⟩)
      rw [hu.wfm] at hfaults
      rw [hpsqK, hwfmK]
      exact ⟨hcurrent, hfaults⟩
    case inserts =>
      intro x hcl hb ho harmed hwindow hcapture
      obtain ⟨hcurrent, hfaults⟩ := hwatch.inserts (hcurU hr) (hcloses.mpr hcl) (mt hbroken.mp hb) (hnoOpen ho) harmed
        (by rwa [hu.wfm]) (by rwa [hu.wfm])
      rw [hu.wfm] at hfaults
      rw [hu.revTime] at hcurrent
      rw [hpsqK, hwfmK]
      exact ⟨hcurrent, hfaults⟩
    case misses =>
      intro hmiss
      obtain ⟨hcurrent, hfaults, _, hcauses, hevent⟩ := hwatch.misses (hu.misses (hmisses r hmiss))
      rw [hu.wfm] at hfaults
      rw [hu.angle] at hevent
      rw [hpsqK, hwfmK]
      exact ⟨hcurrent, hfaults, hhanded (by rw [hcauses]; simp), hposted hevent⟩

end Sys2Proof.Machine

/-! ## A rise of ARV, a break of a feeder line, and the faults of the driver channels -/

namespace Sys2Proof.Machine

/-! ### A rise of ARV (07 R128) -/

@[simp] theorem takeRise_frame (s : State) :
    (takeRise s).pending = s.pending ∧ (takeRise s).resetLine = s.resetLine ∧ (takeRise s).lineOut = s.lineOut ∧
    (takeRise s).dlp = s.dlp ∧ (takeRise s).tbm = s.tbm ∧ (takeRise s).shb = s.shb ∧ (takeRise s).hci = s.hci ∧
    (takeRise s).stk = s.stk ∧ (takeRise s).asc = s.asc ∧ (takeRise s).drv = s.drv ∧ (takeRise s).run = s.run := by
  unfold takeRise
  split
  · simp
  · simp
  · split <;> simp

/-- 07 R128: outside a window, or with no capture and no angle to capture, the rise is spurious. -/
theorem takeRise_spurious {s : State} (h : s.wfm.window = none ∨ (s.wfm.capture = none ∧ s.angle = none)) :
    takeRise s = countSpurious s := by
  unfold takeRise
  rcases h with hw | ⟨hc, ha⟩
  · simp only [hw]
  · cases hw : s.wfm.window <;> simp only [hc, ha]

/-- 07 R128: the first capture of a window stands. -/
theorem takeRise_ignored {s : State} {o : Ordinal} {a : Nat} (hw : s.wfm.window = some o)
    (hc : s.wfm.capture = some a) : takeRise s = s := by simp only [takeRise, hw, hc]

theorem takeRise_captured {s : State} {o : Ordinal} {a : Nat} (hw : s.wfm.window = some o)
    (hc : s.wfm.capture = none) (ha : s.angle = some a) : takeRise s = captureArrival a s := by
  simp only [takeRise, hw, hc, ha]

/-- The state in which a rise of ARV meets the window: ARV accepted high. -/
def risen (s : State) : State := setArv .high { s with lineOut := [] }

/-- With ARV accepted low the rise is taken by the window. -/
theorem exec_arvRise {s : State} {m : MachineRecord} (hready : s.Ready) (hm : s.tbm.machine = some m)
    (hlow : s.wfm.arv = some .low) : exec .arvRise s = .next (kickTransmitter (takeRise (risen s))) := by
  have hrise : arvRises { s with lineOut := [] } = takeRise (risen s) := by
    simp only [arvRises, hm, hlow, Option.isSome_some, and_self, if_true]
    rfl
  exact (command_high arvRises s hready).trans (by rw [hrise])

/-- Settles O32: the rise is taken by the window as it stands, each of its outcomes an update of its own. -/
theorem arvRiseIsCapturedOrSpurious : Obligations.ArvRiseIsCapturedOrSpurious := by
  intro s m hready hm hlow
  refine ⟨_, exec_arvRise hready hm hlow, by simp [ChangedOnly, risen], linkLeft_of (by simp [risen]),
    fun h => ?spurious, fun o a hw hc => ?ignored, fun o a hw hc ha => ?captured⟩
  case spurious =>
    rw [takeRise_spurious (s := risen s) h]
    simp [risen]
  case ignored =>
    rw [takeRise_ignored (s := risen s) hw hc]
    simp [risen]
  case captured =>
    rw [takeRise_captured (s := risen s) hw hc ha]
    simp only [kickTransmitter_frame]
    exact ⟨rfl, rfl⟩

end Sys2Proof.Machine

namespace Sys2Proof.Machine

/-! ### A weft fault, its cause waiting or taken (07 R134 to R136, 09 R167, R169) -/

/-- The state a weft fault of the record `r` in CURRENT leaves, its stop cause not handed yet. -/
def weftFaulted (d : WeftDetail) (r : PickRecord) (s : State) : State :=
  post (.weftFault r.ordinal r.row r.weft s.countAngle r.arrival d)
    { s with
      psq := { s.psq with current := some { r with state := .faulted, cause := some d.cause } }
      wfm := { s.wfm with weftFaults := satInc 4294967295 s.wfm.weftFaults } }

theorem weftFault_hands (d : WeftDetail) (c : Ordinal → StopCause) {s : State} {r : PickRecord}
    (hc : s.psq.current = some r) : weftFault d c s = hand (.stop (c r.ordinal)) (weftFaulted d r s) := by
  simp only [weftFault, modCurrent, hc, Option.map_some]
  rfl

@[simp] theorem weftFaulted_frame (d : WeftDetail) (r : PickRecord) (s : State) :
    (weftFaulted d r s).pending = s.pending ∧ (weftFaulted d r s).resetLine = s.resetLine ∧
    (weftFaulted d r s).lineOut = s.lineOut ∧ (weftFaulted d r s).tbm = s.tbm ∧ (weftFaulted d r s).shb = s.shb ∧
    (weftFaulted d r s).hci = s.hci ∧ (weftFaulted d r s).stk = s.stk ∧ (weftFaulted d r s).asc = s.asc ∧
    (weftFaulted d r s).drv = s.drv ∧ (weftFaulted d r s).run = s.run ∧
    (weftFaulted d r s).psq =
      { s.psq with current := some { r with state := .faulted, cause := some d.cause } } ∧
    (weftFaulted d r s).wfm = { s.wfm with weftFaults := satInc 4294967295 s.wfm.weftFaults } ∧
    (weftFaulted d r s).dlp = s.dlp.post (.weftFault r.ordinal r.row r.weft s.countAngle r.arrival d) := by
  simp [weftFaulted]

/-- 09 R167, R169: the stop cause of a weft fault found in WEAVING, taken at once: the record stays FAULTED. -/
theorem takeStop_weftFaulted {d : WeftDetail} {r : PickRecord} {s : State} (hw : s.run.state = .weaving)
    (c : StopCause) :
    let t := takeStop c (weftFaulted d r s)
    let record := .weftFault r.ordinal r.row r.weft s.countAngle r.arrival d
    t.psq = { s.psq with current := some { r with state := .faulted, cause := some d.cause } } ∧
      t.wfm =
        { s.wfm with
          weftFaults := satInc 4294967295 s.wfm.weftFaults, window := none, capture := none, watch := none } ∧
      (∀ dc : DriverIdx, t.drv.channels[dc] = (s.drv.channels[dc]).switchedOff) ∧ t.drv.test = s.drv.test ∧
      (s.stk.motion = .moving →
        t.run = { s.run with state := .stopping, permit := false, firstStop := some c } ∧
        t.dlp = s.dlp.posts [record, .runState .stopping .weaving (some c) s.run.haltCause none]) ∧
      (s.stk.motion = .standstill →
        t.run = { s.run with state := .stopped, permit := false, firstStop := some c } ∧
        t.dlp =
          s.dlp.posts
            [ record, .runState .stopping .weaving (some c) s.run.haltCause none,
              .runState .stopped .stopping (some c) s.run.haltCause none ]) := by
  intro t record
  have hw' : (weftFaulted d r s).run.state = .weaving := by simpa using hw
  obtain ⟨hpsq, -, hwfm, hchannels, htest⟩ := takeStop_weaving_leaves hw' c
  refine ⟨by simp [t, hpsq, PickRecord.interrupt], by simp [t, hwfm], fun dc => by simp [t, hchannels],
    by simp [t, htest], fun hm => ?_, fun hm => ?_⟩
  · obtain ⟨hrun, hdlp⟩ := takeStop_moving_leaves hw' (by simpa using hm) c
    exact ⟨by simp [t, hrun], by simp [t, hdlp, record, Dlp.posts]⟩
  · obtain ⟨hrun, hdlp⟩ := takeStop_still_leaves hw' (by simpa using hm) c
    exact ⟨by simp [t, hrun], by simp [t, hdlp, record, Dlp.posts]⟩

end Sys2Proof.Machine

namespace Sys2Proof.Machine

/-! ### A break of a feeder line (07 R126, R134, R135) -/

/-- The state in which a break of a feeder line meets the watch: the line accepted at BREAK. -/
def lineBroken (f : FeederIdx) (s : State) : State := setFeeder f .high { s with lineOut := [] }

/-- 07 R126: a line that was CLEAR breaks. -/
theorem exec_feederBreak {s : State} {m : MachineRecord} {f : FeederIdx} (hready : s.Ready)
    (hm : s.tbm.machine = some m) (hlow : s.wfm.feeders[f] = some .low) (taken : CausesTaken) :
    exec (.feederBreak f taken) s =
      .next (kickTransmitter (takeCauses taken (feederBroken f (lineBroken f s)))) := by
  have hbreak : feederBreaks f { s with lineOut := [] } = feederBroken f (lineBroken f s) := by
    simp only [feederBreaks, hm, hlow, Option.isSome_some, and_self, if_true]
    rfl
  exact (causing_high taken (feederBreaks f) s hready).trans (by rw [hbreak])

theorem feederBroken_unwatched {s : State} {f : FeederIdx} (h : s.wfm.watch ≠ some f) :
    feederBroken f s = feederAlarm f s := if_neg h

/-- The state in which the watched line stands at BREAK and the watch has ended. -/
def watchEnded (f : FeederIdx) (s : State) : State := (lineBroken f s).withWatch none

@[simp] theorem watchEnded_frame (f : FeederIdx) (s : State) :
    (watchEnded f s).pending = s.pending ∧ (watchEnded f s).resetLine = s.resetLine ∧
    (watchEnded f s).lineOut = [] ∧ (watchEnded f s).dlp = s.dlp ∧ (watchEnded f s).tbm = s.tbm ∧
    (watchEnded f s).psq = s.psq ∧ (watchEnded f s).shb = s.shb ∧ (watchEnded f s).hci = s.hci ∧
    (watchEnded f s).stk = s.stk ∧ (watchEnded f s).asc = s.asc ∧ (watchEnded f s).drv = s.drv ∧
    (watchEnded f s).run = s.run ∧ (watchEnded f s).countAngle = s.countAngle ∧
    (watchEnded f s).wfm =
      { s.wfm with feeders := s.wfm.feeders.set f.val (some .high), watch := none } :=
  ⟨rfl, rfl, rfl, rfl, rfl, rfl, rfl, rfl, rfl, rfl, rfl, rfl, rfl, rfl⟩

/-- 07 R135: with no ARMED pick the watch ends and nothing is posted. -/
theorem feederBroken_unarmed {s : State} {f : FeederIdx} (h : s.wfm.watch = some f) (ha : s.currentArmed = false) :
    feederBroken f (lineBroken f s) = watchEnded f s := by
  have harmed : ¬(watchEnded f s).currentArmed = true := Bool.eq_false_iff.mp ha
  have hwatched : feederBroken f (lineBroken f s) = watchedBreak f (lineBroken f s) := if_pos h
  exact hwatched.trans (if_neg harmed)

/-- 07 R134: an ARMED pick is faulted and its cause handed. -/
theorem feederBroken_armed {s : State} {f : FeederIdx} {r : PickRecord} (h : s.wfm.watch = some f)
    (hc : s.psq.current = some r) (ha : r.state = .armed) :
    feederBroken f (lineBroken f s) =
      hand (.stop (.feederBreak r.ordinal)) (weftFaulted (.feeder f) r (watchEnded f s)) := by
  have hcur : (watchEnded f s).psq.current = some r := hc
  have harmed : (watchEnded f s).currentArmed = true := (currentArmed_iff hcur).mpr ha
  have hwatched : feederBroken f (lineBroken f s) = watchedBreak f (lineBroken f s) := if_pos h
  exact hwatched.trans ((if_pos harmed).trans (weftFault_hands _ _ hcur))

/-- Settles O33: the line's break alarms, ends the watch or faults the pick, and RUN's taking of the cause handed is
that of a stop cause. -/
theorem feederBreakAlarmsOrFaults : Obligations.FeederBreakAlarmsOrFaults := by
  intro s m f hready hm hlow broken
  have hexec := exec_feederBreak hready hm hlow
  refine ⟨fun taken hnone => ⟨_, hexec taken, by simp [lineBroken], by simp [takeCauses_stk, lineBroken],
    by simp [lineBroken], fun hw => ?alarm, fun hw ha => ?unarmed⟩, ?faults⟩
  case alarm =>
    rw [feederBroken_unwatched (s := lineBroken f s) hw, takeCauses_noneTaken hnone (by simp [lineBroken])]
    exact ⟨by simp [ChangedOnly, lineBroken], by simp [lineBroken, broken], linkLeft_of (post_dlp _ _)⟩
  case unarmed =>
    rw [feederBroken_unarmed hw ha, takeCauses_noneTaken hnone (by simp)]
    exact ⟨by simp [ChangedOnly], by simp [broken], linkLeft_of (by simp)⟩
  case faults =>
    intro r hw hc ha fault faulted counted cause
    let u : State := weftFaulted (.feeder f) r (watchEnded f s)
    have hu : feederBroken f (lineBroken f s) = hand (.stop cause) u := feederBroken_armed hw hc ha
    rw [hu] at hexec
    refine ⟨⟨_, hexec (.only []), ?waits⟩, fun hweaving hquiet => ?taken⟩
    case waits =>
      rw [takeCauses_none]
      exact ⟨by simp [ChangedOnly, u], by simp [u, faulted, WeftDetail.cause], by simp [u, counted, broken],
        by simp [u], linkLeft_of (by simp [u, fault])⟩
    case taken =>
      have htake : takeCauses .every (hand (.stop cause) u) = takeStop cause u :=
        takeCauses_every_hand (by simpa [u] using hquiet) (.stop cause)
      have hstk : (takeStop cause u).stk = u.stk := takeCause_stk u (.stop cause)
      obtain ⟨hpsq, hwfm, -, -, hmoving, hstill⟩ :=
        takeStop_weftFaulted (d := .feeder f) (r := r) (s := watchEnded f s) (by simpa using hweaving) cause
      refine ⟨_, (hexec .every).trans (by rw [htake]), by simp [u], by simp [hstk, u], by simp [u],
        by simp [u, hpsq, faulted, WeftDetail.cause], by simp [u, hwfm, counted, broken], fun hmotion => ?_,
        fun hmotion => ?_⟩
      · obtain ⟨hrun, hdlp⟩ := hmoving (by simpa using hmotion)
        exact ⟨by simp [u, hrun], linkLeft_of (by simp [u, hdlp, fault])⟩
      · obtain ⟨hrun, hdlp⟩ := hstill (by simpa using hmotion)
        exact ⟨by simp [u, hrun], linkLeft_of (by simp [u, hdlp, fault])⟩

end Sys2Proof.Machine

namespace Sys2Proof.Machine

/-! ### Faults of a driver channel: the channels affected and their blocks (08 R148, R149) -/

theorem mem_affected {s : State} {dc : DriverIdx} {d : DriverSettings} {i : DriverIdx} :
    i ∈ s.affected dc d ↔
      i = dc ∨ (d.scope = .group ∧ ∃ x, s.tbm.drivers[i] = some x ∧ x.group = d.group) := by
  simp only [State.affected, driverList, List.mem_filter, List.mem_finRange, true_and, Bool.or_eq_true,
    Bool.and_eq_true, decide_eq_true_eq]
  cases h : s.tbm.drivers[i] <;> simp

@[simp] theorem recordFault_phase (c : DriverChannel) (kind : DriverFaultKind) :
    (c.recordFault kind).phase = c.phase := by cases kind <;> rfl

@[simp] theorem recordFault_faultCount (c : DriverChannel) (kind : DriverFaultKind) :
    (c.recordFault kind).faultCount = satInc 255 c.faultCount := by cases kind <;> rfl

@[simp] theorem recordFault_hasFlag (c : DriverChannel) (kind : DriverFaultKind) :
    (c.recordFault kind).hasFlag kind = true := by cases kind <;> rfl

@[simp] theorem timerOut_phase (c : DriverChannel) (kind : DriverFaultKind) :
    (c.timerOut kind).phase = c.phase := by cases kind <;> rfl

@[simp] theorem timerOut_inUse (c : DriverChannel) (kind : DriverFaultKind) :
    (c.timerOut kind).inUse = c.inUse := by cases kind <;> rfl

@[simp] theorem timerOut_faultCount (c : DriverChannel) (kind : DriverFaultKind) :
    (c.timerOut kind).faultCount = c.faultCount := by cases kind <;> rfl

@[simp] theorem timerOut_hasFlag (c : DriverChannel) (kind : DriverFaultKind) :
    (c.timerOut kind).hasFlag kind = c.hasFlag kind := by cases kind <;> rfl

@[simp] theorem switchedOff_faultCount (c : DriverChannel) : c.switchedOff.faultCount = c.faultCount := by
  unfold DriverChannel.switchedOff
  split <;> rfl

@[simp] theorem switchedOff_hasFlag (c : DriverChannel) (kind : DriverFaultKind) :
    c.switchedOff.hasFlag kind = c.hasFlag kind := by
  unfold DriverChannel.switchedOff
  split <;> cases kind <;> rfl

/-- 08 R152: a blocked channel has nothing to switch off. -/
theorem switchedOff_blocked {c : DriverChannel} (h : c.phase = .blocked) : c.switchedOff = c := by
  simp [DriverChannel.switchedOff, h, DrivePhase.driving]

/-- 08 R149: a driving channel is switched off and blocked. -/
theorem blockedBy_driving {c : DriverChannel} (h : c.phase.driving = true) (b : BlockKind) :
    c.blockedBy b = { c.switchedOff with phase := .blocked, block := some b } := by
  obtain ⟨hblocked, htesting⟩ := not_blocked_of_driving h
  unfold DriverChannel.blockedBy
  split
  · exact absurd ‹_› hblocked
  · exact absurd ‹_› htesting
  · rfl

/-- 08 R148, R149: the channels after a fault on `dc`, the others affected taking the block with it. -/
structure FaultBlocks (dc : DriverIdx) (kind : DriverFaultKind) (b : BlockKind) (affected : List DriverIdx)
    (s t : State) : Prop where
  test : t.drv.test = s.drv.test
  phase : (t.drv.channels[dc]).phase = .blocked
  block : (t.drv.channels[dc]).block = some b
  count : (t.drv.channels[dc]).faultCount = satInc 255 (s.drv.channels[dc]).faultCount
  flag : (t.drv.channels[dc]).hasFlag kind = true
  others : ∀ i, i ≠ dc → i ∈ affected → t.drv.channels[i] = (s.drv.channels[i]).blockedBy b
  unaffected : ∀ i, i ∉ affected → t.drv.channels[i] = s.drv.channels[i]

theorem FaultBlocks.congr {dc : DriverIdx} {kind : DriverFaultKind} {b : BlockKind} {affected : List DriverIdx}
    {s t u : State} (h : FaultBlocks dc kind b affected s t) (hu : u.drv = t.drv) :
    FaultBlocks dc kind b affected s u := by
  obtain ⟨htest, hphase, hblock, hcount, hflag, hothers, hunaffected⟩ := h
  constructor <;> rwa [hu]

/-- The state in which a fault of a channel is found: its timer run out. -/
def faultTimed (dc : DriverIdx) (kind : DriverFaultKind) (s : State) : State :=
  setChannel dc ((s.drv.channels[dc]).timerOut kind) { s with lineOut := [] }

@[simp] theorem faultTimed_frame (dc : DriverIdx) (kind : DriverFaultKind) (s : State) :
    (faultTimed dc kind s).pending = s.pending ∧ (faultTimed dc kind s).resetLine = s.resetLine ∧
    (faultTimed dc kind s).lineOut = [] ∧ (faultTimed dc kind s).dlp = s.dlp ∧
    (faultTimed dc kind s).tbm = s.tbm ∧ (faultTimed dc kind s).psq = s.psq ∧
    (faultTimed dc kind s).shb = s.shb ∧ (faultTimed dc kind s).hci = s.hci ∧
    (faultTimed dc kind s).stk = s.stk ∧ (faultTimed dc kind s).asc = s.asc ∧
    (faultTimed dc kind s).wfm = s.wfm ∧ (faultTimed dc kind s).run = s.run ∧
    (faultTimed dc kind s).drv =
      { s.drv with channels := s.drv.channels.set dc.val ((s.drv.channels[dc]).timerOut kind) } :=
  ⟨rfl, rfl, rfl, rfl, rfl, rfl, rfl, rfl, rfl, rfl, rfl, rfl, rfl⟩

theorem faultTimed_channel (dc : DriverIdx) (kind : DriverFaultKind) (s : State) :
    (faultTimed dc kind s).drv.channels[dc] = (s.drv.channels[dc]).timerOut kind := by simp

theorem faultTimed_inUse (dc : DriverIdx) (kind : DriverFaultKind) (s : State) :
    ((faultTimed dc kind s).drv.channels[dc]).inUse = (s.drv.channels[dc]).inUse := by simp

theorem faultTimed_loomEvent (dc : DriverIdx) (kind : DriverFaultKind) (s : State) :
    LoomEvent s (faultTimed dc kind s) := .of_same rfl rfl rfl rfl rfl rfl

/-- 08 R146, R147: with its timer running out a driving channel finds the fault. -/
theorem exec_faultCommand {s : State} {dc : DriverIdx} {kind : DriverFaultKind} (hready : s.Ready)
    (hdriving : (s.drv.channels[dc]).phase.driving = true) (htimer : (s.drv.channels[dc]).timerOf kind ≠ none)
    (taken : CausesTaken) :
    exec (faultCommand dc taken kind) s =
      .next (kickTransmitter (takeCauses taken (driverFault dc kind (faultTimed dc kind s)))) := by
  have hruns := Option.isSome_iff_ne_none.mpr htimer
  cases kind with
  | overcurrent =>
    have hends : deglitchEnds dc { s with lineOut := [] } =
        driverFault dc .overcurrent (faultTimed dc .overcurrent s) := if_pos ⟨hdriving, hruns⟩
    exact (causing_high taken (deglitchEnds dc) s hready).trans (by rw [hends])
  | openLoad =>
    have hends : peakLimitEnds dc { s with lineOut := [] } =
        driverFault dc .openLoad (faultTimed dc .openLoad s) := if_pos ⟨hdriving, hruns⟩
    exact (causing_high taken (peakLimitEnds dc) s hready).trans (by rw [hends])

/-- The DRIVER_FAULT record of a fault found on `dc` in state `s` (08 R148). -/
def faultEvent (dc : DriverIdx) (kind : DriverFaultKind) (d : DriverSettings) (blocked : List DriverIdx) (s : State) :
    Event :=
  .driverFault dc kind (d.modeOf kind) d.scope blocked (s.drv.channels[dc]).phase s.run.state s.currentOrdinal s.angle

/-- The event names the state alone in which the fault was found, whatever timer has run out. -/
theorem faultEvent_timed (dc : DriverIdx) (kind : DriverFaultKind) (d : DriverSettings) (blocked : List DriverIdx)
    (s : State) : faultEvent dc kind d blocked (faultTimed dc kind s) = faultEvent dc kind d blocked s := by
  rw [faultEvent, faultTimed_channel, timerOut_phase]
  rfl

theorem blockingFault_dlp (dc : DriverIdx) (kind : DriverFaultKind) (d : DriverSettings) (b : BlockKind) (s : State) :
    (blockingFault dc kind d b s).dlp = s.dlp.post (faultEvent dc kind d (s.affected dc d) s) := by
  simp [blockingFault, postDriverFault, faultEvent, State.currentOrdinal, State.angle, State.countAngle]

/-- A channel as the record of a fault on `dc` leaves it, before any block. -/
def State.recordedChannel (s : State) (dc : DriverIdx) (kind : DriverFaultKind) (i : DriverIdx) : DriverChannel :=
  if i = dc then (s.drv.channels[dc]).recordFault kind else s.drv.channels[i]

theorem blockingFault_channel (dc : DriverIdx) (kind : DriverFaultKind) (d : DriverSettings) (b : BlockKind) (s : State)
    (i : DriverIdx) :
    (blockingFault dc kind d b s).drv.channels[i] =
      if i ∈ s.affected dc d then (s.recordedChannel dc kind i).blockedBy b else s.recordedChannel dc kind i := by
  simp [blockingFault, modChannels, State.recordedChannel, Vector.getElem_set, Fin.ext_iff, eq_comm]

/-- The state a fault under a blocking mode leaves before it is reported on. -/
def faultBlocked (dc : DriverIdx) (kind : DriverFaultKind) (d : DriverSettings) (b : BlockKind) (s : State) : State :=
  blockingFault dc kind d b (faultTimed dc kind s)

@[simp] theorem faultBlocked_frame (dc : DriverIdx) (kind : DriverFaultKind) (d : DriverSettings) (b : BlockKind)
    (s : State) :
    (faultBlocked dc kind d b s).pending = s.pending ∧ (faultBlocked dc kind d b s).resetLine = s.resetLine ∧
    (faultBlocked dc kind d b s).lineOut = [] ∧ (faultBlocked dc kind d b s).tbm = s.tbm ∧
    (faultBlocked dc kind d b s).psq = s.psq ∧ (faultBlocked dc kind d b s).shb = s.shb ∧
    (faultBlocked dc kind d b s).hci = s.hci ∧ (faultBlocked dc kind d b s).stk = s.stk ∧
    (faultBlocked dc kind d b s).asc = s.asc ∧ (faultBlocked dc kind d b s).wfm = s.wfm ∧
    (faultBlocked dc kind d b s).run = s.run ∧
    (faultBlocked dc kind d b s).dlp = s.dlp.post (faultEvent dc kind d (s.affected dc d) s) := by
  have hdlp := blockingFault_dlp dc kind d b (faultTimed dc kind s)
  rw [faultEvent_timed] at hdlp
  exact ⟨by simp [faultBlocked], by simp [faultBlocked], by simp [faultBlocked], by simp [faultBlocked],
    by simp [faultBlocked], by simp [faultBlocked], by simp [faultBlocked], by simp [faultBlocked],
    by simp [faultBlocked], by simp [faultBlocked], by simp [faultBlocked], hdlp⟩

@[simp] theorem faultBlocked_countAngle (dc : DriverIdx) (kind : DriverFaultKind) (d : DriverSettings) (b : BlockKind)
    (s : State) : (faultBlocked dc kind d b s).countAngle = s.countAngle := by
  simp [State.countAngle]

theorem faultBlocked_blocks {s : State} {dc : DriverIdx} {kind : DriverFaultKind} (d : DriverSettings) (b : BlockKind)
    (hdriving : (s.drv.channels[dc]).phase.driving = true) :
    FaultBlocks dc kind b (s.affected dc d) s (faultBlocked dc kind d b s) := by
  have hchannel (i : DriverIdx) : (faultBlocked dc kind d b s).drv.channels[i] =
      if i ∈ s.affected dc d then ((faultTimed dc kind s).recordedChannel dc kind i).blockedBy b
      else (faultTimed dc kind s).recordedChannel dc kind i := blockingFault_channel dc kind d b (faultTimed dc kind s) i
  have hdc : (faultBlocked dc kind d b s).drv.channels[dc] =
      (((s.drv.channels[dc]).timerOut kind).recordFault kind).blockedBy b := by
    rw [hchannel dc, if_pos (mem_affected.mpr (.inl rfl)), State.recordedChannel, if_pos rfl, faultTimed_channel]
  have hother {i : DriverIdx} (hi : i ≠ dc) : (faultTimed dc kind s).recordedChannel dc kind i = s.drv.channels[i] := by
    have hv : dc.val ≠ i.val := fun h => hi (Fin.ext h.symm)
    simp [State.recordedChannel, hi, hv]
  rw [blockedBy_driving (by simpa using hdriving)] at hdc
  refine ⟨by simp [faultBlocked, blockingFault, modChannels], by rw [hdc], by rw [hdc], ?count, ?flag,
    fun i hi ha => ?others, fun i ha => ?unaffected⟩
  case count =>
    rw [hdc]
    exact (switchedOff_faultCount _).trans (by simp)
  case flag =>
    rw [hdc]
    exact (switchedOff_hasFlag _ kind).trans (recordFault_hasFlag _ kind)
  case others => rw [hchannel i, if_pos ha, hother hi]
  case unaffected =>
    have hi : i ≠ dc := fun h => ha (mem_affected.mpr (.inl h))
    rw [hchannel i, if_neg ha, hother hi]

end Sys2Proof.Machine

namespace Sys2Proof.Machine

/-! ### What a pick relies on, and the report of a PER_PICK block (07 R136) -/

/-- The blocked channels the armed part relies on; none without an armed part. -/
def State.reliedOn (s : State) (blocked : List DriverIdx) : List DriverIdx :=
  match s.armedPart with
  | none => []
  | some a => blocked.filter a.reliesOn

theorem mem_reliedOn {s : State} {blocked : List DriverIdx} {i : DriverIdx} :
    i ∈ s.reliedOn blocked ↔
      i ∈ blocked ∧ ∃ part, s.armedPart = some part ∧ (part.weft.selector = i ∨ ∃ x ∈ part.actions, x.channel = i) := by
  unfold State.reliedOn
  cases h : s.armedPart <;> simp [ArmedPart.reliesOn]

theorem reliedOn_congr {s t : State} (h : t.asc = s.asc) (blocked : List DriverIdx) :
    t.reliedOn blocked = s.reliedOn blocked := by
  unfold State.reliedOn
  rw [armedPart_congr h]

/-- 07 R136: an ARMED pick that relies on no blocked channel, or none ARMED: nothing is reported. -/
theorem blockReport_unrelied {s : State} {blocked : List DriverIdx}
    (h : ¬(s.currentArmed = true ∧ ∃ i, i ∈ s.reliedOn blocked)) : blockReport blocked s = s := by
  unfold blockReport
  cases ha : s.armedPart with
  | none => rfl
  | some a =>
    refine if_neg fun hrelies => h ⟨hrelies.1, List.exists_mem_of_ne_nil _ ?_⟩
    simpa only [State.reliedOn, ha] using hrelies.2

/-- 07 R136: an ARMED pick that relies on a blocked channel is faulted and its cause handed. -/
theorem blockReport_relied {s : State} {blocked : List DriverIdx} {r : PickRecord} (hc : s.psq.current = some r)
    (harmed : s.currentArmed = true) (hrelied : ∃ i, i ∈ s.reliedOn blocked) :
    blockReport blocked s =
      hand (.stop (.weftDriver r.ordinal)) (weftFaulted (.driver (s.reliedOn blocked)) r s) := by
  obtain ⟨i, hi⟩ := hrelied
  rw [← weftFault_hands (.driver (s.reliedOn blocked)) .weftDriver hc]
  unfold blockReport State.reliedOn at *
  cases ha : s.armedPart with
  | none => simp [ha] at hi
  | some a =>
    rw [ha] at hi
    exact if_pos ⟨harmed, List.ne_nil_of_mem hi⟩

/-! ### A fault by the mode in use (08 R148) -/

section
variable {s : State} {dc : DriverIdx} {kind : DriverFaultKind} {u : InUse}

theorem driverFault_latch (hu : (s.drv.channels[dc]).inUse = some u) (hm : u.settings.modeOf kind = .latch) :
    driverFault dc kind (faultTimed dc kind s) =
      hand (.halt (.driverLatch dc)) (faultBlocked dc kind u.settings .latch s) := by
  have huse := (faultTimed_inUse dc kind s).trans hu
  simp only [driverFault, huse, hm]
  rfl

theorem driverFault_perPick (hu : (s.drv.channels[dc]).inUse = some u) (hm : u.settings.modeOf kind = .perPick) :
    driverFault dc kind (faultTimed dc kind s) =
      blockReport (s.affected dc u.settings) (faultBlocked dc kind u.settings .perPick s) := by
  have huse := (faultTimed_inUse dc kind s).trans hu
  simp only [driverFault, huse, hm]
  rfl

/-- 08 R148: REPORT records a fault once a switch-on. -/
theorem driverFault_reported (hu : (s.drv.channels[dc]).inUse = some u) (hm : u.settings.modeOf kind = .report)
    (hflag : (s.drv.channels[dc]).hasFlag kind = true) :
    driverFault dc kind (faultTimed dc kind s) = faultTimed dc kind s := by
  have huse := (faultTimed_inUse dc kind s).trans hu
  have hset : ((faultTimed dc kind s).drv.channels[dc]).hasFlag kind = true := by
    rw [faultTimed_channel, timerOut_hasFlag, hflag]
  simp only [driverFault, huse, hm]
  exact if_pos hset

/-- The state a fault newly reported leaves. -/
def faultReported (dc : DriverIdx) (kind : DriverFaultKind) (d : DriverSettings) (s : State) : State :=
  post (faultEvent dc kind d [] s)
    (setChannel dc (((s.drv.channels[dc]).timerOut kind).recordFault kind) { s with lineOut := [] })

theorem driverFault_unreported (hu : (s.drv.channels[dc]).inUse = some u) (hm : u.settings.modeOf kind = .report)
    (hflag : (s.drv.channels[dc]).hasFlag kind = false) :
    driverFault dc kind (faultTimed dc kind s) = faultReported dc kind u.settings s := by
  have huse := (faultTimed_inUse dc kind s).trans hu
  have hclear : ((faultTimed dc kind s).drv.channels[dc]).hasFlag kind = false := by
    rw [faultTimed_channel, timerOut_hasFlag, hflag]
  have hchannel : setChannel dc (((faultTimed dc kind s).drv.channels[dc]).recordFault kind) (faultTimed dc kind s) =
      setChannel dc (((s.drv.channels[dc]).timerOut kind).recordFault kind) { s with lineOut := [] } := by
    rw [faultTimed_channel]
    simp [setChannel, faultTimed]
  have hpost : driverFault dc kind (faultTimed dc kind s) =
      post (faultEvent dc kind u.settings [] (faultTimed dc kind s))
        (setChannel dc (((faultTimed dc kind s).drv.channels[dc]).recordFault kind) (faultTimed dc kind s)) := by
    simp only [driverFault, huse, hm]
    exact if_neg (Bool.eq_false_iff.mp hclear)
  rw [hpost, faultEvent_timed, hchannel, faultReported]

/-- 08 R148, R149, 07 R136: PER_PICK with nothing that relies on a channel blocked. -/
theorem driverFault_perPick_unrelied (hu : (s.drv.channels[dc]).inUse = some u)
    (hm : u.settings.modeOf kind = .perPick)
    (h : ¬(s.currentArmed = true ∧ ∃ i, i ∈ s.reliedOn (s.affected dc u.settings))) :
    driverFault dc kind (faultTimed dc kind s) = faultBlocked dc kind u.settings .perPick s := by
  have hpsq : (faultBlocked dc kind u.settings .perPick s).psq = s.psq := by simp
  rw [driverFault_perPick hu hm]
  refine blockReport_unrelied ?_
  rwa [reliedOn_congr (s := s) (by simp), State.currentArmed, hpsq]

/-- 07 R136: PER_PICK where the ARMED pick relies on a channel blocked. -/
theorem driverFault_perPick_relied {r : PickRecord} (hu : (s.drv.channels[dc]).inUse = some u)
    (hm : u.settings.modeOf kind = .perPick) (hc : s.psq.current = some r) (harmed : s.currentArmed = true)
    (hrelied : ∃ i, i ∈ s.reliedOn (s.affected dc u.settings)) :
    driverFault dc kind (faultTimed dc kind s) =
      hand (.stop (.weftDriver r.ordinal))
        (weftFaulted (.driver (s.reliedOn (s.affected dc u.settings))) r
          (faultBlocked dc kind u.settings .perPick s)) := by
  have hsame := reliedOn_congr (s := s) (t := faultBlocked dc kind u.settings .perPick s) (by simp)
    (s.affected dc u.settings)
  have hcur : (faultBlocked dc kind u.settings .perPick s).psq.current = some r := by simp [hc]
  rw [driverFault_perPick hu hm, ← hsame]
  refine blockReport_relied hcur ?_ (by rwa [hsame])
  exact (currentArmed_iff hcur).mpr ((currentArmed_iff hc).mp harmed)

end

end Sys2Proof.Machine

namespace Sys2Proof.Machine

/-! ### PEAK_TIME_LIMIT_END and DEGLITCH_END (08 R146, R147) -/

/-- 09 R167, R169: what a stop cause taken in WEAVING leaves of RUN, moving or at standstill. -/
theorem takeStop_weaving_run {u : State} (hw : u.run.state = .weaving) (c : StopCause) :
    (takeStop c u).run =
      { u.run with
        state := if u.stk.motion = .moving then .stopping else .stopped
        permit := false, firstStop := some c } := by
  cases hm : u.stk.motion with
  | moving => simp [(takeStop_moving_leaves hw hm c).1]
  | standstill => simp [(takeStop_still_leaves hw hm c).1]

/-- 09 R170, 06 R119, 08 R152: what a halting cause taken in WEAVING leaves of the pick run, the armed part and the
channels. -/
theorem takeHalt_weaving_leaves {u : State} (hw : u.run.state = .weaving) (c : HaltCause) :
    (takeHalt c u).psq = { u.psq with current := u.psq.current.map PickRecord.interrupt } ∧
      (takeHalt c u).armedPart = none ∧
      (∀ dc : DriverIdx, (takeHalt c u).drv.channels[dc] = (u.drv.channels[dc]).switchedOff) := by
  rw [takeHalt_halts c u (by simp [hw]) (by simp [hw])]
  refine ⟨by simp [hw], ?_, by simp⟩
  unfold State.armedPart
  rw [changeState_snapshot, if_pos ⟨hw, by simp⟩]
  cases u.asc.snapshot <;> rfl

theorem takeCauses_test (taken : CausesTaken) (s : State) : (takeCauses taken s).drv.test = s.drv.test :=
  takeCauses_preserves (fun x => x.drv.test = s.drv.test) (fun _ _ h => h)
    (fun x c h => (takeCause_test x c).trans h) taken s rfl

/-- Whatever a fault is made of, and whichever causes RUN takes: the tables, the tracker, the sensors and the off-state
test stay. -/
theorem driverFault_undisturbed (dc : DriverIdx) (kind : DriverFaultKind) (taken : CausesTaken) (s : State) :
    let t := kickTransmitter (takeCauses taken (driverFault dc kind (faultTimed dc kind s)))
    Undisturbed s t ∧ t.stk = s.stk ∧ t.drv.test = s.drv.test := by
  have hfault := (faultTimed_loomEvent dc kind s).trans (driverFault_handedOn dc kind (faultTimed dc kind s)).toLoomEvent
  have htest := (driverFault_actuators dc kind (faultTimed dc kind s)).test
  exact ⟨undisturbed_kick (hfault.trans (takeCauses_loomEvent taken _)).undisturbed, by simp [takeCauses_stk],
    by simp [takeCauses_test, htest]⟩

/-- Settles O39: the fault is recorded, blocks its channels and is reported by its mode; RUN's taking of the cause
handed is that of a stop or halting cause. -/
theorem driverFaultsAreHandled : Obligations.DriverFaultsAreHandled := by
  intro s dc kind c u d affected event relied relies blocks hready hweaving hchannel huse hdriving htimer c0
  subst hchannel
  have hexec := exec_faultCommand hready hdriving htimer
  have haffected (i : DriverIdx) : i ∈ s.affected dc d ↔ affected i := mem_affected
  have hrelied (i : DriverIdx) : i ∈ s.reliedOn (s.affected dc d) ↔ relied i :=
    mem_reliedOn.trans (and_congr_left' (haffected i))
  have hrelies : relies ↔ s.currentArmed = true ∧ ∃ i, i ∈ s.reliedOn (s.affected dc d) :=
    and_congr_right' (exists_congr fun i => (hrelied i).symm)
  have hevent {mode : FaultMode} (hm : d.modeOf kind = mode) (blocked : List DriverIdx) :
      faultEvent dc kind d blocked s = event mode blocked := by simp [faultEvent, hm, event]
  have hblocked (b : BlockKind) := faultBlocked_blocks (kind := kind) d b hdriving
  have hblocks {b : BlockKind} {t : State} (ht : t.drv = (faultBlocked dc kind d b s).drv) : blocks b t := by
    obtain ⟨htest, hphase, hblock, hcount, hflag, hothers, hunaffected⟩ := (hblocked b).congr ht
    exact ⟨htest, hphase, hblock, hcount, hflag, fun i hi ha => hothers i hi ((haffected i).mpr ha),
      fun i ha => hunaffected i (mt (haffected i).mp ha)⟩
  refine ⟨fun taken hnone => ?quiet, ?waits, fun hquiet => ?taken⟩
  case quiet =>
    obtain ⟨hundisturbed, hstk, -⟩ := driverFault_undisturbed dc kind taken s
    refine ⟨_, hexec taken, hundisturbed, hstk, fun hm hflag => ?_, fun hm hflag => ?_, fun hm hno => ?_⟩
    · rw [driverFault_reported huse hm hflag, takeCauses_noneTaken hnone (by simp)]
      exact ⟨by simp [ChangedOnly], by simp [c0], linkLeft_of (by simp)⟩
    · rw [driverFault_unreported huse hm hflag, takeCauses_noneTaken hnone (by simp [faultReported])]
      exact ⟨by simp [ChangedOnly, faultReported], by simp [faultReported, c0],
        linkLeft_of ((post_dlp _ _).trans (congrArg (Dlp.post · s.dlp) (hevent hm [])))⟩
    · rw [driverFault_perPick_unrelied huse hm (mt hrelies.mpr hno), takeCauses_noneTaken hnone (by simp)]
      exact ⟨by simp [ChangedOnly], hblocks (by simp [d]), _, haffected, linkLeft_of (by simp [← hevent hm, d])⟩
  case waits =>
    refine ⟨_, hexec (.only []), fun hm => ?_, fun r hm hyes hc => ?_⟩
    · rw [driverFault_latch huse hm, takeCauses_none]
      exact ⟨by simp [ChangedOnly], hblocks (by simp [d]), by simp, _, haffected,
        linkLeft_of (by simp [← hevent hm, d])⟩
    · obtain ⟨harmed, hsome⟩ := hrelies.mp hyes
      rw [driverFault_perPick_relied huse hm hc harmed hsome, takeCauses_none]
      refine ⟨by simp [ChangedOnly], hblocks (by simp [d]), by simp [WeftDetail.cause], by simp, by simp, _, _, haffected,
        hrelied, linkLeft_of (by simp [← hevent hm, d, Dlp.posts])⟩
  case taken =>
    obtain ⟨hundisturbed, hstk, htest⟩ := driverFault_undisturbed dc kind .every s
    refine ⟨_, hexec .every, hundisturbed, hstk, htest, fun r hm hyes hc => ?_, fun hm => ?_⟩
    · obtain ⟨harmed, hsome⟩ := hrelies.mp hyes
      rw [driverFault_perPick_relied huse hm hc harmed hsome, takeCauses_every_hand (by simpa using hquiet), takeCause]
      let v : State := weftFaulted (.driver (s.reliedOn (s.affected dc d))) r (faultBlocked dc kind d .perPick s)
      have hrun := takeStop_weaving_run (u := v) (by simpa [v] using hweaving) (.weftDriver r.ordinal)
      obtain ⟨hpsq, hwfm, hchannels, -⟩ :=
        takeStop_weftFaulted (d := .driver (s.reliedOn (s.affected dc d))) (r := r)
          (s := faultBlocked dc kind d .perPick s) (by simpa using hweaving) (.weftDriver r.ordinal)
      have hdc := (hchannels dc).trans (switchedOff_blocked (hblocked .perPick).phase)
      refine ⟨by simp [d, hpsq, WeftDetail.cause], by simpa [v] using hrun, by simp [d, hwfm], ?_, ?_⟩
      · simp only [kickTransmitter_frame]
        exact (congrArg DriverChannel.phase hdc).trans (hblocked .perPick).phase
      · simp only [kickTransmitter_frame]
        exact (congrArg DriverChannel.block hdc).trans (hblocked .perPick).block
    · rw [driverFault_latch huse hm, takeCauses_every_hand (by simpa using hquiet), takeCause]
      have hw : (faultBlocked dc kind d .latch s).run.state = .weaving := by simpa using hweaving
      obtain ⟨hrun, -, -⟩ := takeHalt_halts_leaves (u := faultBlocked dc kind d .latch s) (by simp [hweaving])
        (by simp [hweaving]) (.driverLatch dc)
      obtain ⟨hpsq, harmed, hchannels⟩ := takeHalt_weaving_leaves hw (.driverLatch dc)
      obtain ⟨-, hphase, hblock, hcount, -, hothers, hunaffected⟩ := hblocked .latch
      have hdc := (hchannels dc).trans (switchedOff_blocked hphase)
      rw [armedPart_kick]
      simp only [kickTransmitter_frame]
      exact ⟨by simp [d, hrun], by simp [d, hpsq], harmed, (congrArg DriverChannel.phase hdc).trans hphase,
        (congrArg DriverChannel.block hdc).trans hblock, (congrArg DriverChannel.faultCount hdc).trans hcount,
        fun i hi ha => (hchannels i).trans (congrArg _ (hothers i hi ((haffected i).mpr ha))),
        fun i ha => (hchannels i).trans (congrArg _ (hunaffected i (mt (haffected i).mp ha)))⟩

end Sys2Proof.Machine

namespace Sys2Proof.Machine

/-! ## The driver channels (08) -/

/-! ### Levels and timers -/

/-- 08 R140: a current reaches a level at 250 mA a code. -/
@[simp] theorem reaches_iff (current code : Nat) : reaches current code = true ↔ 250 * code ≤ current :=
  decide_eq_true_iff

@[simp] theorem startTimer_zero : startTimer 0 = none := rfl

theorem startTimer_pos {t : Nat} (h : 0 < t) : startTimer t = some t := if_neg (Nat.pos_iff_ne_zero.mp h)

/-! ### What each event makes of a driving channel (08 R143 to R145, R147) -/

section
variable {c : DriverChannel} {d : DriverSettings} {current : Nat}

theorem peakReached_unblanked (hp : c.phase = .peak) (hb : c.blankTimer = none) (hl : d.holdLevel ≤ d.peakLevel) :
    c.peakReached d = { c with phase := .holdOff, peakTimer := none, offTimer := some d.chopOffTime } := by
  simp [DriverChannel.peakReached, DriverChannel.enterHoldOff, hp, hb, hl]

theorem peakReached_blanked (hp : c.phase = .peak) (hb : c.blankTimer ≠ none) :
    c.peakReached d = { c with phase := .holdOn, peakTimer := none } := by
  simp [DriverChannel.peakReached, hp, hb]

theorem holdReached_unblanked (hp : c.phase = .holdOn) (hb : c.blankTimer = none) :
    c.holdReached d = { c with phase := .holdOff, offTimer := some d.chopOffTime } :=
  if_pos ⟨hp, Option.isNone_iff_eq_none.mpr hb⟩

theorem holdReached_blanked (hb : c.blankTimer ≠ none) : c.holdReached d = c :=
  if_neg fun h => hb (Option.isNone_iff_eq_none.mp h.2)

theorem loadReached_directOn (hp : c.phase = .directOn) : c.loadReached d = { c with peakTimer := none } := if_pos hp

/-- 08 R143: outside blanking HOLD_ON ends at the hold level. -/
theorem compareHold_reached (hp : c.phase = .holdOn) (hb : c.blankTimer = none) (hl : 250 * d.holdLevel ≤ current) :
    c.compareHold d current = { c with phase := .holdOff, offTimer := some d.chopOffTime } :=
  if_pos ⟨hp, Option.isNone_iff_eq_none.mpr hb, (reaches_iff _ _).mpr hl⟩

theorem compareHold_below (h : ¬(c.phase = .holdOn ∧ 250 * d.holdLevel ≤ current)) : c.compareHold d current = c :=
  if_neg fun ⟨hp, _, hl⟩ => h ⟨hp, (reaches_iff _ _).mp hl⟩

/-- 08 R145: no hold comparison is made in blanking. -/
theorem compareHold_blanked (hb : c.blankTimer ≠ none) : c.compareHold d current = c :=
  if_neg fun ⟨_, hn, _⟩ => hb (Option.isNone_iff_eq_none.mp hn)

theorem offTimeEnds_blanking (hp : c.phase = .holdOff) (ho : c.offTimer ≠ none) (hd : 0 < d.blanking) :
    c.offTimeEnds current d =
      { c with phase := .holdOn, offTimer := none, blankTimer := some d.blanking, deglitchTimer := none } := by
  have hends : c.phase = .holdOff ∧ c.offTimer.isSome := ⟨hp, Option.isSome_iff_ne_none.mpr ho⟩
  simp only [DriverChannel.offTimeEnds, if_pos hends, startTimer_pos hd]
  exact compareHold_blanked nofun

/-- With a blanking of 0 the hold comparison is made at the turn-on itself, and the deglitch time is kept (log 18). -/
theorem offTimeEnds_unblanked (hp : c.phase = .holdOff) (ho : c.offTimer ≠ none) (hd : d.blanking = 0) :
    c.offTimeEnds current d =
      ({ c with phase := .holdOn, offTimer := none, blankTimer := none } : DriverChannel).compareHold d current := by
  have hends : c.phase = .holdOff ∧ c.offTimer.isSome := ⟨hp, Option.isSome_iff_ne_none.mpr ho⟩
  simp only [DriverChannel.offTimeEnds, if_pos hends, hd]
  rfl

theorem offTimeEnds_below (hp : c.phase = .holdOff) (ho : c.offTimer ≠ none) (hd : d.blanking = 0)
    (hl : current < 250 * d.holdLevel) :
    c.offTimeEnds current d = { c with phase := .holdOn, offTimer := none, blankTimer := none } := by
  rw [offTimeEnds_unblanked hp ho hd]
  exact compareHold_below fun h => absurd h.2 (Nat.not_le.mpr hl)

theorem offTimeEnds_reached (hp : c.phase = .holdOff) (ho : c.offTimer ≠ none) (hd : d.blanking = 0)
    (hl : 250 * d.holdLevel ≤ current) :
    c.offTimeEnds current d = { c with blankTimer := none, offTimer := some d.chopOffTime } := by
  rw [offTimeEnds_unblanked hp ho hd, compareHold_reached rfl rfl hl, ← hp]

theorem startDeglitch_starts (hb : c.blankTimer = none) (ht : c.deglitchTimer = none)
    (hm : d.overcurrentMode ≠ .disabled) : c.startDeglitch d = { c with deglitchTimer := some d.deglitch } :=
  if_pos ⟨Option.isNone_iff_eq_none.mpr hb, Option.isNone_iff_eq_none.mpr ht, hm⟩

/-- 08 R147: in blanking, and in the mode DISABLED, no overcurrent comparison is made. -/
theorem startDeglitch_unmade (h : c.blankTimer ≠ none ∨ d.overcurrentMode = .disabled) : c.startDeglitch d = c :=
  if_neg fun ⟨hb, _, hm⟩ => h.elim (· (Option.isNone_iff_eq_none.mp hb)) hm

/-- 08 R147: the deglitch timer after an overcurrent comparison made against `current`. -/
def DriverChannel.comparedDeglitch (c : DriverChannel) (d : DriverSettings) (current : Nat) : Option Nat :=
  if 250 * d.overcurrentLevel ≤ current ∧ c.deglitchTimer = none ∧ d.overcurrentMode ≠ .disabled then
    some d.deglitch
  else c.deglitchTimer

theorem compareOvercurrent_eq (hb : c.blankTimer = none) :
    (if reaches current d.overcurrentLevel then c.startDeglitch d else c) =
      { c with deglitchTimer := c.comparedDeglitch d current } := by
  by_cases hl : 250 * d.overcurrentLevel ≤ current
  · by_cases hs : c.deglitchTimer = none ∧ d.overcurrentMode ≠ .disabled
    · simp [DriverChannel.comparedDeglitch, startDeglitch_starts hb hs.1 hs.2, hl, hs]
    · have hkept : c.startDeglitch d = c := if_neg fun ⟨_, ht, hm⟩ => hs ⟨Option.isNone_iff_eq_none.mp ht, hm⟩
      have htimer : c.comparedDeglitch d current = c.deglitchTimer := if_neg fun h => hs h.2
      rw [hkept, htimer, ite_self]
  · simp [DriverChannel.comparedDeglitch, hl]

/-- 08 R145: as blanking ends HOLD_ON ends at the hold level, and the overcurrent comparison is made. -/
theorem blankingEnds_reached (hb : c.blankTimer ≠ none) (hp : c.phase = .holdOn) (hl : 250 * d.holdLevel ≤ current) :
    c.blankingEnds current d =
      { c with
        blankTimer := none, phase := .holdOff, offTimer := some d.chopOffTime
        deglitchTimer := c.comparedDeglitch d current } := by
  refine (if_pos (Option.isSome_iff_ne_none.mpr hb)).trans ?_
  rw [compareHold_reached (c := { c with blankTimer := none }) hp rfl hl]
  exact compareOvercurrent_eq rfl

theorem blankingEnds_below (hb : c.blankTimer ≠ none) (h : ¬(c.phase = .holdOn ∧ 250 * d.holdLevel ≤ current)) :
    c.blankingEnds current d = { c with blankTimer := none, deglitchTimer := c.comparedDeglitch d current } := by
  refine (if_pos (Option.isSome_iff_ne_none.mpr hb)).trans ?_
  rw [compareHold_below (c := { c with blankTimer := none }) h]
  exact compareOvercurrent_eq rfl

end

/-! ### The events as commands -/

/-- The command makes channel `dc` the channel `c'`, and changes nothing else. -/
def ChannelBecomes (dc : DriverIdx) (i : Instr) (c' : DriverChannel) (s : State) : Prop :=
  ∃ t, exec i s = .next t ∧ ChangedOnly [.dlp, .drv] s t ∧
    t.drv = { s.drv with channels := s.drv.channels.set dc.val c' } ∧ LinkLeft s.dlp t

theorem onDriving_eq {s : State} {dc : DriverIdx} {u : InUse} (hu : (s.drv.channels[dc]).inUse = some u)
    (hd : (s.drv.channels[dc]).phase.driving = true) (f : DriverChannel → DriverSettings → DriverChannel) :
    onDriving dc f s = setChannel dc (f s.drv.channels[dc] u.settings) s := by
  simp only [onDriving, hu]
  exact if_pos hd

/-- An event of a driving channel changes the channel by its function, and nothing else. -/
theorem channelBecomes_of_driving {s : State} {dc : DriverIdx} {u : InUse} {i : Instr}
    {f : DriverChannel → DriverSettings → DriverChannel} (hready : s.Ready)
    (hu : (s.drv.channels[dc]).inUse = some u) (hd : (s.drv.channels[dc]).phase.driving = true)
    (hexec : exec i s = command (onDriving dc f) s) :
    ChannelBecomes dc i (f s.drv.channels[dc] u.settings) s := by
  refine ⟨_, (hexec.trans (command_high _ s hready)).trans
    (by rw [onDriving_eq (s := { s with lineOut := [] }) hu hd f]), ?_, ?_, ?_⟩
  · simp [ChangedOnly]
  · simp
  · exact linkLeft_of (by simp)

theorem driving_of_phase {c : DriverChannel} {p : DrivePhase} (h : c.phase = p) (hp : p.driving = true) :
    c.phase.driving = true := h ▸ hp

/-- Settles O38: an event changes the driving channel by its function, whose equations are the statement's. -/
theorem currentIsShaped : Obligations.CurrentIsShaped := by
  intro s dc c u current d becomes hready hchannel huse
  subst hchannel
  have event {i : Instr} {f : DriverChannel → DriverSettings → DriverChannel} {c' : DriverChannel}
      (hd : (s.drv.channels[dc]).phase.driving = true) (hexec : exec i s = command (onDriving dc f) s)
      (hf : f s.drv.channels[dc] d = c') : becomes i c' := hf ▸ channelBecomes_of_driving hready huse hd hexec
  refine ⟨fun hp hb hl => ?_, fun hp hb => ?_, fun hp hb => ?_, fun hp hb => ?_, fun hp => ?_, fun hp ho hd => ?_,
    fun hp ho hd hl => ?_, fun hp ho hd hl => ?_, fun hd hb => ⟨fun h => ?_, fun h => ?_⟩, fun hd hb ht hm => ?_,
    fun hd h => ?_, fun hd => ?_⟩
  · exact event (driving_of_phase hp rfl) rfl (peakReached_unblanked hp hb hl)
  · exact event (driving_of_phase hp rfl) rfl (peakReached_blanked hp hb)
  · exact event (driving_of_phase hp rfl) rfl (holdReached_unblanked hp hb)
  · exact event (driving_of_phase hp rfl) rfl (holdReached_blanked hb)
  · exact event (driving_of_phase hp rfl) rfl (loadReached_directOn hp)
  · exact event (driving_of_phase hp rfl) rfl (offTimeEnds_blanking hp ho hd)
  · exact event (driving_of_phase hp rfl) rfl (offTimeEnds_below hp ho hd hl)
  · exact event (driving_of_phase hp rfl) rfl (offTimeEnds_reached hp ho hd hl)
  · exact event hd rfl (blankingEnds_reached hb h.1 h.2)
  · exact event hd rfl (blankingEnds_below hb h)
  · exact event hd rfl (startDeglitch_starts hb ht hm)
  · exact event hd rfl (startDeglitch_unmade h)
  · exact event (f := fun c _ => { c with deglitchTimer := none }) hd rfl rfl

end Sys2Proof.Machine

namespace Sys2Proof.Machine

/-! ### The off-state test (08 R154, R155) -/

theorem endTest_running {s : State} {test : OffTest} (h : s.drv.test = some test) (current : Nat) :
    endTest current s =
      post (.testDone test.channel (judgeTest test.shortLevel current))
        { s with
          drv :=
            { channels :=
                s.drv.channels.set test.channel.val
                  { s.drv.channels[test.channel] with
                    phase := .idle, lastTest := judgeTest test.shortLevel current }
              test := none } } := by
  simp only [endTest, h]
  rfl

theorem judgeTest_eq (shortLevel current : Nat) :
    judgeTest shortLevel current =
      if 250 * shortLevel ≤ current then .shorted else if 20 ≤ current then .loadPresent else .open := by
  simp [judgeTest]

/-- Settles O40: the running test ends by its judgement, which the two thresholds decide. -/
theorem testEndJudges : Obligations.TestEndJudges := by
  intro s test current hready htest result
  have hjudged : judgeTest test.shortLevel current = result := judgeTest_eq _ _
  refine ⟨_, (command_high (endTest current) s hready).trans
    (by rw [endTest_running (s := { s with lineOut := [] }) htest, hjudged]), ?_, ?_, ?_⟩
  · simp [ChangedOnly]
  · simp
  · exact linkLeft_of (by simp)

theorem takeOffstateTest_state {s : State} (h : ¬(s.run.state ≠ .weaving ∧ s.run.state ≠ .stopping)) (p : List Byte) :
    takeOffstateTest p s = answerCommand 10 .state [] s :=
  if_pos (by simpa using mt (allowsTest_iff _).mp h)

section
variable {s : State} {p : List Byte} (hq : s.run.state ≠ .weaving ∧ s.run.state ≠ .stopping)
include hq

theorem takeOffstateTest_range (h : 19 < byteAt p 1) : takeOffstateTest p s = answerCommand 10 .range [] s := by
  simp [takeOffstateTest, (allowsTest_iff _).mpr hq, h]

/-- 08 R154: what OFFSTATE_TEST does to a channel it names in a run state that allows it. -/
theorem takeOffstateTest_named {dc : DriverIdx} (h : byteAt p 1 = dc.val) :
    takeOffstateTest p s =
      if s.drv.test.isSome then answerCommand 10 .busy [] s
      else if (s.drv.channels[dc]).phase ≠ .idle then answerCommand 10 .busy [] s
      else answerCommand 10 .ok [] (startTest dc s) := by
  have hindex : Fin.ofNat 20 (byteAt p 1) = dc := by rw [h]; exact Fin.ofNat_val_eq_self dc
  have hrange : ¬19 < byteAt p 1 := by omega
  simp only [takeOffstateTest, hindex, (allowsTest_iff _).mpr hq, Bool.not_true, Bool.false_eq_true, if_false,
    if_neg hrange]

theorem takeOffstateTest_busy {dc : DriverIdx} (h : byteAt p 1 = dc.val)
    (hb : s.drv.test ≠ none ∨ (s.drv.channels[dc]).phase ≠ .idle) :
    takeOffstateTest p s = answerCommand 10 .busy [] s := by
  rw [takeOffstateTest_named hq h]
  rcases hb with ht | hp
  · exact if_pos (Option.isSome_iff_ne_none.mpr ht)
  · rw [if_pos hp, ite_self]

theorem takeOffstateTest_starts {dc : DriverIdx} (h : byteAt p 1 = dc.val) (ht : s.drv.test = none)
    (hp : (s.drv.channels[dc]).phase = .idle) :
    takeOffstateTest p s = answerCommand 10 .ok [] (startTest dc s) := by
  rw [takeOffstateTest_named hq h, if_neg (by simp [ht]), if_neg (not_not.mpr hp)]

end

@[simp] theorem startTest_frame (dc : DriverIdx) (s : State) :
    (startTest dc s).pending = s.pending ∧ (startTest dc s).resetLine = s.resetLine ∧
    (startTest dc s).lineOut = s.lineOut ∧ (startTest dc s).dlp = s.dlp ∧ (startTest dc s).tbm = s.tbm ∧
    (startTest dc s).psq = s.psq ∧ (startTest dc s).shb = s.shb ∧ (startTest dc s).hci = s.hci ∧
    (startTest dc s).stk = s.stk ∧ (startTest dc s).asc = s.asc ∧ (startTest dc s).wfm = s.wfm ∧
    (startTest dc s).run = s.run := ⟨rfl, rfl, rfl, rfl, rfl, rfl, rfl, rfl, rfl, rfl, rfl, rfl⟩

@[simp] theorem startTest_drv (dc : DriverIdx) (s : State) :
    (startTest dc s).drv =
      { channels := s.drv.channels.set dc.val { s.drv.channels[dc] with phase := .testing }
        test := some { channel := dc, shortLevel := s.shortLevel dc } } := rfl

/-- Settles O25: OFFSTATE_TEST is answered by its first condition that is not met, or starts the test. -/
theorem offstateTestStarts : Obligations.OffstateTestStarts := by
  intro s p rest h quiet
  have refused {r : Result} (he : takeOffstateTest p (headTaken rest s) = answerCommand 10 r [] (headTaken rest s)) :
      Answered .offstateTest (commandAnswer 10 r []) rest s := answered_command h (eff := takeOffstateTest) rfl he
  refine ⟨fun hno => refused (takeOffstateTest_state (s := headTaken rest s) hno p),
    fun hq hr => refused (takeOffstateTest_range (s := headTaken rest s) hq hr),
    fun dc hq hdc => ⟨fun hb => refused (takeOffstateTest_busy (s := headTaken rest s) hq hdc hb), fun ht hp => ?_⟩⟩
  refine ⟨_, (taking_headTaken h takeOffstateTest).trans
    (by rw [takeOffstateTest_starts (s := headTaken rest s) hq hdc ht hp]), by simp [ChangedOnly], by simp, ?_, ?_⟩
  · simp only [kickTransmitter_frame, answerCommand_frame, startTest_drv]
    rfl
  · exact linkLeft_of (by simp [answerCommand, Dlp.taken, commandAnswer])

end Sys2Proof.Machine

namespace Sys2Proof.Machine

/-! ### CLEAR (09 R172, 08 R151) -/

@[simp] theorem releaseAll_drv (s : State) :
    (releaseAll s).drv = { s.drv with channels := Vector.ofFn fun dc => (s.drv.channels[dc]).released } := rfl

theorem takeClear_clears {s : State} (hh : s.run.state = .halted) (hhomed : s.stk.homing = .homed)
    (hstill : s.stk.motion = .standstill) (p : List Byte) :
    takeClear p s = answerCommand 5 .ok [] (changeState .stopped (releaseAll s)) := by
  simp [takeClear, hh, hhomed, hstill]

/-- A change that begins at a state of other channels alone: where DRV may change it is one of the first state. -/
theorem ChangedOnly.of_drv {bs : List Block} {s u t : State} (h : ChangedOnly bs u t) (hdrv : .drv ∈ bs)
    (hu : u = { s with drv := u.drv }) : ChangedOnly bs s t := by
  rw [hu] at h
  obtain ⟨hpending, hreset, hlines, hdlp, htbm, hpsq, hshb, hhci, hstk, hasc, hwfm, -, hrun⟩ := h
  exact ⟨hpending, hreset, hlines, hdlp, htbm, hpsq, hshb, hhci, hstk, hasc, hwfm, .inl hdrv, hrun⟩

/-- Settles O20: CLEAR releases the channels and makes the change to STOPPED, or is answered by its first condition that
is not met. -/
theorem clearReleasesAndStops : Obligations.ClearReleasesAndStops := by
  intro s p rest h
  refine ⟨fun hh hhomed hstill => ?clears, fun hno => ?state, fun hh hno => ?homing, fun hh hhomed hm => ?moving⟩
  case clears =>
    obtain ⟨honly, hrun, hdrv, hlink⟩ :=
      answered_change (st := .stopped) nofun 5 rest (s := releaseAll s) (by simp [hh])
    have hreleased : releaseAll (headTaken rest s) = headTaken rest (releaseAll s) := rfl
    refine ⟨_, (taking_headTaken h takeClear).trans
      (by rw [takeClear_clears (s := headTaken rest s) hh hhomed hstill, hreleased]), honly.of_drv (by simp) rfl, hrun,
      fun dc => ?_, ?_, ?_⟩
    · rw [hdrv]
      simp
    · rw [hdrv, releaseAll_drv]
    · simpa only [releaseAll_frame, hh] using hlink
  case state =>
    exact answered_command h (eff := takeClear) rfl (by simp [takeClear, hno])
  case homing =>
    exact answered_command h (eff := takeClear) rfl (by simp [takeClear, hh, hno])
  case moving =>
    exact answered_command h (eff := takeClear) rfl (by simp [takeClear, hh, hhomed, hm])

end Sys2Proof.Machine

/-! ## Run control: what enters WEAVING, START refused, and the causes that wait -/

namespace Sys2Proof.Machine

/-! ### WEAVING and RUN PERMIT (09 R159, R160) -/

theorem permitted_iff (r : Run) : r.permitted = true ↔ r.permit = decide (r.state = .weaving) := decide_eq_true_iff

/-- From `s` to `t` WEAVING is not entered, and RUN PERMIT follows the run state in `t` when it does in `s`. -/
structure WeavingNotEntered (s t : State) : Prop where
  permitted : s.run.permitted = true → t.run.permitted = true
  weaving : t.run.state = .weaving → s.run.state = .weaving

namespace WeavingNotEntered

variable {s t u : State}

theorem trans (h1 : WeavingNotEntered s t) (h2 : WeavingNotEntered t u) : WeavingNotEntered s u :=
  ⟨fun h => h2.permitted (h1.permitted h), fun h => h1.weaving (h2.weaving h)⟩

theorem of_same (hstate : t.run.state = s.run.state) (hpermit : t.run.permit = s.run.permit) : WeavingNotEntered s t where
  permitted := by simp only [permitted_iff, hstate, hpermit, imp_self]
  weaving := by rw [hstate]; exact id

theorem of_run (h : t.run = s.run) : WeavingNotEntered s t := of_same (by rw [h]) (by rw [h])

theorem refl (s : State) : WeavingNotEntered s s := of_run rfl

/-- Causes handed on are no matter of the run state. -/
theorem of_handed (h : HandedOn s t) : WeavingNotEntered s t := of_same (by rw [h.run]) (by rw [h.run])

theorem linked (h : WeavingNotEntered s t) (hl : LinkOnly t u) : WeavingNotEntered s u := by
  obtain ⟨d, rfl⟩ := hl
  exact h.trans (of_run rfl)

theorem answered (h : WeavingNotEntered s t) (code : Nat) (r : Result) (data : List Byte) :
    WeavingNotEntered s (answerCommand code r data t) := h.linked (answerCommand_linkOnly code r data t)

end WeavingNotEntered

/-- 09 R160: a change of run state drives the permit. -/
theorem changeState_permitted (st : RunState) (s : State) : (changeState st s).run.permitted = true := by
  rw [permitted_iff]
  simp

theorem changeState_weavingNotEntered {st : RunState} (h : st ≠ .weaving) (s u : State) :
    WeavingNotEntered s (changeState st u) :=
  ⟨fun _ => changeState_permitted st u, fun hw => absurd (by simpa using hw) h⟩

theorem laterCause_weavingNotEntered (c : Cause) (s : State) : WeavingNotEntered s (laterCause c s) :=
  .of_same (by simp) (by simp)

/-- 09 R167 to R171: no cause leads into WEAVING. -/
theorem takeCause_weavingNotEntered (s : State) (c : Cause) : WeavingNotEntered s (takeCause s c) := by
  cases c with
  | stop c =>
    simp only [takeCause, takeStop]
    split
    · split <;> exact changeState_weavingNotEntered (by decide) s _
    · exact laterCause_weavingNotEntered _ s
  | halt c =>
    simp only [takeCause, takeHalt]
    split
    · exact changeState_weavingNotEntered (by decide) s _
    · exact changeState_weavingNotEntered (by decide) s _
    · exact changeState_weavingNotEntered (by decide) s _
    · exact laterCause_weavingNotEntered _ s
    · exact laterCause_weavingNotEntered _ s

theorem takeCauses_weavingNotEntered (taken : CausesTaken) (s : State) : WeavingNotEntered s (takeCauses taken s) :=
  takeCauses_preserves (WeavingNotEntered s) (fun _ _ h => h.trans (.of_same rfl rfl))
    (fun u c h => h.trans (takeCause_weavingNotEntered u c)) taken s (.refl s)

/-- An effect that does not enter WEAVING, and RUN's taking of causes after it. -/
theorem WeavingNotEntered.causing {s t : State} (h : WeavingNotEntered s t) (taken : CausesTaken) :
    WeavingNotEntered s (takeCauses taken t) := h.trans (takeCauses_weavingNotEntered taken t)

/-! ### The frames taken -/

theorem takePick_run (p : List Byte) (s : State) : (takePick p s).run = s.run := by
  unfold takePick
  repeat' split
  all_goals simp [refusePick, acceptPick_frame]

theorem takeFlush_run (p : List Byte) (s : State) : (takeFlush p s).run = s.run := by
  unfold takeFlush
  split <;> simp

theorem takeHome_run (p : List Byte) (s : State) : (takeHome p s).run = s.run := by
  unfold takeHome
  repeat' split
  all_goals simp

theorem takeOffstateTest_run (p : List Byte) (s : State) : (takeOffstateTest p s).run = s.run := by
  simp only [takeOffstateTest]
  repeat' split
  all_goals rfl

theorem patternTable_run (p : List Byte) (ok : Bool) (checks : List FieldCheck) {write : State → State}
    (hw : ∀ u, (write u).run = u.run) (s : State) : (patternTable p ok checks write s).run = s.run := by
  obtain ⟨r, x, he⟩ | ⟨_, _, x, he⟩ := patternTable_cases p ok checks write s
  · rw [he]
    rfl
  · simp [he, answerTable, hw]

theorem takeArm_weavingNotEntered (p : List Byte) (s : State) : WeavingNotEntered s (takeArm p s) := by
  unfold takeArm
  repeat' split
  · exact (WeavingNotEntered.refl s).answered _ _ _
  · exact (changeState_weavingNotEntered (by decide) s s).answered _ _ _
  · exact (WeavingNotEntered.refl s).answered _ _ _

theorem takeDisarm_weavingNotEntered (p : List Byte) (s : State) : WeavingNotEntered s (takeDisarm p s) := by
  unfold takeDisarm
  split
  · exact (changeState_weavingNotEntered (by decide) s s).answered _ _ _
  · exact (WeavingNotEntered.refl s).answered _ _ _

theorem takeStopCommand_weavingNotEntered (taken : CausesTaken) (p : List Byte) (s : State) :
    WeavingNotEntered s (takeStopCommand taken p s) := by
  unfold takeStopCommand
  split
  · exact ((takeCause_weavingNotEntered s (.stop .stopCommand)).causing taken).answered _ _ _
  · exact (WeavingNotEntered.refl s).answered _ _ _

theorem takeClear_weavingNotEntered (p : List Byte) (s : State) : WeavingNotEntered s (takeClear p s) := by
  unfold takeClear
  repeat' split
  · exact (WeavingNotEntered.refl s).answered _ _ _
  · exact (WeavingNotEntered.refl s).answered _ _ _
  · exact (WeavingNotEntered.refl s).answered _ _ _
  · exact (changeState_weavingNotEntered (by decide) s _).answered _ _ _

/-- 09 R176: SOFT_RESET leads to OFFLINE with the permit dropped. -/
theorem takeSoftReset_weavingNotEntered (p : List Byte) (s : State) : WeavingNotEntered s (takeSoftReset p s) := by
  have hreset : (takeSoftReset p s).run = Run.hardReset := by simp [takeSoftReset]
  exact ⟨fun _ => by rw [hreset]; rfl, fun hw => by rw [hreset] at hw; cases hw⟩

/-- 09 R164: what START asks for. -/
structure State.MayStart (s : State) : Prop where
  stopped : s.run.state = .stopped
  homed : s.stk.homing = .homed
  still : s.stk.motion = .standstill
  untested : s.drv.test = none

theorem startWeaving_permitted (s : State) : (startWeaving s).run.permitted = true :=
  (WeavingNotEntered.of_handed (startSnapshot_handedOn _)).permitted (changeState_permitted .weaving (clearCauses s))

/-- 09 R165: the causes that `f` hands are taken, and the permit follows the run state as `f` leaves it. -/
theorem takingOwn_permitted {f : State → State} (hf : ∀ s, (f s).run.permitted = true) (s : State) :
    (takingOwn f s).run.permitted = true := by
  let u := f (withHanded [] s)
  have hown : WeavingNotEntered (drain u) (takingOwn f s) := .of_same rfl rfl
  exact hown.permitted ((takeCauses_weavingNotEntered .every u).permitted (hf _))

/-- 09 R164, R165: START is refused, or its conditions hold and the permit follows the run state it leads to. -/
theorem takeStart_cases (taken : CausesTaken) (p : List Byte) (s : State) :
    WeavingNotEntered s (takeStart taken p s) ∨ s.MayStart ∧ (takeStart taken p s).run.permitted = true := by
  have hrefused (r : Result) : WeavingNotEntered s (answerCommand 3 r [] s) := (WeavingNotEntered.refl s).answered _ _ _
  unfold takeStart
  repeat' split
  · exact .inl (hrefused _)
  · exact .inl (hrefused _)
  · exact .inl (hrefused _)
  · exact .inl (hrefused _)
  · rename_i hstopped hhomed hstill htest
    refine .inr ⟨⟨not_not.mp hstopped, not_not.mp hhomed, not_not.mp hstill, by simpa using htest⟩, ?_⟩
    have hown : (takingOwn startWeaving s).run.permitted = true := takingOwn_permitted startWeaving_permitted s
    exact ((takeCauses_weavingNotEntered taken _).answered 3 .ok []).permitted hown

/-! ### The events of the loom -/

theorem takeStep_weavingNotEntered (m : MachineRecord) (dir : Direction) (order : List Nat) (taken : CausesTaken)
    (s : State) : WeavingNotEntered s (takeStep m dir order taken s) :=
  runOrder_preserves (WeavingNotEntered s) (stepInfo m.counts s.stk.position dir)
    (fun u x h => h.trans (.of_handed (handle_handedOn _ u x))) (fun _ place h => h.causing (.only [place]))
    (fun _ h => h.causing .every) taken order _ _ (.of_run rfl)

theorem lineChange_weavingNotEntered (line : EncLine) (elapsed : Nat) (order : List Nat) (taken : CausesTaken)
    (s : State) : WeavingNotEntered s (lineChange line elapsed order taken s) := by
  obtain he | ⟨m, l, _, he | ⟨dir, he⟩⟩ := lineChange_cases line elapsed order taken s
  · rw [he]
    exact .refl s
  · rw [he]
    exact .of_run rfl
  · rw [he]
    have hchanged : WeavingNotEntered s (lineChanged line elapsed l s) := .of_run rfl
    exact hchanged.trans (takeStep_weavingNotEntered m dir order taken _)

theorem illegalChange_weavingNotEntered (s : State) : WeavingNotEntered s (illegalChange s) := by
  unfold illegalChange
  split
  · exact .of_same (by simp) (by simp)
  · exact .refl s

theorem indexRise_weavingNotEntered (s : State) : WeavingNotEntered s (indexRise s) := by
  unfold indexRise takeIndex homeAt indexPasses indexFails
  dsimp only
  repeat' split
  all_goals exact .of_same (by simp) (by simp)

/-- 09 R169: standstill ends STOPPING in STOPPED. -/
theorem declareStandstill_weavingNotEntered (s : State) : WeavingNotEntered s (declareStandstill s) := by
  simp only [declareStandstill]
  repeat' split
  · exact changeState_weavingNotEntered (by decide) s _
  · exact .of_run rfl
  · exact .refl s

theorem feederBroken_setFeeder_weavingNotEntered (f : FeederIdx) (l : Level) (s : State) :
    WeavingNotEntered s (feederBroken f (setFeeder f l s)) :=
  WeavingNotEntered.trans (t := setFeeder f l s) (.of_run rfl) (.of_handed (feederBroken_handedOn f _))

theorem acquireSensor_weavingNotEntered (x : Sensor) (l : Level) (s : State) :
    WeavingNotEntered s (acquireSensor x l s) := by
  unfold acquireSensor
  repeat' split
  · exact .of_run rfl
  · exact .refl s
  · exact feederBroken_setFeeder_weavingNotEntered _ _ s
  · exact .of_run rfl
  · exact .refl s
  · exact .refl s

theorem feederBreaks_weavingNotEntered (f : FeederIdx) (s : State) : WeavingNotEntered s (feederBreaks f s) := by
  unfold feederBreaks
  split
  · exact feederBroken_setFeeder_weavingNotEntered f .high s
  · exact .refl s

theorem driverFault_setChannel_weavingNotEntered (dc : DriverIdx) (kind : DriverFaultKind) (c : DriverChannel)
    (s : State) : WeavingNotEntered s (driverFault dc kind (setChannel dc c s)) :=
  WeavingNotEntered.trans (t := setChannel dc c s) (.of_run rfl) (.of_handed (driverFault_handedOn dc kind _))

theorem peakLimitEnds_weavingNotEntered (dc : DriverIdx) (s : State) : WeavingNotEntered s (peakLimitEnds dc s) := by
  simp only [peakLimitEnds]
  split
  · exact driverFault_setChannel_weavingNotEntered dc .openLoad _ s
  · exact .refl s

theorem deglitchEnds_weavingNotEntered (dc : DriverIdx) (s : State) : WeavingNotEntered s (deglitchEnds dc s) := by
  simp only [deglitchEnds]
  split
  · exact driverFault_setChannel_weavingNotEntered dc .overcurrent _ s
  · exact .refl s

theorem closeChecking_weavingNotEntered (k : ChainIdx) (s : State) : WeavingNotEntered s (closeChecking k s) := by
  cases hphase : (s.hci.chains[k]).phase with
  | checking o answers =>
    rw [closeChecking_checking hphase]
    obtain he | ⟨c, he⟩ := applyChainFault_cases k (checked k o answers s) <;> rw [he] <;>
      exact .of_same (by simp) (by simp)
  | _ => simpa only [closeChecking, hphase] using .refl s

theorem acquireLevel_run (input : EncInput) (l : Level) (s : State) : (acquireLevel input l s).run = s.run := by
  unfold acquireLevel
  split <;> rfl

theorem indexFall_run (s : State) : (indexFall s).run = s.run := by
  unfold indexFall
  split <;> rfl

theorem arvRises_run (s : State) : (arvRises s).run = s.run := by
  unfold arvRises takeRise
  repeat' split
  all_goals rfl

theorem arvFalls_run (s : State) : (arvFalls s).run = s.run := by
  unfold arvFalls
  split <;> rfl

theorem feederClears_run (f : FeederIdx) (s : State) : (feederClears f s).run = s.run := by
  unfold feederClears
  split <;> rfl

theorem onDriving_run (dc : DriverIdx) (f : DriverChannel → DriverSettings → DriverChannel) (s : State) :
    (onDriving dc f s).run = s.run := by
  simp only [onDriving]
  repeat' split
  all_goals rfl

theorem endTest_run (current : Nat) (s : State) : (endTest current s).run = s.run := by
  unfold endTest
  split
  · rfl
  · simp

theorem completeExpansion_run (s : State) : (completeExpansion s).run = s.run := by
  unfold completeExpansion
  repeat' split
  all_goals simp

theorem sendCheckCall_run (k : ChainIdx) (s : State) : (sendCheckCall k s).run = s.run := by
  cases hphase : (s.hci.chains[k]).phase with
  | shifting o => rw [sendCheckCall_shifting hphase]
  | _ => simp only [sendCheckCall, hphase]

theorem collectAnswer_run (k : ChainIdx) (x : AnswerChar) (s : State) : (collectAnswer k x s).run = s.run := by
  simp only [collectAnswer]
  split <;> rfl

/-! ### Every command -/

/-- Every command's effect but that of START leaves WEAVING unentered. -/
theorem commandEffect_weavingNotEntered (c : Instr) (hc : ∀ taken, c ≠ .start taken) (s : State) :
    WeavingNotEntered s (commandEffect c s) := by
  have hframe (row : FrameRow) {eff : List Byte → State → State} (he : ∀ p u, WeavingNotEntered u (eff p u)) :
      WeavingNotEntered s (takeFrame row eff s) :=
    takeFrame_preserves (P := WeavingNotEntered s) (fun _ _ h => h.trans (.of_run rfl)) (fun _ => id)
      (fun p u h => h.trans (he p u)) row (.refl s)
  have hrun (row : FrameRow) {eff : List Byte → State → State} (he : ∀ p u, (eff p u).run = u.run) :
      WeavingNotEntered s (takeFrame row eff s) := hframe row fun p u => .of_run (he p u)
  cases c with
  | hardReset => exact .refl s
  | resetRelease => exact .refl s
  | pickFrame => exact hrun .pick takePick_run
  | tableMachine =>
    exact hrun (.table .machine) fun p => patternTable_run p _ _ (write := writeMachine _) (by simp [writeMachine_frame])
  | tableSections =>
    exact hrun (.table .sections) fun p => patternTable_run p _ _ (write := writeSection _ _) fun _ => rfl
  | tableEffects =>
    exact hrun (.table .effects) fun p => patternTable_run p _ _ (write := writeEffect _ _) fun _ => rfl
  | tableWeaves =>
    exact hrun (.table .weaves) fun p => patternTable_run p _ _ (write := writeWeave _ _) fun _ => rfl
  | tableProfiles =>
    exact hrun (.table .profiles) fun p u =>
      checkedWrite_keeps State.run (fun _ _ _ _ => rfl) p _ _ (write := writeProfile _ _) (fun _ => rfl) u
  | tableWefts =>
    exact hrun (.table .wefts) fun p u =>
      checkedWrite_keeps State.run (fun _ _ _ _ => rfl) p _ _ (write := writeWeft _ _) (fun _ => rfl) u
  | tableDrivers =>
    exact hrun (.table .drivers) fun p u =>
      checkedWrite_keeps State.run (fun _ _ _ _ => rfl) p _ _ (write := writeDriver _ _) (fun _ => rfl) u
  | start taken => exact absurd rfl (hc taken)
  | arm => exact hframe .arm takeArm_weavingNotEntered
  | disarm => exact hframe .disarm takeDisarm_weavingNotEntered
  | stop taken => exact hframe .stop (takeStopCommand_weavingNotEntered taken)
  | clear => exact hframe .clear takeClear_weavingNotEntered
  | softReset => exact hframe .softReset takeSoftReset_weavingNotEntered
  | flush => exact hrun .flush takeFlush_run
  | home => exact hrun .home takeHome_run
  | offstateTest => exact hrun .offstateTest takeOffstateTest_run
  | clearModuleFlags =>
    exact hrun .clearModuleFlags (eff := fun _ u => answerCommand 11 .ok [] (clearSticky u)) fun _ _ => rfl
  | encoderLevelAcquired input l => exact .of_run (acquireLevel_run input l s)
  | encoderStep line elapsed order taken => exact (lineChange_weavingNotEntered line elapsed order taken s).causing taken
  | illegalTransition taken => exact (illegalChange_weavingNotEntered s).causing taken
  | indexPulse taken => exact (indexRise_weavingNotEntered s).causing taken
  | standstill => exact declareStandstill_weavingNotEntered s
  | sensorLevelAcquired x l taken => exact (acquireSensor_weavingNotEntered x l s).causing taken
  | arvRise => exact .of_run (arvRises_run s)
  | arvFall => exact .of_run (arvFalls_run s)
  | feederBreak f taken => exact (feederBreaks_weavingNotEntered f s).causing taken
  | feederClear f => exact .of_run (feederClears_run f s)
  | peakTimeLimitEnd dc taken => exact (peakLimitEnds_weavingNotEntered dc s).causing taken
  | deglitchEnd dc taken => exact (deglitchEnds_weavingNotEntered dc s).causing taken
  | peakLevelReached dc => exact .of_run (onDriving_run dc _ s)
  | holdLevelReached dc => exact .of_run (onDriving_run dc _ s)
  | directLoadReached dc => exact .of_run (onDriving_run dc _ s)
  | chopOffTimeEnd dc current => exact .of_run (onDriving_run dc _ s)
  | blankingEnd dc current => exact .of_run (onDriving_run dc _ s)
  | overcurrentRise dc => exact .of_run (onDriving_run dc _ s)
  | overcurrentFall dc => exact .of_run (onDriving_run dc (fun c _ => { c with deglitchTimer := none }) s)
  | testEnd current => exact .of_run (endTest_run current s)
  | expansionComplete => exact .of_run (completeExpansion_run s)
  | segmentsSent k => exact .of_run (sendCheckCall_run k s)
  | moduleAnswer k position b l => exact .of_run (collectAnswer_run k _ s)
  | endOfChecking k taken => exact (closeChecking_weavingNotEntered k s).causing taken
  | enczFall => exact .of_run (indexFall_run s)
  | _ => exact (WeavingNotEntered.refl s).linked (commandEffect_linkOnly _ rfl s)

/-- START's effect enters WEAVING from a state that meets its conditions, or not at all. -/
theorem commandEffect_start_cases (taken : CausesTaken) (s : State) :
    WeavingNotEntered s (commandEffect (.start taken) s) ∨
      s.MayStart ∧ (commandEffect (.start taken) s).run.permitted = true :=
  takeFrame_preserves (P := fun u => u.run = s.run ∧ u.stk = s.stk ∧ u.drv = s.drv)
    (Q := fun t => WeavingNotEntered s t ∨ s.MayStart ∧ t.run.permitted = true) (fun _ _ => id)
    (fun _ ⟨hrun, _, _⟩ => .inl (.of_run hrun))
    (fun p u ⟨hrun, hstk, hdrv⟩ =>
      (takeStart_cases taken p u).imp (WeavingNotEntered.of_run hrun).trans fun ⟨⟨hstopped, hhomed, hstill, htest⟩, hpermit⟩ =>
        ⟨⟨hrun ▸ hstopped, hstk ▸ hhomed, hstk ▸ hstill, hdrv ▸ htest⟩, hpermit⟩)
    .start ⟨rfl, rfl, rfl⟩

/-- 11 R199, 10 R184: a command has no effect, or its own, after which an IDLE transmitter may begin a frame. -/
theorem command_cases {f : State → State} {s t : State} (h : command f s = .next t) :
    t = s ∨ t = kickTransmitter (f { s with lineOut := [] }) := by
  unfold command at h
  split at h <;> cases h
  · exact .inl rfl
  · exact .inr rfl

theorem kickTransmitter_weavingNotEntered (s : State) : WeavingNotEntered s (kickTransmitter s) := .of_run (by simp)

/-- 11 R199, R200: the commands of the reset line lead to OFFLINE with the permit dropped, or change nothing of RUN. -/
theorem exec_ofResetLine_weavingNotEntered {c : Instr} (hc : Instr.ofResetLine c = true) {s t : State}
    (h : exec c s = .next t) : WeavingNotEntered s t := by
  have hreset (u : State) (hu : u.run = Run.hardReset) : WeavingNotEntered s u :=
    ⟨fun _ => by rw [hu]; rfl, fun hw => by rw [hu] at hw; cases hw⟩
  cases c with
  | hardReset =>
    cases h
    exact hreset _ rfl
  | resetRelease =>
    simp only [exec, execResetRelease] at h
    split at h <;> cases h
    · exact hreset _ (by simp [State.reset])
    · exact .of_run rfl
  | _ => simp [Instr.ofResetLine] at hc

/-- 09 R159 to R161: a command does not enter WEAVING, or it is START, from a state that meets its conditions. -/
theorem exec_weaving_cases {c : Instr} {s t : State} (h : exec c s = .next t) :
    WeavingNotEntered s t ∨ (∃ taken, c = .start taken) ∧ s.MayStart ∧ t.run.permitted = true := by
  by_cases hline : Instr.ofResetLine c = true
  · exact .inl (exec_ofResetLine_weavingNotEntered hline h)
  rw [exec_eq_command c s (by simpa using hline)] at h
  obtain rfl | rfl := command_cases h
  · exact .inl (.refl _)
  have hbegin : WeavingNotEntered s { s with lineOut := [] } := .of_run rfl
  by_cases hstart : ∃ taken, c = .start taken
  · obtain ⟨taken, rfl⟩ := hstart
    obtain heff | ⟨⟨hstopped, hhomed, hstill, htest⟩, hpermit⟩ := commandEffect_start_cases taken { s with lineOut := [] }
    · exact .inl ((hbegin.trans heff).trans (kickTransmitter_weavingNotEntered _))
    · exact .inr ⟨⟨taken, rfl⟩, ⟨hstopped, hhomed, hstill, htest⟩,
        (kickTransmitter_weavingNotEntered _).permitted hpermit⟩
  · have heff := commandEffect_weavingNotEntered c (fun taken hc => hstart ⟨taken, hc⟩) { s with lineOut := [] }
    exact .inl ((hbegin.trans heff).trans (kickTransmitter_weavingNotEntered _))

theorem finishWaiting_weavingNotEntered (s : State) : WeavingNotEntered s (finishWaiting s) := by
  unfold finishWaiting
  split
  · exact .refl s
  · have hbegin : WeavingNotEntered s { s with lineOut := [] } := .of_run rfl
    have hchosen : WeavingNotEntered s (setChoiceWait 0 (drain { s with lineOut := [] })) :=
      (hbegin.causing .every).trans (.of_run rfl)
    exact hchosen.trans (kickTransmitter_weavingNotEntered _)

/-- Settles O51: every change of run state drives the permit, and nothing else touches either. -/
theorem permitFollowsTheRunState : Obligations.PermitFollowsTheRunState := by
  intro s t h hs
  unfold step at hs
  split at hs
  · cases hs
    exact (finishWaiting_weavingNotEntered s).permitted h
  · obtain hkept | ⟨-, -, hpermit⟩ := exec_weaving_cases hs
    · exact hkept.permitted h
    · exact hpermit

/-- Settles O59: START alone leads into WEAVING, past its four conditions. -/
theorem onlyStartEntersWeaving : Obligations.OnlyStartEntersWeaving := by
  intro c s t h hw hs
  obtain hkept | ⟨hstart, ⟨hstopped, hhomed, hstill, htest⟩, -⟩ := exec_weaving_cases h
  · exact absurd (hkept.weaving hw) hs
  · exact ⟨hstart, hstopped, hhomed, hstill, htest⟩

/-! ### START refused (09 R164) -/

/-- Settles O17: the first condition of START that is not met is answered, and nothing else is done. -/
theorem startIsRefused : Obligations.StartIsRefused := by
  intro s p rest taken h
  have refused {r : Result} (he : takeStart taken p (headTaken rest s) = answerCommand 3 r [] (headTaken rest s)) :
      Answered (.start taken) (commandAnswer 3 r []) rest s := answered_command h (eff := takeStart taken) rfl he
  refine ⟨fun hno => refused ?state, fun hs hno => refused ?homing, fun hs hh hm => refused ?moving,
    fun hs hh hm hbusy => refused ?busy⟩
  case state => simp [takeStart, hno]
  case homing => simp [takeStart, hs, hno]
  case moving => simp [takeStart, hs, hh, hm]
  case busy => simp [takeStart, hs, hh, hm, Option.isSome_iff_ne_none.mpr hbusy]

end Sys2Proof.Machine

namespace Sys2Proof.Machine

/-! ### The causes that wait (09 R167 to R173) -/

theorem post_choiceWait (d : Dlp) (e : Event) (n : Nat) :
    ({ d.post e with choiceWait := n } : Dlp) = ({ d with choiceWait := n } : Dlp).post e := by
  unfold Dlp.post
  dsimp only
  split <;> rfl

theorem posts_choiceWait (d : Dlp) (es : List Event) (n : Nat) :
    ({ d.posts es with choiceWait := n } : Dlp) = ({ d with choiceWait := n } : Dlp).posts es := by
  induction es generalizing d with
  | nil => rfl
  | cons e es ih => exact (ih (d.post e)).trans (by rw [post_choiceWait]; rfl)

@[simp] theorem withHanded_frame (l : List Cause) (s : State) :
    (withHanded l s).pending = s.pending ∧ (withHanded l s).resetLine = s.resetLine ∧
    (withHanded l s).lineOut = s.lineOut ∧ (withHanded l s).dlp = s.dlp ∧ (withHanded l s).tbm = s.tbm ∧
    (withHanded l s).psq = s.psq ∧ (withHanded l s).shb = s.shb ∧ (withHanded l s).hci = s.hci ∧
    (withHanded l s).stk = s.stk ∧ (withHanded l s).asc = s.asc ∧ (withHanded l s).wfm = s.wfm ∧
    (withHanded l s).drv = s.drv ∧ (withHanded l s).run = { s.run with handed := l } :=
  ⟨rfl, rfl, rfl, rfl, rfl, rfl, rfl, rfl, rfl, rfl, rfl, rfl, rfl⟩

/-- The state in which RUN takes a cause that waited: the lines idle, `l` waiting still. -/
def stillWaiting (l : List Cause) (s : State) : State := withHanded l { s with lineOut := [] }

@[simp] theorem stillWaiting_frame (l : List Cause) (s : State) :
    (stillWaiting l s).pending = s.pending ∧ (stillWaiting l s).resetLine = s.resetLine ∧
    (stillWaiting l s).lineOut = [] ∧ (stillWaiting l s).dlp = s.dlp ∧ (stillWaiting l s).tbm = s.tbm ∧
    (stillWaiting l s).psq = s.psq ∧ (stillWaiting l s).shb = s.shb ∧ (stillWaiting l s).hci = s.hci ∧
    (stillWaiting l s).stk = s.stk ∧ (stillWaiting l s).asc = s.asc ∧ (stillWaiting l s).wfm = s.wfm ∧
    (stillWaiting l s).drv = s.drv ∧ (stillWaiting l s).run = { s.run with handed := l } :=
  ⟨rfl, rfl, rfl, rfl, rfl, rfl, rfl, rfl, rfl, rfl, rfl, rfl, rfl⟩

theorem stillWaiting_loomEvent (l : List Cause) (s : State) : LoomEvent s (stillWaiting l s) :=
  .of_same rfl rfl rfl rfl rfl rfl

/-- The state an empty queue leaves once the causes waiting are taken, which leaves `u`: the choice held back is made. -/
def finished (u : State) : State := kickTransmitter (setChoiceWait 0 u)

@[simp] theorem finished_frame (u : State) :
    (finished u).pending = u.pending ∧ (finished u).resetLine = u.resetLine ∧ (finished u).lineOut = u.lineOut ∧
    (finished u).tbm = u.tbm ∧ (finished u).psq = u.psq ∧ (finished u).shb = u.shb ∧ (finished u).hci = u.hci ∧
    (finished u).stk = u.stk ∧ (finished u).asc = u.asc ∧ (finished u).wfm = u.wfm ∧ (finished u).drv = u.drv ∧
    (finished u).run = u.run := by
  simp [finished]

/-- 09 R173, log 16: on an empty queue RUN takes the one cause that waits. -/
theorem step_takes_cause {s : State} {c : Cause} (hpending : s.pending = []) (hready : s.Ready)
    (hone : s.run.handed = [c]) : step s = .next (finished (takeCause (stillWaiting [] s) c)) := by
  have hdrain : drain { s with lineOut := [] } = takeCause (stillWaiting [] s) c :=
    drain_of_one { s with lineOut := [] } c hone
  have hfinish : finishWaiting s = finished (takeCause (stillWaiting [] s) c) := by
    rw [finishWaiting, if_neg (by simp [hready, hone]), hdrain]
    rfl
  simp only [step, hpending, hfinish]

theorem finished_undisturbed {s u : State} (h : Undisturbed s u) : Undisturbed s (finished u) := by
  refine undisturbed_kick ?_
  simpa [Undisturbed] using h

theorem finished_link {s u : State} {es : List Event} (h : u.dlp = s.dlp.posts es) :
    LinkLeft (({ s.dlp with choiceWait := 0 } : Dlp).posts es) (finished u) :=
  linkLeft_of (by rw [setChoiceWait_dlp, h]; exact posts_choiceWait s.dlp es 0)

theorem finished_newRequired (u : State) : (finished u).newRequired = u.newRequired := by
  apply newRequired_congr <;> simp

theorem finished_armedPart (u : State) : (finished u).armedPart = u.armedPart := armedPart_congr (by simp)

/-- A cause that waited disturbs nothing of what no event of the loom changes, and leaves the tracker. -/
theorem finished_takeCause_leaves (s : State) (c : Cause) :
    let t := finished (takeCause (stillWaiting [] s) c)
    Undisturbed s t ∧ t.stk = s.stk :=
  ⟨finished_undisturbed ((stillWaiting_loomEvent [] s).trans (takeCause_loomEvent _ c)).undisturbed,
    by simp [takeCause_stk]⟩

/-- 09 R168, R171: a cause that waited, taken where it changes no state. -/
theorem finished_laterCause_leaves (s : State) (c : Cause) :
    let t := finished (laterCause c (stillWaiting [] s))
    ChangedOnly [.dlp, .run] s t ∧ t.run = { s.run with handed := [], lastLater := some c } ∧
      LinkLeft
        (({ s.dlp with choiceWait := 0 } : Dlp).post
          (.runState s.run.state s.run.state s.run.firstStop s.run.haltCause (some c))) t :=
  ⟨by simp [ChangedOnly], by simp, finished_link (es := [_]) (by simp [Dlp.posts])⟩

/-- 04 R76: the change of run state evaluates the required pick. -/
theorem changeState_requiredInForce (st : RunState) (s : State) : (changeState st s).requiredInForce = true := by
  refine (requiredInForce_iff _).mpr ?_
  simp only [changeState, postRunState_frame, settle_required]
  exact (newRequired_congr (by simp) (by simp) (by simp) (by simp)).symm

/-- 09 R167, R169, 06 R119: a stop cause that ends WEAVING removes the armed part, and the required pick is evaluated. -/
theorem takeStop_weaving_settles {u : State} (hw : u.run.state = .weaving) (c : StopCause) :
    (takeStop c u).armedPart = none ∧ (takeStop c u).hci.required = (takeStop c u).newRequired := by
  obtain ⟨-, hsnapshot, -⟩ := takeStop_weaving_leaves hw c
  constructor
  · rw [State.armedPart, hsnapshot]
    cases u.asc.snapshot <;> rfl
  · rw [← requiredInForce_iff]
    simp only [takeStop, hw, if_true]
    split <;> exact changeState_requiredInForce _ _

/-- 09 R170, 06 R119, 08 R152: what a halting cause taken in STOPPED, WEAVING or STOPPING leaves of the shed and of the
channels, and, from STOPPED or STOPPING, of the blocks that WEAVING alone uses. -/
theorem takeHalt_halts_settles {u : State} (hoff : u.run.state ≠ .offline) (hhalted : u.run.state ≠ .halted)
    (c : HaltCause) :
    (takeHalt c u).hci.required = none ∧ (takeHalt c u).hci.tag = u.hci.tag ∧
      (∀ dc : DriverIdx, (takeHalt c u).drv.channels[dc] = (u.drv.channels[dc]).switchedOff) ∧
      (takeHalt c u).drv.test = u.drv.test ∧
      (u.run.state = .weaving →
        (takeHalt c u).wfm = { u.wfm with window := none, capture := none, watch := none }) ∧
      (u.run.state ≠ .weaving →
        (takeHalt c u).psq = u.psq ∧ (takeHalt c u).asc = u.asc ∧ (takeHalt c u).wfm = u.wfm) := by
  rw [takeHalt_halts c u hoff hhalted]
  refine ⟨changeState_required _ _ (by simp), by simp [changeState_tag], by simp, by simp, fun hw => by simp [hw],
    fun hw => ⟨by simp [hw], congrArg Asc.mk (by simp [hw]), by simp [hw]⟩⟩

/-- 09 R173: of two causes waiting RUN takes the one handed second first, and the other after it. -/
theorem takeCauses_second_first {u : State} {first second : Cause} (h : u.run.handed = [first, second]) :
    takeCauses (.only [1, 0]) u = takeCause (withHanded [] (takeCause (withHanded [first] u) second)) first := by
  have hsecond : takeAt u 1 = takeCause (withHanded [first] u) second := by
    simp only [takeAt, h]
    rfl
  have hleft : (takeCause (withHanded [first] u) second).run.handed = [first] := takeCause_handed _ _
  calc takeCauses (.only [1, 0]) u
      = takeAt (takeCause (withHanded [first] u) second) 0 := congrArg (takeAt · 0) hsecond
    _ = takeCause (withHanded [] (takeCause (withHanded [first] u) second)) first := by
      simp only [takeAt, hleft]
      rfl

/-- 08 R147: the deglitch time of a channel that is not driving cannot run out. -/
theorem deglitchEnds_idle {s : State} {dc : DriverIdx} (h : (s.drv.channels[dc]).phase.driving = false) :
    deglitchEnds dc s = s := by
  simp only [deglitchEnds]
  exact if_neg fun ⟨hdriving, _⟩ => Bool.false_ne_true (h.symm.trans hdriving)

/-- Two causes waiting, and no other event than RUN's taking of the second and then of the first. -/
theorem exec_takes_second_first {s : State} {dc : DriverIdx} {first second : Cause} (hready : s.Ready)
    (hidle : (s.drv.channels[dc]).phase.driving = false) (htwo : s.run.handed = [first, second]) :
    exec (.deglitchEnd dc (.only [1, 0])) s =
      .next (kickTransmitter (takeCause (withHanded [] (takeCause (stillWaiting [first] s) second)) first)) := by
  refine (causing_high (.only [1, 0]) (deglitchEnds dc) s hready).trans ?_
  rw [deglitchEnds_idle (s := { s with lineOut := [] }) hidle, takeCauses_second_first (u := { s with lineOut := [] }) htwo]
  rfl

/-- 09 R167, R173: a stop cause handed second, taken in WEAVING while the shaft moves and before the one handed
first, leads to STOPPING, in which the other is taken. -/
theorem secondStop_taken_leaves {s : State} (hw : s.run.state = .weaving) (hm : s.stk.motion = .moving) (first : Cause)
    (b : StopCause) :
    let v := withHanded [] (takeCause (stillWaiting [first] s) (.stop b))
    v.run = { s.run with handed := [], state := .stopping, permit := false, firstStop := some b } ∧
      v.dlp = s.dlp.post (.runState .stopping .weaving (some b) s.run.haltCause none) := by
  obtain ⟨hrun, hdlp⟩ := takeStop_moving_leaves (u := stillWaiting [first] s) hw hm b
  exact ⟨by simp [takeCause, hrun], hdlp⟩

/-! #### The statement -/

/-- Settles O3: RUN's taking of a waiting cause is that of a stop or halting cause, and of two it is the taking of one
after the other. -/
theorem waitingCausesAreTaken : Obligations.WaitingCausesAreTaken := by
  refine ⟨fun s c hpending hready hone => ?stop, fun s c hpending hready hone => ?halt,
    fun s dc first second hready hidle hw hm htwo => ?two⟩
  case stop =>
    intro link
    obtain ⟨hundisturbed, hstk⟩ := finished_takeCause_leaves s (.stop c)
    refine ⟨_, step_takes_cause hpending hready hone, hundisturbed, hstk, fun hno => ?_, fun hw => ?_⟩
    · rw [takeCause, takeStop_later c _ (by simpa using hno)]
      exact finished_laterCause_leaves s (.stop c)
    · have hw' : (stillWaiting [] s).run.state = .weaving := hw
      obtain ⟨hpsq, -, hwfm, hchannels, htest⟩ := takeStop_weaving_leaves hw' c
      obtain ⟨harmed, hrequired⟩ := takeStop_weaving_settles hw' c
      rw [takeCause, finished_armedPart, finished_newRequired]
      refine ⟨by simpa using hpsq, harmed, by simpa using hwfm, by simpa using hrequired,
        fun dc => by simpa using hchannels dc, by simpa using htest, fun hm => ?_, fun hm => ?_⟩
      · obtain ⟨hrun, hdlp⟩ := takeStop_moving_leaves hw' hm c
        exact ⟨by simp [hrun], finished_link (es := [_]) hdlp⟩
      · obtain ⟨hrun, hdlp⟩ := takeStop_still_leaves hw' hm c
        exact ⟨by simp [hrun], finished_link hdlp⟩
  case halt =>
    intro link
    obtain ⟨hundisturbed, hstk⟩ := finished_takeCause_leaves s (.halt c)
    refine ⟨_, step_takes_cause hpending hready hone, hundisturbed, hstk, fun hout => ?_, fun hoff hhalted => ?_⟩
    · rw [takeCause, takeHalt_later c _ (by simpa using hout)]
      exact finished_laterCause_leaves s (.halt c)
    · have hoff' : (stillWaiting [] s).run.state ≠ .offline := hoff
      have hhalted' : (stillWaiting [] s).run.state ≠ .halted := hhalted
      obtain ⟨hrun, htarget, hdlp⟩ := takeHalt_halts_leaves hoff' hhalted' c
      obtain ⟨hrequired, htag, hchannels, htest, hweaving, hother⟩ := takeHalt_halts_settles hoff' hhalted' c
      rw [takeCause, finished_armedPart]
      refine ⟨by simp [hrun], by simpa using htarget, by simpa using hrequired, by simpa using htag, fun hw => ?_,
        fun hno => by simpa using hother hno, fun dc => by simpa using hchannels dc, by simpa using htest,
        finished_link (es := [_]) hdlp⟩
      obtain ⟨hpsq, harmed, -⟩ := takeHalt_weaving_leaves (u := stillWaiting [] s) hw c
      exact ⟨by simpa using hpsq, harmed, by simpa using hweaving hw⟩
  case two =>
    refine ⟨_, exec_takes_second_first hready hidle htwo, fun a b hfirst hsecond => ?_, fun a b hfirst hsecond => ?_⟩
    all_goals
      obtain ⟨hrun, hdlp⟩ := secondStop_taken_leaves hw hm first b
      subst hfirst hsecond
      generalize withHanded [] (takeCause _ _) = v at hrun hdlp ⊢
      rw [takeCause]
    · rw [takeStop_later a v (by simp [hrun])]
      exact ⟨by simp [hrun], linkLeft_of (by simp [hrun, hdlp, Dlp.posts])⟩
    · obtain ⟨hrun', -, hdlp'⟩ := takeHalt_halts_leaves (u := v) (by simp [hrun]) (by simp [hrun]) a
      exact ⟨by simp [hrun', hrun], linkLeft_of (by simp [hdlp', hrun, hdlp, Dlp.posts])⟩

end Sys2Proof.Machine


/-! ## The bounds of the link and the queue of commands -/

namespace Sys2Proof.Machine

/-! ### What keeps the link in its bounds (10 R180, R183) -/

theorem Dlp.bounded_iff (d : Dlp) :
    d.bounded = true ↔ d.usedPlaces ≤ 2 ∧ d.events.length ≤ 32 ∧ d.linkErrors ≤ 65535 := by
  simp only [Dlp.bounded, Bool.and_eq_true, decide_eq_true_eq, and_assoc]
  exact Iff.rfl

theorem Dlp.usedPlaces_eq {d d' : Dlp} (hh : d'.held = d.held) (hr : d'.receiver = d.receiver) :
    d'.usedPlaces = d.usedPlaces := by
  rw [Dlp.usedPlaces, Dlp.usedPlaces, hh, hr]

/-- 10 R183: a record is posted into a queue that has a free place, or lost. -/
theorem Dlp.post_bounded (e : Event) {d : Dlp} (h : d.bounded = true) : (d.post e).bounded = true := by
  obtain ⟨hplaces, hevents, herrors⟩ := d.bounded_iff.mp h
  obtain ⟨hreceiver, hheld, -, hcount, -⟩ := dlp_post_frame e d
  refine (Dlp.bounded_iff _).mpr ⟨by rwa [Dlp.usedPlaces_eq hheld hreceiver], ?_, by rwa [hcount]⟩
  unfold Dlp.post
  split
  · rename_i hfree
    rw [List.length_append]
    exact hfree
  · exact hevents

/-- From `s` to `t` the queue of commands stays, and the link keeps its bounds. -/
structure LinkKept (s t : State) : Prop where
  pending : t.pending = s.pending
  bounded : s.dlp.bounded = true → t.dlp.bounded = true

namespace LinkKept

variable {s t u : State}

theorem of_same (hp : t.pending = s.pending) (hd : t.dlp = s.dlp) : LinkKept s t := ⟨hp, by rw [hd]; exact id⟩

theorem refl (s : State) : LinkKept s s := ⟨rfl, id⟩

theorem trans (h1 : LinkKept s t) (h2 : LinkKept t u) : LinkKept s u :=
  ⟨h2.pending.trans h1.pending, fun h => h2.bounded (h1.bounded h)⟩

/-- What comes after a change that the link does not see. -/
theorem after (h2 : LinkKept t u) (h1 : LinkKept s t) : LinkKept s u := h1.trans h2

theorem foldl {β : Type} {f : State → β → State} (h : ∀ s x, LinkKept s (f s x)) (l : List β) (s : State) :
    LinkKept s (l.foldl f s) := by
  induction l generalizing s with
  | nil => exact refl s
  | cons x xs ih => exact (h s x).trans (ih _)

end LinkKept

theorem post_linkKept (e : Event) (s : State) : LinkKept s (post e s) where
  pending := by simp
  bounded h := by
    rw [post_dlp]
    exact Dlp.post_bounded e h

theorem hand_linkKept (c : Cause) (s : State) : LinkKept s (hand c s) := ⟨rfl, id⟩

theorem answerCommand_linkKept (code : Nat) (r : Result) (data : List Byte) (s : State) :
    LinkKept s (answerCommand code r data s) := ⟨rfl, id⟩

theorem answerTable_linkKept (p : List Byte) (r : Result) (data : List Byte) (s : State) :
    LinkKept s (answerTable p r data s) := ⟨rfl, id⟩

theorem answerQuery_linkKept (selector : Nat) (content : List Byte) (s : State) :
    LinkKept s (answerQuery selector content s) := ⟨rfl, id⟩

theorem LinkKept.answered {s t : State} (h : LinkKept s t) (code : Nat) (r : Result) (data : List Byte) :
    LinkKept s (answerCommand code r data t) := h.trans (answerCommand_linkKept code r data t)

/-! ### The receiver and the transmitter -/

/-- A receiver that has no place filling takes none. -/
theorem setReceiver_linkKept {r : Receiver} (h : r.filling = false) (s : State) : LinkKept s (setReceiver r s) where
  pending := rfl
  bounded hs := by
    obtain ⟨hplaces, hevents, herrors⟩ := (Dlp.bounded_iff _).mp hs
    refine (Dlp.bounded_iff _).mpr ⟨?_, hevents, herrors⟩
    simp only [Dlp.usedPlaces, setReceiver_dlp, h] at hplaces ⊢
    exact Nat.le_trans (Nat.le_add_right _ _) hplaces

theorem linkError_linkKept (k : LinkErrorKind) (b : Option Byte) (s : State) : LinkKept s (linkError k b s) := by
  have hcount : LinkKept s { s with dlp := { s.dlp with linkErrors := satInc max16 s.dlp.linkErrors } } := by
    refine ⟨rfl, fun h => ?_⟩
    obtain ⟨hplaces, hevents, herrors⟩ := (Dlp.bounded_iff _).mp h
    exact (Dlp.bounded_iff _).mpr ⟨hplaces, hevents, satInc_le herrors⟩
  exact hcount.trans (post_linkKept _ _)

theorem discardFrame_linkKept (k : LinkErrorKind) (bytes : List Byte) (s : State) :
    LinkKept s (discardFrame k bytes s) :=
  (setReceiver_linkKept rfl s).trans (linkError_linkKept _ _ _)

/-- 10 R178, R180: a complete frame stays in the place it has filled. -/
theorem judgeFrame_linkKept {s : State} {before : List Byte} (h : s.dlp.receiver = .receiving before)
    (bytes : List Byte) : LinkKept s (judgeFrame bytes s) := by
  simp only [judgeFrame]
  split
  · exact discardFrame_linkKept _ _ s
  · split
    · exact discardFrame_linkKept _ _ s
    · refine ⟨rfl, fun hs => ?_⟩
      obtain ⟨hplaces, hevents, herrors⟩ := (Dlp.bounded_iff _).mp hs
      refine (Dlp.bounded_iff _).mpr ⟨?_, hevents, herrors⟩
      simpa [Dlp.usedPlaces, h, Receiver.filling] using hplaces

theorem receiveInFrame_linkKept {s : State} {before : List Byte} (h : s.dlp.receiver = .receiving before)
    (bytes : List Byte) (l : Level) : LinkKept s (receiveInFrame bytes l s) := by
  unfold receiveInFrame
  repeat' split
  · exact discardFrame_linkKept _ _ s
  · exact discardFrame_linkKept _ _ s
  · exact judgeFrame_linkKept h _
  · refine ⟨rfl, fun hs => ?_⟩
    obtain ⟨hplaces, hevents, herrors⟩ := (Dlp.bounded_iff _).mp hs
    refine (Dlp.bounded_iff _).mpr ⟨?_, hevents, herrors⟩
    simpa [Dlp.usedPlaces, h, Receiver.filling] using hplaces

/-- 10 R180: a frame begins in a free place, or is passed over. -/
theorem huntByte_linkKept (b : Byte) (l : Level) (s : State) : LinkKept s (huntByte b l s) := by
  unfold huntByte
  repeat' split
  · rename_i hfree
    refine ⟨rfl, fun hs => ?_⟩
    obtain ⟨-, hevents, herrors⟩ := (Dlp.bounded_iff _).mp hs
    exact (Dlp.bounded_iff _).mpr ⟨hfree, hevents, herrors⟩
  · exact (setReceiver_linkKept (r := .passingOver 0 0) rfl s).trans (linkError_linkKept _ _ _)
  · exact .refl s

theorem passByte_linkKept (seen length : Nat) (b : Byte) (l : Level) (s : State) :
    LinkKept s (passByte seen length b l s) := by
  simp only [passByte]
  repeat' split
  all_goals exact setReceiver_linkKept rfl s

theorem receiveByte_linkKept (b : Byte) (l : Level) (s : State) : LinkKept s (receiveByte b l s) := by
  unfold receiveByte
  split
  · exact .refl s
  · exact huntByte_linkKept b l s
  · exact receiveInFrame_linkKept ‹_› _ l
  · exact passByte_linkKept _ _ b l s

theorem byteGap_linkKept (s : State) : LinkKept s (byteGap s) := by
  unfold byteGap
  split
  · exact .refl s
  · exact .refl s
  · exact discardFrame_linkKept _ _ s
  · exact setReceiver_linkKept rfl s

theorem transmitEnd_linkKept (wait : Nat) (s : State) : LinkKept s (transmitEnd wait s) := by
  have hend (f : TxFrame) : LinkKept s (endFrame f s) := by
    simp only [endFrame]
    repeat' split
    · exact ⟨rfl, id⟩
    · exact ⟨rfl, id⟩
    · exact (setReceiver_linkKept (r := .hunt) rfl s).trans ⟨rfl, id⟩
    · exact ⟨rfl, id⟩
  unfold transmitEnd
  split
  · exact .refl s
  · exact (hend _).trans ⟨rfl, id⟩

/-- 10 R181: a frame taken leaves its place free. -/
theorem takeFrame_linkKept (row : FrameRow) {eff : List Byte → State → State} (he : ∀ p u, LinkKept u (eff p u))
    {s : State} : LinkKept s (takeFrame row eff s) := by
  unfold takeFrame
  split
  · exact .refl s
  · rename_i f rest hheld
    split
    · have hfreed : LinkKept s { s with dlp := { s.dlp with held := rest } } := by
        refine ⟨rfl, fun hs => ?_⟩
        obtain ⟨hplaces, hevents, herrors⟩ := (Dlp.bounded_iff _).mp hs
        refine (Dlp.bounded_iff _).mpr ⟨?_, hevents, herrors⟩
        simp only [Dlp.usedPlaces, hheld, List.length_cons] at hplaces ⊢
        omega
      exact hfreed.trans (he _ _)
    · exact .refl s

/-- 10 R183, R184: a record leaves the queue as its frame begins. -/
theorem beginFrame_linkKept (s : State) : LinkKept s (beginFrame s) := by
  unfold beginFrame
  repeat' split
  · exact ⟨rfl, id⟩
  · exact .refl s
  · rename_i hevents
    refine ⟨rfl, fun hs => ?_⟩
    obtain ⟨hplaces, hlength, herrors⟩ := (Dlp.bounded_iff _).mp hs
    refine (Dlp.bounded_iff _).mpr ⟨hplaces, ?_, herrors⟩
    rw [hevents, List.length_cons] at hlength
    exact Nat.le_of_succ_le hlength

theorem kickTransmitter_linkKept (s : State) : LinkKept s (kickTransmitter s) := by
  unfold kickTransmitter
  repeat' split
  · exact .refl s
  · exact LinkKept.trans (t := setChoiceWait 0 s) ⟨rfl, id⟩ (beginFrame_linkKept _)
  · exact ⟨rfl, id⟩

/-! ### RUN takes a cause -/

theorem changeState_linkKept (st : RunState) (s : State) : LinkKept s (changeState st s) where
  pending := by simp
  bounded h := by
    rw [changeState_dlp]
    exact Dlp.post_bounded _ h

theorem laterCause_linkKept (c : Cause) (s : State) : LinkKept s (laterCause c s) where
  pending := by simp
  bounded h := by
    rw [laterCause_dlp]
    exact Dlp.post_bounded _ h

theorem withRun_linkKept (r : Run) (s : State) : LinkKept s { s with run := r } := ⟨rfl, id⟩

theorem takeCause_linkKept (s : State) (c : Cause) : LinkKept s (takeCause s c) := by
  cases c with
  | stop c =>
    simp only [takeCause, takeStop]
    have hstopping := (withRun_linkKept { s.run with firstStop := some c } s).trans (changeState_linkKept .stopping _)
    repeat' split
    · exact hstopping.trans (changeState_linkKept .stopped _)
    · exact hstopping
    · exact laterCause_linkKept _ s
  | halt c =>
    simp only [takeCause, takeHalt]
    have hhalted := (withRun_linkKept { s.run with haltCause := some c } s).trans (changeState_linkKept .halted _)
    split
    · exact hhalted
    · exact hhalted
    · exact hhalted
    · exact laterCause_linkKept _ s
    · exact laterCause_linkKept _ s

theorem takeCauses_linkKept (taken : CausesTaken) (s : State) : LinkKept s (takeCauses taken s) :=
  takeCauses_preserves (LinkKept s) (fun u _ h => h.trans (withRun_linkKept _ u))
    (fun u c h => h.trans (takeCause_linkKept u c)) taken s (.refl s)

/-- An effect that keeps the link, and RUN's taking of causes after it. -/
theorem LinkKept.causing {s t : State} (h : LinkKept s t) (taken : CausesTaken) : LinkKept s (takeCauses taken t) :=
  h.trans (takeCauses_linkKept taken t)

/-! ### The handlings of a step -/

theorem settle_linkKept (s : State) : LinkKept s (settle s) := .of_same (by simp) (by simp)

theorem weftFault_linkKept (d : WeftDetail) (c : Ordinal → StopCause) (s : State) : LinkKept s (weftFault d c s) := by
  unfold weftFault
  split
  · exact .refl s
  · exact (hand_linkKept _ _).after ((post_linkKept _ _).after ⟨rfl, id⟩)

theorem judgeWindow_linkKept (s : State) : LinkKept s (judgeWindow s) := by
  unfold judgeWindow
  repeat' split
  · exact ⟨rfl, id⟩
  · exact (weftFault_linkKept _ _ s).trans ⟨rfl, id⟩
  · exact ⟨rfl, id⟩

theorem watchedBreak_linkKept (f : FeederIdx) (s : State) : LinkKept s (watchedBreak f s) := by
  simp only [watchedBreak]
  split
  · exact (weftFault_linkKept _ _ _).after ⟨rfl, id⟩
  · exact ⟨rfl, id⟩

theorem beginWatch_linkKept (line : Option FeederIdx) (s : State) : LinkKept s (beginWatch line s) := by
  simp only [beginWatch]
  repeat' split
  · exact .refl s
  · exact (watchedBreak_linkKept _ _).after ⟨rfl, id⟩
  · exact ⟨rfl, id⟩

theorem fireOne_linkKept (s : State) (j : Nat) : LinkKept s (fireOne s j) := by
  have hsend (a : ArmedPart) (x : ArmedAction) : LinkKept s (sendAction a j x s) := .of_same (by simp) (by simp)
  obtain he | ⟨a, x, -, -, he⟩ := fireOne_cases s j
  · rw [he]
    exact .refl s
  · rw [he]
    split
    · exact (hsend a x).trans (beginWatch_linkKept _ _)
    · exact hsend a x

theorem fireAction_linkKept (crosses : Nat → Bool) (i : Nat) (s : State) : LinkKept s (fireAction crosses i s) := by
  unfold fireAction
  split
  · exact .refl s
  · exact .foldl fireOne_linkKept _ s

theorem handClosing_linkKept (crosses : Nat → Bool) (s : State) : LinkKept s (handClosing crosses s) := by
  have hopening : LinkKept s (handOpening crosses s) := .of_same (by simp) (by simp)
  simp only [handClosing]
  repeat' split
  · exact hopening
  · exact (hopening.trans (.of_same (by simp) (by simp))).trans (judgeWindow_linkKept (setArmed _ _))
  · exact hopening

theorem requestLatch_linkKept (crosses : Nat → Bool) (dir : Direction) (s : State) :
    LinkKept s (requestLatch crosses dir s) := by
  have hmissed (e : Event) (c : Cause) :
      LinkKept s (if dir = .forward ∧ s.run.state = .weaving then hand c (post e s) else post e s) := by
    split
    · exact (post_linkKept e s).trans (hand_linkKept c _)
    · exact post_linkKept e s
  simp only [requestLatch, latchRequest]
  split
  · exact .refl s
  · split
    · split
      · exact hmissed _ _
      · split
        · exact .of_same (by simp) (by simp)
        · exact hmissed _ _
    · exact .refl s

/-! #### The pick boundary -/

theorem retireCurrent_linkKept (s : State) : LinkKept s (retireCurrent s) := by
  unfold retireCurrent
  split
  · exact .refl s
  · exact (post_linkKept _ _).after (.of_same (by simp) (by simp))

theorem lowWaterAfterFill_linkKept (s : State) : LinkKept s (lowWaterAfterFill s) := by
  unfold lowWaterAfterFill
  split
  · exact (post_linkKept _ _).after ⟨rfl, id⟩
  · exact .refl s

theorem fillNext_linkKept (s : State) : LinkKept s (fillNext s) := by
  unfold fillNext
  repeat' split
  · exact .refl s
  · exact (lowWaterAfterFill_linkKept _).after ⟨rfl, id⟩
  · exact (lowWaterAfterFill_linkKept _).after ⟨rfl, id⟩
  · exact .refl s

theorem promote_linkKept (s : State) : LinkKept s (promote s) := by
  unfold promote
  exact (retireCurrent_linkKept s).trans ((fillNext_linkKept _).after ⟨rfl, id⟩)

theorem armCurrent_linkKept (advance : Nat → Nat) (s : State) : LinkKept s (armCurrent advance s) := by
  unfold armCurrent
  repeat' split
  · exact .refl s
  · exact ⟨rfl, id⟩
  · exact weftFault_linkKept _ _ s
  · exact weftFault_linkKept _ _ s
  · exact .of_same (by simp) (by simp)
  · exact weftFault_linkKept _ _ s

theorem armPromoted_linkKept (s : State) : LinkKept s (armPromoted s) := by
  unfold armPromoted
  split
  · exact armCurrent_linkKept _ s
  · exact .refl s

theorem forwardBoundary_linkKept (s : State) : LinkKept s (forwardBoundary s) := by
  unfold forwardBoundary
  repeat' split
  · exact .of_same (by simp) (by simp)
  · have hsnapshot : LinkKept s (forwardSnapshot (promote s)) :=
      (promote_linkKept s).trans (.of_same (by simp) (by simp))
    exact (hsnapshot.trans (armPromoted_linkKept _)).trans (settle_linkKept _)
  · exact .of_same (by simp) (by simp)

theorem backwardBoundary_linkKept (s : State) : LinkKept s (backwardBoundary s) := by
  simp only [backwardBoundary]
  split
  · exact (settle_linkKept _).after ((post_linkKept _ _).after (.of_same (by simp) (by simp)))
  · exact (post_linkKept _ _).after (.of_same (by simp) (by simp))

theorem handle_linkKept (c : StepInfo) (s : State) (h : Handling) : LinkKept s (handle c s h) := by
  cases h with
  | direction => exact .of_same (by simp [handle]) (by simp [handle])
  | release => exact .of_same (by simp [handle]) (by simp [handle])
  | boundary =>
    simp only [handle]
    split
    · exact forwardBoundary_linkKept s
    · exact backwardBoundary_linkKept s
  | keep => exact .of_same (by simp [handle]) (by simp [handle])
  | latch => exact requestLatch_linkKept _ _ s
  | fire i => exact fireAction_linkKept _ i s
  | windowOpen => exact .of_same (by simp [handle]) (by simp [handle])
  | windowClose => exact handClosing_linkKept _ s
  | indexMissing => exact (post_linkKept _ s).trans (hand_linkKept _ _)
  | reverse => exact hand_linkKept _ s

/-! ### The events of the loom -/

theorem lineChange_linkKept (line : EncLine) (elapsed : Nat) (order : List Nat) (taken : CausesTaken) (s : State) :
    LinkKept s (lineChange line elapsed order taken s) := by
  obtain he | ⟨m, l, -, he | ⟨dir, he⟩⟩ := lineChange_cases line elapsed order taken s
  · rw [he]
    exact .refl s
  · rw [he]
    exact ⟨rfl, id⟩
  · rw [he]
    exact runOrder_preserves (LinkKept s) _ (fun u x h => h.trans (handle_linkKept _ u x))
      (fun _ place h => h.causing (.only [place])) (fun _ h => h.causing .every) taken order _ _ ⟨rfl, id⟩

theorem illegalChange_linkKept (s : State) : LinkKept s (illegalChange s) := by
  simp only [illegalChange]
  split
  · exact (hand_linkKept _ _).after ((post_linkKept _ _).after ⟨rfl, id⟩)
  · exact .refl s

theorem takeIndex_linkKept (m : MachineRecord) (s : State) : LinkKept s (takeIndex m s) := by
  simp only [takeIndex]
  repeat' split
  · exact .refl s
  · exact (settle_linkKept _).after ((post_linkKept _ _).after ⟨rfl, id⟩)
  · exact ⟨rfl, id⟩
  · exact (hand_linkKept _ _).after ((post_linkKept _ _).after (.of_same (by simp) (by simp)))

theorem indexRise_linkKept (s : State) : LinkKept s (indexRise s) := by
  unfold indexRise
  split
  · exact (takeIndex_linkKept _ _).after ⟨rfl, id⟩
  · exact .refl s

theorem declareStandstill_linkKept (s : State) : LinkKept s (declareStandstill s) := by
  simp only [declareStandstill]
  repeat' split
  · exact (changeState_linkKept .stopped _).after ⟨rfl, id⟩
  · exact ⟨rfl, id⟩
  · exact .refl s

theorem feederBroken_linkKept (f : FeederIdx) (s : State) : LinkKept s (feederBroken f s) := by
  unfold feederBroken
  split
  · exact watchedBreak_linkKept f s
  · exact post_linkKept _ s

theorem acquireSensor_linkKept (x : Sensor) (l : Level) (s : State) : LinkKept s (acquireSensor x l s) := by
  unfold acquireSensor
  repeat' split
  · exact ⟨rfl, id⟩
  · exact .refl s
  · exact (feederBroken_linkKept _ _).after ⟨rfl, id⟩
  · exact ⟨rfl, id⟩
  · exact .refl s
  · exact .refl s

theorem feederBreaks_linkKept (f : FeederIdx) (s : State) : LinkKept s (feederBreaks f s) := by
  unfold feederBreaks
  split
  · exact (feederBroken_linkKept f _).after ⟨rfl, id⟩
  · exact .refl s

theorem arvRises_linkKept (s : State) : LinkKept s (arvRises s) := by
  unfold arvRises takeRise
  repeat' split
  all_goals exact ⟨rfl, id⟩

/-- 08 R148: a fault is posted, unless its mode or its flag passes over it. -/
theorem driverFault_linkKept (dc : DriverIdx) (k : DriverFaultKind) (s : State) : LinkKept s (driverFault dc k s) := by
  have hblocking (d : DriverSettings) (b : BlockKind) : LinkKept s (blockingFault dc k d b s) := by
    simp only [blockingFault, postDriverFault]
    exact (post_linkKept _ _).after (.of_same (by simp) (by simp))
  have hreport (cs : List DriverIdx) (u : State) : LinkKept u (blockReport cs u) := by
    simp only [blockReport]
    repeat' split
    · exact .refl u
    · exact weftFault_linkKept _ _ u
    · exact .refl u
  simp only [driverFault]
  repeat' split
  · exact .refl s
  · exact (hblocking _ _).trans (hand_linkKept _ _)
  · exact (hblocking _ _).trans (hreport _ _)
  · exact .refl s
  · exact (post_linkKept _ _).after ⟨rfl, id⟩
  · exact .refl s

theorem peakLimitEnds_linkKept (dc : DriverIdx) (s : State) : LinkKept s (peakLimitEnds dc s) := by
  simp only [peakLimitEnds]
  split
  · exact (driverFault_linkKept dc .openLoad _).after ⟨rfl, id⟩
  · exact .refl s

theorem deglitchEnds_linkKept (dc : DriverIdx) (s : State) : LinkKept s (deglitchEnds dc s) := by
  simp only [deglitchEnds]
  split
  · exact (driverFault_linkKept dc .overcurrent _).after ⟨rfl, id⟩
  · exact .refl s

theorem onDriving_linkKept (dc : DriverIdx) (f : DriverChannel → DriverSettings → DriverChannel) (s : State) :
    LinkKept s (onDriving dc f s) := by
  simp only [onDriving]
  repeat' split
  all_goals exact ⟨rfl, id⟩

theorem endTest_linkKept (current : Nat) (s : State) : LinkKept s (endTest current s) := by
  unfold endTest
  split
  · exact .refl s
  · exact (post_linkKept _ _).after ⟨rfl, id⟩

theorem completeExpansion_linkKept (s : State) : LinkKept s (completeExpansion s) := by
  unfold completeExpansion
  repeat' split
  · exact .of_same (by simp) (by simp)
  · exact .of_same (by simp) (by simp)
  · exact .refl s

theorem sendCheckCall_linkKept (k : ChainIdx) (s : State) : LinkKept s (sendCheckCall k s) := by
  cases hphase : (s.hci.chains[k]).phase with
  | shifting o =>
    rw [sendCheckCall_shifting hphase]
    exact ⟨rfl, id⟩
  | _ => simpa only [sendCheckCall, hphase] using .refl s

theorem collectAnswer_linkKept (k : ChainIdx) (x : AnswerChar) (s : State) : LinkKept s (collectAnswer k x s) := by
  simp only [collectAnswer]
  split <;> exact ⟨rfl, id⟩

theorem closeChecking_linkKept (k : ChainIdx) (s : State) : LinkKept s (closeChecking k s) := by
  have hjudged (o : Ordinal) (answers : List AnswerChar) : LinkKept s (checked k o answers s) := by
    rw [checked, ← posts_eq]
    exact (LinkKept.foldl (fun u e => post_linkKept e u) _ s).trans ⟨rfl, id⟩
  cases hphase : (s.hci.chains[k]).phase with
  | checking o answers =>
    rw [closeChecking_checking hphase]
    obtain he | ⟨c, he⟩ := applyChainFault_cases k (checked k o answers s)
    all_goals
      rw [he]
      exact (hjudged o answers).trans (.of_same (by simp) (by simp))
  | _ => simpa only [closeChecking, hphase] using .refl s

/-! ### The frames taken -/

theorem takePick_linkKept (p : List Byte) (s : State) : LinkKept s (takePick p s) := by
  have haccept (r : PickRecord) : LinkKept s (acceptPick r s) := by
    obtain ⟨hpending, -, hdlp, -⟩ := acceptPick_frame r s
    exact .of_same hpending hdlp
  unfold takePick
  repeat' split
  · exact post_linkKept _ s
  · exact post_linkKept _ s
  · exact post_linkKept _ s
  · exact post_linkKept _ s
  · exact haccept _
  · exact post_linkKept _ s

theorem checkedWrite_linkKept (p : List Byte) (ok : Bool) (checks : List FieldCheck) {write : State → State} {s : State}
    (hw : LinkKept s (write s)) : LinkKept s (checkedWrite p ok checks write s) := by
  obtain ⟨r, x, he⟩ | ⟨-, x, he⟩ := checkedWrite_cases p ok checks write s
  · rw [he]
    exact answerTable_linkKept _ _ _ s
  · rw [he]
    exact hw.trans (answerTable_linkKept _ _ _ _)

theorem patternTable_linkKept (p : List Byte) (ok : Bool) (checks : List FieldCheck) {write : State → State} {s : State}
    (hw : LinkKept s (write s)) : LinkKept s (patternTable p ok checks write s) := by
  obtain ⟨r, x, he⟩ | ⟨-, -, x, he⟩ := patternTable_cases p ok checks write s
  · rw [he]
    exact answerTable_linkKept _ _ _ s
  · rw [he]
    exact (hw.trans (.of_same (by simp) (by simp))).trans (answerTable_linkKept _ _ _ _)

theorem writeMachine_linkKept (m : MachineRecord) (s : State) : LinkKept s (writeMachine m s) := by
  obtain ⟨hpending, -, -, hdlp, -⟩ := writeMachine_frame m s
  exact .of_same hpending hdlp

theorem takeTableMachine_linkKept (p : List Byte) (s : State) : LinkKept s (takeTableMachine p s) :=
  patternTable_linkKept p _ _ (writeMachine_linkKept _ s)

theorem takeTableSections_linkKept (p : List Byte) (s : State) : LinkKept s (takeTableSections p s) :=
  patternTable_linkKept p _ _ (write := writeSection _ _) ⟨rfl, id⟩

theorem takeTableEffects_linkKept (p : List Byte) (s : State) : LinkKept s (takeTableEffects p s) :=
  patternTable_linkKept p _ _ (write := writeEffect _ _) ⟨rfl, id⟩

theorem takeTableWeaves_linkKept (p : List Byte) (s : State) : LinkKept s (takeTableWeaves p s) :=
  patternTable_linkKept p _ _ (write := writeWeave _ _) ⟨rfl, id⟩

theorem takeTableProfiles_linkKept (p : List Byte) (s : State) : LinkKept s (takeTableProfiles p s) :=
  checkedWrite_linkKept p _ _ (write := writeProfile _ _) ⟨rfl, id⟩

theorem takeTableWefts_linkKept (p : List Byte) (s : State) : LinkKept s (takeTableWefts p s) :=
  checkedWrite_linkKept p _ _ (write := writeWeft _ _) ⟨rfl, id⟩

theorem takeTableDrivers_linkKept (p : List Byte) (s : State) : LinkKept s (takeTableDrivers p s) :=
  checkedWrite_linkKept p _ _ (write := writeDriver _ _) ⟨rfl, id⟩

theorem takeArm_linkKept (p : List Byte) (s : State) : LinkKept s (takeArm p s) := by
  unfold takeArm
  repeat' split
  · exact answerCommand_linkKept _ _ _ s
  · exact (changeState_linkKept .stopped s).answered _ _ _
  · exact answerCommand_linkKept _ _ _ s

theorem takeDisarm_linkKept (p : List Byte) (s : State) : LinkKept s (takeDisarm p s) := by
  unfold takeDisarm
  split
  · exact (changeState_linkKept .offline s).answered _ _ _
  · exact answerCommand_linkKept _ _ _ s

theorem startWeaving_linkKept (s : State) : LinkKept s (startWeaving s) := by
  have hsnapshot (u : State) : LinkKept u (startSnapshot u) := by
    have hmade : LinkKept u (makeSnapshot .start (fun _ => 0) u) := .of_same (by simp) (by simp)
    simp only [startSnapshot]
    repeat' split
    · exact hmade
    · exact hmade.trans (armCurrent_linkKept _ _)
    · exact hmade
  have hchanged : LinkKept s (changeState .weaving (clearCauses s)) :=
    (changeState_linkKept .weaving _).after ⟨rfl, id⟩
  exact hchanged.trans (hsnapshot _)

theorem takeStart_linkKept (taken : CausesTaken) (p : List Byte) (s : State) : LinkKept s (takeStart taken p s) := by
  unfold takeStart
  repeat' split
  · exact answerCommand_linkKept _ _ _ s
  · exact answerCommand_linkKept _ _ _ s
  · exact answerCommand_linkKept _ _ _ s
  · exact answerCommand_linkKept _ _ _ s
  · have hweaving : LinkKept s (startWeaving (withHanded [] s)) := (startWeaving_linkKept _).after ⟨rfl, id⟩
    have hown : LinkKept s (takingOwn startWeaving s) := (hweaving.causing .every).trans (withRun_linkKept _ _)
    exact (hown.causing taken).answered _ _ _

theorem takeStopCommand_linkKept (taken : CausesTaken) (p : List Byte) (s : State) :
    LinkKept s (takeStopCommand taken p s) := by
  unfold takeStopCommand
  split
  · exact ((takeCause_linkKept s (.stop .stopCommand)).causing taken).answered _ _ _
  · exact answerCommand_linkKept _ _ _ s

theorem takeClear_linkKept (p : List Byte) (s : State) : LinkKept s (takeClear p s) := by
  unfold takeClear
  repeat' split
  · exact answerCommand_linkKept _ _ _ s
  · exact answerCommand_linkKept _ _ _ s
  · exact answerCommand_linkKept _ _ _ s
  · have hreleased : LinkKept s (releaseAll s) := .of_same (by simp) (by simp)
    exact (hreleased.trans (changeState_linkKept .stopped _)).answered _ _ _

theorem takeFlush_linkKept (p : List Byte) (s : State) : LinkKept s (takeFlush p s) := by
  unfold takeFlush
  split
  · exact LinkKept.answered (.of_same (by simp) (by simp)) _ _ _
  · exact answerCommand_linkKept _ _ _ s

theorem takeHome_linkKept (p : List Byte) (s : State) : LinkKept s (takeHome p s) := by
  unfold takeHome
  repeat' split
  · exact answerCommand_linkKept _ _ _ s
  · exact LinkKept.answered (.of_same (by simp) (by simp)) _ _ _
  · exact answerCommand_linkKept _ _ _ s

/-- 10 R188: SOFT_RESET empties the receive buffer and the event queue, and clears the count. -/
theorem takeSoftReset_linkKept (p : List Byte) (s : State) : LinkKept s (takeSoftReset p s) := by
  have hblocks : LinkKept s (softResetBlocks s) := ⟨by simp [softResetBlocks], fun _ => rfl⟩
  exact (hblocks.answered 8 .ok []).trans (post_linkKept _ _)

theorem takeOffstateTest_linkKept (p : List Byte) (s : State) : LinkKept s (takeOffstateTest p s) := by
  simp only [takeOffstateTest]
  repeat' split
  all_goals exact ⟨rfl, id⟩

theorem takeQueryModules_linkKept (p : List Byte) (s : State) : LinkKept s (takeQueryModules p s) := by
  unfold takeQueryModules
  split <;> exact ⟨rfl, id⟩

/-! ### Every command -/

theorem commandEffect_linkKept (c : Instr) (s : State) : LinkKept s (commandEffect c s) := by
  cases c with
  | hardReset => exact .refl s
  | resetRelease => exact .refl s
  | frameStart => exact receiveByte_linkKept _ _ s
  | frameReceived b l => exact receiveByte_linkKept b l s
  | dlrxByte b l => exact receiveByte_linkKept b l s
  | byteGapTimeout => exact byteGap_linkKept s
  | transmitFrameEnd wait => exact transmitEnd_linkKept wait s
  | pickFrame => exact takeFrame_linkKept .pick takePick_linkKept
  | tableMachine => exact takeFrame_linkKept (.table .machine) takeTableMachine_linkKept
  | tableSections => exact takeFrame_linkKept (.table .sections) takeTableSections_linkKept
  | tableEffects => exact takeFrame_linkKept (.table .effects) takeTableEffects_linkKept
  | tableWeaves => exact takeFrame_linkKept (.table .weaves) takeTableWeaves_linkKept
  | tableProfiles => exact takeFrame_linkKept (.table .profiles) takeTableProfiles_linkKept
  | tableWefts => exact takeFrame_linkKept (.table .wefts) takeTableWefts_linkKept
  | tableDrivers => exact takeFrame_linkKept (.table .drivers) takeTableDrivers_linkKept
  | tableUnknown => exact takeFrame_linkKept .tableUnknown (fun p t => answerTable_linkKept p .unknown [] t)
  | arm => exact takeFrame_linkKept .arm takeArm_linkKept
  | disarm => exact takeFrame_linkKept .disarm takeDisarm_linkKept
  | start taken => exact takeFrame_linkKept .start (takeStart_linkKept taken)
  | stop taken => exact takeFrame_linkKept .stop (takeStopCommand_linkKept taken)
  | clear => exact takeFrame_linkKept .clear takeClear_linkKept
  | flush => exact takeFrame_linkKept .flush takeFlush_linkKept
  | home => exact takeFrame_linkKept .home takeHome_linkKept
  | softReset => exact takeFrame_linkKept .softReset takeSoftReset_linkKept
  | queryRun => exact takeFrame_linkKept .queryRun (fun _ t => answerQuery_linkKept 1 (runContent t) t)
  | querySlots => exact takeFrame_linkKept .querySlots (fun _ t => answerQuery_linkKept 2 (slotsContent t) t)
  | queryTracker => exact takeFrame_linkKept .queryTracker (fun _ t => answerQuery_linkKept 3 (trackerContent t) t)
  | queryModules => exact takeFrame_linkKept .queryModules takeQueryModules_linkKept
  | queryDrivers => exact takeFrame_linkKept .queryDrivers (fun _ t => answerQuery_linkKept 5 (driversContent t) t)
  | queryCounters => exact takeFrame_linkKept .queryCounters (fun _ t => answerQuery_linkKept 6 (countersContent t) t)
  | queryUnknown => exact takeFrame_linkKept .queryUnknown (fun _ t => answerCommand_linkKept 9 .unknown [] t)
  | unknownCommand => exact takeFrame_linkKept .unknownCommand (eff := takeUnknownCommand) (fun _ _ => ⟨rfl, id⟩)
  | offstateTest => exact takeFrame_linkKept .offstateTest takeOffstateTest_linkKept
  | clearModuleFlags =>
    exact takeFrame_linkKept .clearModuleFlags (eff := fun _ u => answerCommand 11 .ok [] (clearSticky u))
      fun _ _ => ⟨rfl, id⟩
  | encoderLevelAcquired input l =>
    simp only [commandEffect, acquireLevel]
    split <;> exact ⟨rfl, id⟩
  | encoderStep line elapsed order taken => exact (lineChange_linkKept line elapsed order taken s).causing taken
  | illegalTransition taken => exact (illegalChange_linkKept s).causing taken
  | indexPulse taken => exact (indexRise_linkKept s).causing taken
  | standstill => exact declareStandstill_linkKept s
  | sensorLevelAcquired x l taken => exact (acquireSensor_linkKept x l s).causing taken
  | arvRise => exact arvRises_linkKept s
  | arvFall =>
    simp only [commandEffect, arvFalls]
    split <;> exact ⟨rfl, id⟩
  | feederBreak f taken => exact (feederBreaks_linkKept f s).causing taken
  | feederClear f =>
    simp only [commandEffect, feederClears]
    split <;> exact ⟨rfl, id⟩
  | peakLevelReached dc => exact onDriving_linkKept dc _ s
  | holdLevelReached dc => exact onDriving_linkKept dc _ s
  | directLoadReached dc => exact onDriving_linkKept dc _ s
  | chopOffTimeEnd dc current => exact onDriving_linkKept dc _ s
  | blankingEnd dc current => exact onDriving_linkKept dc _ s
  | overcurrentRise dc => exact onDriving_linkKept dc _ s
  | overcurrentFall dc => exact onDriving_linkKept dc (fun c _ => { c with deglitchTimer := none }) s
  | peakTimeLimitEnd dc taken => exact (peakLimitEnds_linkKept dc s).causing taken
  | deglitchEnd dc taken => exact (deglitchEnds_linkKept dc s).causing taken
  | testEnd current => exact endTest_linkKept current s
  | expansionComplete => exact completeExpansion_linkKept s
  | segmentsSent k => exact sendCheckCall_linkKept k s
  | moduleAnswer k position b l => exact collectAnswer_linkKept k _ s
  | endOfChecking k taken => exact (closeChecking_linkKept k s).causing taken
  | enczFall =>
    simp only [commandEffect, indexFall]
    split <;> exact ⟨rfl, id⟩

/-! ### The transmitter is not left IDLE with something to send (10 R184) -/

/-- The transmitter is busy, holds its choice back, or has nothing to send. -/
def Dlp.chosen (d : Dlp) : Prop := d.transmitter = none → d.choiceWait = 0 → d.answer = none ∧ d.events = []

theorem beginFrame_chosen (s : State) : (beginFrame s).dlp.chosen := by
  unfold beginFrame
  split
  · exact nofun
  · rename_i hanswer
    split
    · exact fun _ _ => ⟨hanswer, ‹_›⟩
    · exact nofun

theorem kickTransmitter_chosen (s : State) : (kickTransmitter s).dlp.chosen := by
  unfold kickTransmitter
  repeat' split
  · rename_i hbusy
    exact fun hidle => by simp [hidle] at hbusy
  · exact beginFrame_chosen _
  · rename_i hheld
    exact fun _ hzero => absurd (show s.dlp.choiceWait - 1 = 0 from hzero) (by omega)

/-! ### Every step -/

/-- A command answers a next state, keeps the queue and the link's bounds, and leaves the choice made. -/
theorem exec_linkKept (c : Instr) (s : State) :
    ∃ t, exec c s = .next t ∧ LinkKept s t ∧ (s.dlp.chosen → t.dlp.chosen) := by
  by_cases hline : Instr.ofResetLine c = true
  · cases c with
    | hardReset => exact ⟨_, rfl, ⟨rfl, fun _ => rfl⟩, fun _ _ _ => ⟨rfl, rfl⟩⟩
    | resetRelease =>
      simp only [exec, execResetRelease]
      split
      · have hreleased : LinkKept s { State.reset with pending := s.pending, resetLine := .high } :=
          ⟨rfl, fun _ => rfl⟩
        exact ⟨_, rfl, (hreleased.trans (post_linkKept _ _)).trans (kickTransmitter_linkKept _),
          fun _ => kickTransmitter_chosen _⟩
      · exact ⟨_, rfl, ⟨rfl, id⟩, id⟩
    | _ => simp [Instr.ofResetLine] at hline
  · rw [exec_eq_command c s (by simpa using hline), command]
    split
    · exact ⟨_, rfl, .refl s, id⟩
    · have heffect : LinkKept s (commandEffect c { s with lineOut := [] }) :=
        (commandEffect_linkKept c _).after ⟨rfl, id⟩
      exact ⟨_, rfl, heffect.trans (kickTransmitter_linkKept _), fun _ => kickTransmitter_chosen _⟩

theorem finishWaiting_linkKept (s : State) :
    LinkKept s (finishWaiting s) ∧ (s.dlp.chosen → (finishWaiting s).dlp.chosen) := by
  unfold finishWaiting
  split
  · exact ⟨.refl s, id⟩
  · have hdrained : LinkKept s (drain { s with lineOut := [] }) := 
      (takeCauses_linkKept .every _).after ⟨rfl, id⟩
    exact ⟨(kickTransmitter_linkKept _).after (hdrained.trans ⟨rfl, id⟩),
      fun _ => kickTransmitter_chosen _⟩

/-- Settles O52: every operation keeps the link in its bounds, and every command ends with the transmitter's choice. -/
theorem linkStaysBounded : Obligations.LinkStaysBounded := by
  intro s t held ⟨hbounded, hchosen⟩ hs
  unfold step at hs
  split at hs
  · cases hs
    obtain ⟨hkept, hchoice⟩ := finishWaiting_linkKept s
    exact ⟨hkept.bounded hbounded, hchoice hchosen⟩
  · rename_i c rest _
    obtain ⟨u, he, hkept, hchoice⟩ := exec_linkKept c { s with pending := rest }
    obtain rfl : u = t := Host.Outcome.next.inj (he.symm.trans hs)
    exact ⟨hkept.bounded hbounded, hchoice hchosen⟩

/-- Settles O2: every command ends in a next state with the queue as it was; with nothing waiting an empty queue
idles. -/
theorem everyStepAnswersANextState : Obligations.EveryStepAnswersANextState := by
  refine ⟨fun c s => ?_, fun s hpending hidle => ?_⟩
  · obtain ⟨t, he, hkept, -⟩ := exec_linkKept c s
    exact ⟨t, he, hkept.pending⟩
  · simp only [step, hpending, finishWaiting, if_pos hidle]

end Sys2Proof.Machine

/-! ## The design link: bytes received, frames sent, and the release of RESETn -/

namespace Sys2Proof.Machine

/-! ### The commands of the link -/

/-- The state in which a command takes its effect: nothing driven yet. -/
abbrev linesIdle (s : State) : State := { s with lineOut := [] }

/-- A command that is a matter of the link alone changes the link by its effect. -/
theorem exec_onLink {c : Instr} (hc : Instr.onLink c = true) {s : State} (hs : s.Ready) :
    ∃ t, exec c s = .next t ∧ ChangedOnly [.dlp] s t ∧ LinkLeft (commandEffect c (linesIdle s)).dlp t := by
  have hline : Instr.ofResetLine c = false := by
    cases c with
    | hardReset => simp [Instr.onLink] at hc
    | resetRelease => simp [Instr.onLink] at hc
    | _ => rfl
  obtain ⟨d, hd⟩ := commandEffect_linkOnly c hc (linesIdle s)
  refine ⟨_, (exec_eq_command c s hline).trans (command_high _ s hs), ?_, linkLeft_kick _⟩
  rw [hd]
  simp [ChangedOnly]

/-! ### The receiver (10 R177 to R180) -/

/-- 10 R179: the link as a link error leaves it, the receiver set to `r`. -/
def Dlp.erred (k : LinkErrorKind) (frameKind : Option Byte) (r : Receiver) (d : Dlp) : Dlp :=
  ({ d with receiver := r, linkErrors := satInc 65535 d.linkErrors } : Dlp).post
    (.linkError k frameKind (satInc 65535 d.linkErrors))

theorem linkError_dlp (k : LinkErrorKind) (frameKind : Option Byte) (r : Receiver) (s : State) :
    (linkError k frameKind (setReceiver r s)).dlp = s.dlp.erred k frameKind r := post_dlp _ _

theorem discardFrame_dlp (k : LinkErrorKind) (bytes : List Byte) (s : State) :
    (discardFrame k bytes s).dlp = s.dlp.erred k bytes.head? .hunt := linkError_dlp _ _ _ _

theorem receiveByte_closed {s : State} (h : s.dlp.receiver = .closed) (b : Byte) (l : Level) :
    receiveByte b l s = s := by
  simp only [receiveByte, h]

theorem receiveByte_hunt {s : State} (h : s.dlp.receiver = .hunt) (b : Byte) (l : Level) :
    receiveByte b l s = huntByte b l s := by
  simp only [receiveByte, h]

theorem receiveByte_receiving {s : State} {before : List Byte} (h : s.dlp.receiver = .receiving before) (b : Byte)
    (l : Level) : receiveByte b l s = receiveInFrame (before ++ [b]) l s := by
  simp only [receiveByte, h]

theorem receiveByte_passingOver {s : State} {seen length : Nat} (h : s.dlp.receiver = .passingOver seen length)
    (b : Byte) (l : Level) : receiveByte b l s = passByte seen length b l s := by
  simp only [receiveByte, h]

/-- 10 R177, R180: a start byte begins a frame in a free place. -/
theorem huntByte_begins {s : State} (h : s.dlp.held.length < 2) :
    huntByte startByte .high s = setReceiver (.receiving []) s := by
  rw [huntByte, if_pos ⟨rfl, rfl⟩, Config.rxPlaces, if_pos h]

/-- 10 R180: with no place free the frame is an overrun. -/
theorem huntByte_overruns {s : State} (h : 2 ≤ s.dlp.held.length) :
    huntByte startByte .high s = linkError .overrun none (setReceiver (.passingOver 0 0) s) := by
  rw [huntByte, if_pos ⟨rfl, rfl⟩, Config.rxPlaces, if_neg (Nat.not_lt.mpr h)]

/-- 10 R180: any other byte is discarded. -/
theorem huntByte_discards {b : Byte} {l : Level} (h : ¬(b = startByte ∧ l = .high)) (s : State) :
    huntByte b l s = s := if_neg fun ⟨hl, hb⟩ => h ⟨hb, hl⟩

theorem headerLength_eq (bytes : List Byte) :
    headerLength bytes = 256 * (bytes.getD 1 0).toNat + (bytes.getD 2 0).toNat := by
  rw [headerLength, wordAt, be16, Nat.mul_comm]

/-- 10 R179: a low stop bit is a FRAMING error. -/
theorem receiveInFrame_low (bytes : List Byte) (s : State) :
    receiveInFrame bytes .low s = discardFrame .framing bytes s := if_pos rfl

/-- 10 R177, R179: so is a length field above 1,040. -/
theorem receiveInFrame_long {bytes : List Byte} (h3 : 3 ≤ bytes.length) (hlong : 1040 < headerLength bytes) (s : State) :
    receiveInFrame bytes .high s = discardFrame .framing bytes s := by
  simp only [receiveInFrame, Config.maxPayload, h3, hlong, and_self, if_true, reduceCtorEq, if_false]

/-- 10 R178: the last check byte has the frame judged. -/
theorem receiveInFrame_last {bytes : List Byte} (h3 : 3 ≤ bytes.length) (hlength : headerLength bytes ≤ 1040)
    (hlast : bytes.length = headerLength bytes + 5) (s : State) :
    receiveInFrame bytes .high s = judgeFrame bytes s := by
  have hshort : ¬(3 ≤ bytes.length ∧ Config.maxPayload < headerLength bytes) := fun h => Nat.not_lt.mpr hlength h.2
  rw [receiveInFrame, if_neg nofun, if_neg hshort, if_pos ⟨h3, hlast⟩]

/-- 10 R177: a header or payload byte is collected. -/
theorem receiveInFrame_collects {bytes : List Byte}
    (h : bytes.length < 3 ∨ headerLength bytes ≤ 1040 ∧ bytes.length ≠ headerLength bytes + 5) (s : State) :
    receiveInFrame bytes .high s = setReceiver (.receiving bytes) s := by
  have hshort : ¬(3 ≤ bytes.length ∧ Config.maxPayload < headerLength bytes) := by
    rw [Config.maxPayload]
    omega
  have hmore : ¬(3 ≤ bytes.length ∧ bytes.length = headerLength bytes + 5) := by omega
  rw [receiveInFrame, if_neg nofun, if_neg hshort, if_neg hmore]

/-! ### The judgement of a frame (10 R178, R179) -/

/-- 10 R191: the kind byte of a known kind. -/
theorem frameKindOf_some {b : Byte} {k : FrameKind} (h : b.toNat = k.code) : frameKindOf b = some k := by
  cases k <;> simp only [frameKindOf, h, FrameKind.code]

theorem frameKindOf_none {b : Byte} (h : ∀ k : FrameKind, b.toNat ≠ k.code) : frameKindOf b = none := by
  unfold frameKindOf
  split
  · exact absurd ‹_› (h .pick)
  · exact absurd ‹_› (h .table)
  · exact absurd ‹_› (h .command)
  · rfl

/-- 10 R178: the check bytes are those of the bytes before them. -/
abbrev CheckHolds (bytes : List Byte) : Prop :=
  encWord (crc16 (bytes.take (bytes.length - 2))) = bytes.drop (bytes.length - 2)

theorem judgeFrame_check {bytes : List Byte} (h : ¬CheckHolds bytes) (s : State) :
    judgeFrame bytes s = discardFrame .check bytes s := if_pos h

theorem judgeFrame_framing {bytes : List Byte} (h : CheckHolds bytes)
    (hk : ∀ k : FrameKind, (bytes.getD 0 0).toNat ≠ k.code) (s : State) :
    judgeFrame bytes s = discardFrame .framing bytes s := by
  simp only [judgeFrame, h, frameKindOf_none hk, ne_eq, not_true_eq_false, if_false]

theorem judgeFrame_holds {bytes : List Byte} (h : CheckHolds bytes) {k : FrameKind}
    (hk : (bytes.getD 0 0).toNat = k.code) (s : State) :
    (judgeFrame bytes s).dlp =
      { s.dlp with
        receiver := .hunt
        held := s.dlp.held ++ [{ kind := k, payload := (bytes.take (bytes.length - 2)).drop 3 }] } := by
  simp only [judgeFrame, h, frameKindOf_some hk, ne_eq, not_true_eq_false, if_false]
  rfl

/-- Settles O6: a start byte in HUNT, and the last check byte of a frame, byte by byte as the receiver takes them. -/
theorem framesBeginAndAreJudged : Obligations.FramesBeginAndAreJudged := by
  refine ⟨fun s hs hhunt => ?begins, fun s before last => ?judged⟩
  case begins =>
    obtain ⟨t, he, honly, hlink⟩ := exec_onLink (c := .frameStart) rfl hs
    rw [commandEffect, receiveByte_hunt (s := linesIdle s) hhunt] at hlink
    refine ⟨t, he, honly, fun hfree => ?_, fun hfull => ?_⟩
    · rwa [huntByte_begins (s := linesIdle s) hfree] at hlink
    · rwa [huntByte_overruns (s := linesIdle s) hfull, linkError_dlp] at hlink
  case judged =>
    intro bytes checked ended errors hs hreceiving h3 hlength hlast
    obtain ⟨t, he, honly, hlink⟩ := exec_onLink (c := .frameReceived last .high) rfl hs
    rw [commandEffect, receiveByte_receiving (s := linesIdle s) hreceiving,
      receiveInFrame_last h3 hlength hlast] at hlink
    refine ⟨t, he, honly, fun hcheck => ?_, fun hcheck => ⟨fun k hk => ?_, fun hk => ?_⟩⟩
    · rwa [judgeFrame_check hcheck, discardFrame_dlp] at hlink
    · rwa [judgeFrame_holds hcheck hk] at hlink
    · rwa [judgeFrame_framing hcheck hk, discardFrame_dlp] at hlink

/-! ### Passing over a frame (10 R180), and gaps between bytes (10 R177) -/

/-- 10 R180: a length field above 1,040 or the last check byte ends the passing over. -/
abbrev PassEnds (seen length : Nat) (b : Byte) : Prop :=
  (seen = 2 ∧ 1040 < passedLength seen length b) ∨ (2 ≤ seen ∧ seen + 1 = passedLength seen length b + 5)

theorem passByte_low (seen length : Nat) (b : Byte) (s : State) :
    passByte seen length b .low s = setReceiver .hunt s := by
  simp only [passByte, if_true]

theorem passByte_ends {seen length : Nat} {b : Byte} (h : PassEnds seen length b) (s : State) :
    passByte seen length b .high s = setReceiver .hunt s := by
  simp only [passByte, Config.maxPayload, reduceCtorEq, if_false]
  by_cases hlong : seen = 2 ∧ 1040 < passedLength seen length b
  · exact if_pos hlong
  · exact (if_neg hlong).trans (if_pos (h.resolve_left hlong))

theorem passByte_passes {seen length : Nat} {b : Byte} (h : ¬PassEnds seen length b) (s : State) :
    passByte seen length b .high s = setReceiver (.passingOver (seen + 1) (passedLength seen length b)) s := by
  obtain ⟨hshort, hmore⟩ := not_or.mp h
  simp only [passByte, Config.maxPayload, reduceCtorEq, if_false]
  exact (if_neg hshort).trans (if_neg hmore)

theorem byteGap_receiving {s : State} {bytes : List Byte} (h : s.dlp.receiver = .receiving bytes) :
    byteGap s = discardFrame .framing bytes s := by
  simp only [byteGap, h]

theorem byteGap_passingOver {s : State} {seen length : Nat} (h : s.dlp.receiver = .passingOver seen length) :
    byteGap s = setReceiver .hunt s := by
  simp only [byteGap, h]

theorem dlrxByte_leaves {s : State} (hs : s.Ready) {b : Byte} {l : Level} {d : Dlp}
    (hd : (receiveByte b l (linesIdle s)).dlp = d) :
    ∃ t, exec (.dlrxByte b l) s = .next t ∧ ChangedOnly [.dlp] s t ∧ LinkLeft d t :=
  hd ▸ exec_onLink (c := .dlrxByte b l) rfl hs

theorem byteGap_leaves {s : State} (hs : s.Ready) {d : Dlp} (hd : (byteGap (linesIdle s)).dlp = d) :
    ∃ t, exec .byteGapTimeout s = .next t ∧ ChangedOnly [.dlp] s t ∧ LinkLeft d t :=
  hd ▸ exec_onLink (c := .byteGapTimeout) rfl hs

/-- Settles O7: what the receiver does with a byte and a gap, state by state. -/
theorem bytesAreCollectedAndGapsDiscard : Obligations.BytesAreCollectedAndGapsDiscard := by
  intro s b hs leaves
  refine ⟨fun hclosed l => ?closed, fun hhunt l hno => ?hunt, fun bytes hreceiving => ?receiving,
    fun seen length hpassing => ?passingOver⟩
  case closed => exact dlrxByte_leaves hs (by rw [receiveByte_closed (s := linesIdle s) hclosed])
  case hunt =>
    exact dlrxByte_leaves hs
      (by rw [receiveByte_hunt (s := linesIdle s) hhunt, huntByte_discards hno])
  case receiving =>
    intro all length errors ended
    have hlength : headerLength all = length := headerLength_eq all
    have hbyte (l : Level) {d : Dlp} (hd : (receiveInFrame all l (linesIdle s)).dlp = d) :
        leaves (.dlrxByte b l) d :=
      dlrxByte_leaves hs (by rwa [receiveByte_receiving (s := linesIdle s) hreceiving])
    refine ⟨fun hmore => hbyte .high ?_, fun h3 hlong => hbyte .high ?_, hbyte .low ?_, byteGap_leaves hs ?_⟩
    · rw [receiveInFrame_collects (by rwa [hlength]), setReceiver_dlp]
    · rw [receiveInFrame_long h3 (by rwa [hlength]), discardFrame_dlp]
      rfl
    · rw [receiveInFrame_low, discardFrame_dlp]
      rfl
    · rw [byteGap_receiving (s := linesIdle s) hreceiving, discardFrame_dlp]
      rfl
  case passingOver =>
    intro read ends
    have hbyte (l : Level) {d : Dlp} (hd : (passByte seen length b l (linesIdle s)).dlp = d) :
        leaves (.dlrxByte b l) d :=
      dlrxByte_leaves hs (by rwa [receiveByte_passingOver (s := linesIdle s) hpassing])
    refine ⟨fun hmore => hbyte .high ?_, fun hends => hbyte .high ?_, hbyte .low ?_, byteGap_leaves hs ?_⟩
    · rw [passByte_passes hmore]
      rfl
    · rw [passByte_ends hends]
      rfl
    · rw [passByte_low]
      rfl
    · rw [byteGap_passingOver (s := linesIdle s) hpassing]
      rfl

/-! ### The transmitter (10 R182 to R184, R188, R191) -/

/-- 10 R178, R191: the frame of a kind and payload, begun in a run state with so many records in PQ. -/
def sentFrame (run : RunState) (queued : Nat) (kind : TxKind) (payload : List Byte) : TxFrame :=
  let checked : List Byte :=
    [BitVec.ofNat 8 kind.code, BitVec.ofNat 8 run.code, BitVec.ofNat 8 (32 - queued)] ++ enc16 payload.length ++ payload
  { kind := kind, bytes := 0xC5 :: checked ++ encWord (crc16 checked), beforeReset := false }

theorem sendFrame_dlp (kind : TxKind) (payload : List Byte) (s : State) :
    (sendFrame kind payload s).dlp =
      { s.dlp with transmitter := some (sentFrame s.run.state s.psq.queue.length kind payload) } := rfl

/-- 10 R184, log 11: an IDLE transmitter that holds its choice back waits on. -/
theorem LinkLeft.waits {d : Dlp} {t : State} (h : LinkLeft d t) (hi : d.transmitter = none) (hw : 2 ≤ d.choiceWait) :
    t.dlp = { d with choiceWait := d.choiceWait - 1 } := by
  rw [h, kickTransmitter, if_neg (by simp [hi]), if_neg (Nat.not_le.mpr hw)]
  rfl

/-- 10 R184, log 11: one whose choice is due makes it. -/
theorem LinkLeft.chooses {d : Dlp} {t : State} (h : LinkLeft d t) (hi : d.transmitter = none) (hw : d.choiceWait ≤ 1) :
    t.dlp = (beginFrame { t with dlp := { d with choiceWait := 0 } }).dlp := by
  rw [h, kickTransmitter, if_neg (by simp [hi]), if_pos hw]
  rfl

/-- 10 R184: the answer waiting goes first. -/
theorem LinkLeft.answers {d : Dlp} {t : State} (h : LinkLeft d t) (hi : d.transmitter = none) (hw : d.choiceWait ≤ 1)
    {a : Answer} (ha : d.answer = some a) :
    t.dlp =
      { d with
        choiceWait := 0, transmitter := some (sentFrame t.run.state t.psq.queue.length .answer a.payload) } := by
  rw [h.chooses hi hw]
  simp only [beginFrame, ha, sendFrame_dlp]

/-- 10 R183, R184: with none, the oldest record, the lost flag copied into its frame and cleared. -/
theorem LinkLeft.reports {d : Dlp} {t : State} (h : LinkLeft d t) (hi : d.transmitter = none) (hw : d.choiceWait ≤ 1)
    (ha : d.answer = none) {e : Event} {rest : List Event} (he : d.events = e :: rest) :
    t.dlp =
      { d with
        choiceWait := 0, events := rest, lost := false
        transmitter := some (sentFrame t.run.state t.psq.queue.length .event (e.payload d.lost)) } := by
  rw [h.chooses hi hw]
  simp only [beginFrame, ha, he, sendFrame_dlp]

/-- 10 R184: with neither, nothing is sent. -/
theorem LinkLeft.rests {d : Dlp} {t : State} (h : LinkLeft d t) (hi : d.transmitter = none) (hw : d.choiceWait ≤ 1)
    (ha : d.answer = none) (he : d.events = []) : t.dlp = { d with choiceWait := 0 } := by
  rw [h.chooses hi hw]
  simp only [beginFrame, ha, he]

/-- 10 R182, R188: the link with the frame `f` sent and no choice held back. -/
def Dlp.frameSent (f : TxFrame) (d : Dlp) : Dlp :=
  let emptied : Dlp := { d with transmitter := none, choiceWait := 0 }
  if f.beforeReset then emptied
  else
    match f.kind with
    | .answer => { emptied with answer := none }
    | .event => { emptied with receiver := if d.receiver = .closed then .hunt else d.receiver }

theorem Dlp.frameSent_frame (f : TxFrame) (d : Dlp) :
    (d.frameSent f).transmitter = none ∧ (d.frameSent f).choiceWait = 0 ∧ (d.frameSent f).lost = d.lost := by
  simp only [Dlp.frameSent]
  repeat' split
  all_goals exact ⟨rfl, rfl, rfl⟩

theorem transmitEnd_dlp {f : TxFrame} {s : State} (h : s.dlp.transmitter = some f) (wait : Nat) :
    (transmitEnd wait s).dlp = { s.dlp.frameSent f with choiceWait := wait + 1 } := by
  simp only [transmitEnd, h, setChoiceWait_dlp, endFrame, Dlp.frameSent]
  cases f.beforeReset with
  | true => rfl
  | false =>
    cases f.kind with
    | answer => rfl
    | event =>
      by_cases hclosed : s.dlp.receiver = .closed <;> simp [hclosed]

/-- 10 R187: QUERY_COUNTERS is answered, and changes nothing else. -/
theorem queryCounters_answered {p : List Byte} {rest : List RxFrame} {s : State} (h : Taking .queryCounters p rest s) :
    ∃ a, Answered .queryCounters a rest s :=
  ⟨_, answered_command (c := .queryCounters) (eff := fun _ u => answerQuery 6 (countersContent u) u) h rfl rfl⟩

/-- Settles O8: the frame sent is ended, and the transmitter's choice is made by the link as that leaves it, or waits. -/
theorem transmitFrameEndEmptiesOrOpens : Obligations.TransmitFrameEndEmptiesOrOpens := by
  refine ⟨fun s f wait hs hf => ?ends, fun s p rest h hidle => ?waits⟩
  case ends =>
    intro emptied ended sent
    obtain ⟨t, he, honly, hlink⟩ := exec_onLink (c := .transmitFrameEnd wait) rfl hs
    rw [commandEffect, transmitEnd_dlp (s := linesIdle s) hf] at hlink
    obtain ⟨hidle, hzero, hlost⟩ := s.dlp.frameSent_frame f
    have hheader (kind : TxKind) (payload : List Byte) :
        sentFrame t.run.state t.psq.queue.length kind payload =
          sentFrame s.run.state s.psq.queue.length kind payload := by
      obtain ⟨-, -, -, -, -, hpsq, -, -, -, -, -, -, hrun⟩ := honly
      rw [hrun.resolve_left (by decide), hpsq.resolve_left (by decide)]
    refine ⟨t, he, honly, fun hwait => ?_, fun hwait => ?_⟩
    · exact hlink.waits hidle (Nat.succ_le_succ hwait)
    · subst hwait
      refine ⟨fun a ha => ?_, fun e rest ha he => ?_, fun ha he => ?_⟩
      · rw [hlink.answers hidle (Nat.le_refl 1) ha, hheader]
        exact hzero ▸ rfl
      · rw [hlink.reports hidle (Nat.le_refl 1) ha he, hheader]
        exact hzero ▸ hlost ▸ rfl
      · rw [hlink.rests hidle (Nat.le_refl 1) ha he]
        exact hzero ▸ rfl
  case waits =>
    obtain ⟨a, t, he, -, hlink⟩ := queryCounters_answered h
    by_cases hw : s.dlp.choiceWait ≤ 1
    · have hdlp := hlink.answers hidle hw rfl
      exact ⟨t, he, by rw [hdlp]; rfl, fun h2 => by omega, fun _ => by rw [hdlp]; exact ⟨rfl, rfl⟩⟩
    · have hdlp := hlink.waits hidle (Nat.not_le.mp hw)
      exact ⟨t, he, by rw [hdlp]; rfl, fun _ => by rw [hdlp]; exact ⟨hidle, rfl⟩, fun h1 => absurd h1 hw⟩

/-! ### RESET_RELEASE (11 R199, R200) -/

/-- The part as RESETn goes high, every block at its hard-reset values (11 R200). -/
def released (s : State) : State := { State.reset with pending := s.pending, resetLine := .high }

/-- 09 R174, 10 R196, R197: RUN_STATE with OFFLINE from OFFLINE and no causes, the lost flag clear. -/
theorem runState_offline_payload :
    Event.payload (.runState .offline .offline none none none) false = [3, 0, 0, 0, 0, 0, 0, 0, 0, 0, 0, 0, 0] := by
  decide

/-- 11 R200: RUN_STATE is the one record of the event queue, and its frame begins at once. -/
theorem released_begins (s : State) :
    kickTransmitter (postRunState .offline none (released s)) =
      { released s with
        dlp :=
          { Dlp.hardReset with
            transmitter := some (sentFrame .offline 0 .event [3, 0, 0, 0, 0, 0, 0, 0, 0, 0, 0, 0, 0]) } } := by
  rw [← runState_offline_payload]
  rfl

/-- Settles O5: RUN_STATE is posted into the empty queue of the reset state, and its frame begins. -/
theorem resetReleaseStartsThePart : Obligations.ResetReleaseStartsThePart := by
  refine ⟨fun s => ⟨fun hlow => ?low, fun hhigh => ?high⟩, fun c s hlow hhard hrelease => ?held⟩
  case low =>
    intro checked
    refine ⟨_, if_pos hlow, (released_begins s).trans ?_⟩
    rfl
  case high => exact if_neg (by simp [hhigh])
  case held =>
    have hline : Instr.ofResetLine c = false := by
      cases c with
      | hardReset => exact absurd rfl hhard
      | resetRelease => exact absurd rfl hrelease
      | _ => rfl
    rw [exec_eq_command c s hline, command_low _ s hlow]

end Sys2Proof.Machine
